-- ==== Sys2Proof/Word.lean ====
section
/-! DEFINITION. The words the link and the converters carry (R101, R133, R180). -/

namespace Sys2Proof

/-- One byte of a frame, a payload or a record revision (R180, "Records and revisions"). -/
abbrev Byte := BitVec 8

/-- One signed sample of the converter chain, from −2048 to +2047 (R101). -/
abbrev Sample := BitVec 12

/-- One reading of BMEAS or BREF, a whole number of microamperes from 0 to 4095 (R133). -/
abbrev Microamps := BitVec 12

/-- A set of signal groups or of detector inputs, bit n standing for number n (R188). -/
abbrev Set16 := BitVec 16

end Sys2Proof
end

