-- ==== Sys2Proof/Syntax.lean ====
section
/-! DEFINITION. The commands of the KS-2230: one constructor of `Instr` for each row of spec/opcode_table.json. -/

namespace Sys2Proof

/-- What a command frame carries besides its command code and its payload (R180). -/
structure Header where
  /-- byte 1 of the frame -/
  table : Byte
  /-- byte 2 of the frame -/
  index : Byte
  /-- byte 4 of the frame where the flags byte is 1, absent where it is 0 -/
  expected : Option Byte
  /-- how many whole bytes the host clocked between the fall and the rise of CSn, fill included -/
  clocked : Nat
deriving DecidableEq, Repr

/-- The two sources of tenths (R26, R27). -/
inductive TenthSource where
  | cycles
  | crystal
deriving DecidableEq, Repr

/-- Where the time base's own turn at a tenth stands among the other blocks' (log entry 12). -/
inductive ClockTurn where
  /-- before the sequencer, the cable monitor and the supervisor -/
  | beforeAll
  /-- after the sequencer and before the other two -/
  | afterSequencer
  /-- after all three -/
  | afterAll
deriving DecidableEq, Repr

/-- What a tenth tick finds at the bridge pins, and which of the orders the manual allows the blocks take it in. -/
structure TenthInput where
  /-- BMEAS: the leakage of the selected cable (R133) -/
  bmeas : Microamps
  /-- BREF: the leakage of the reference (R133) -/
  bref : Microamps
  /-- the turn of the time of day and the schedule unit (R29, R46) -/
  clock : ClockTurn
  /-- the cable monitor's queue work is taken before the supervisor's judgement (R168: either may be first) -/
  queueFirst : Bool
deriving DecidableEq, Repr

/-- Which of the orders the manual allows the blocks take a cycle tick in (log entry 11). -/
structure TickOrder where
  /-- the place of the sequencer's proposal and its examination among the proving unit and the three works that follow
  it, in their order: 0 before the proving unit, 4 after the last of the three (R131, R95, R158) -/
  sequencerTurn : Fin 5
  /-- the cable monitor is taken before the proven-conflict count (R127, R154) -/
  cablesFirst : Bool
  /-- the place of the working-out of the red availability after a raised verdict among those two: 0 before both, 2 after
  both (R127, R155, R158) -/
  verdictTurn : Fin 3
  /-- the dim settle is counted before the readings are judged (R52, R122) -/
  settleFirst : Bool
  /-- a mains-return is taken before the tenth tick its cycle tick gave rise to (R22, R23) -/
  returnFirst : Bool
  /-- a mains-return is taken by the schedule unit before the supervisor (R47, R150) -/
  scheduleFirst : Bool
deriving DecidableEq, Repr

/-- What a cycle tick finds at the pins, the tenth tick it may give rise to included (R23). -/
structure TickInput where
  /-- the levels of DET0 to DET15 (R79) -/
  det : Set16
  tenth : TenthInput
  order : TickOrder
deriving DecidableEq, Repr

/-- An edge on ZX (R18): its instant, in nanoseconds of the crystal's time, and what its cycle tick finds. -/
structure CrossingInput where
  instant : Nat
  tick : TickInput
deriving DecidableEq, Repr

/-- The commands, events and steps of spec/opcode_table.json, in the table's order. A constructor that carries a
`Header` and a payload is a frame of the command link; the others are events on the part's pins and steps of the
part's own blocks. -/
inductive Instr where
  -- frames of the command link (R180 to R188)
  | read (h : Header) (payload : List Byte)
  | writeGroup (h : Header) (payload : List Byte)
  | writeConflict (h : Header) (payload : List Byte)
  | writeChannel (h : Header) (payload : List Byte)
  | writeProfile (h : Header) (payload : List Byte)
  | writeCable (h : Header) (payload : List Byte)
  | writePlan (h : Header) (payload : List Byte)
  | writeStage (h : Header) (payload : List Byte)
  | writeSchedule (h : Header) (payload : List Byte)
  | writeDetector (h : Header) (payload : List Byte)
  | writeJunction (h : Header) (payload : List Byte)
  | retirePlan (h : Header) (payload : List Byte)
  | retireStage (h : Header) (payload : List Byte)
  | retireSchedule (h : Header) (payload : List Byte)
  | poll (h : Header) (payload : List Byte)
  | linkError (received : List Byte)
  | unknown (code : Byte) (h : Header) (payload : List Byte)
  | commit (h : Header) (payload : List Byte)
  | commitComplete
  | loadPlan (h : Header) (payload : List Byte)
  | loadPlanComplete
  | start (h : Header) (payload : List Byte)
  | stop (h : Header) (payload : List Byte)
  | dark (h : Header) (payload : List Byte)
  | restart (h : Header) (payload : List Byte)
  | forceFailsafe (h : Header) (payload : List Byte)
  | selectPlanOverride (h : Header) (payload : List Byte)
  | selectPlanFollow (h : Header) (payload : List Byte)
  | setTime (h : Header) (payload : List Byte)
  | setDimFollow (h : Header) (payload : List Byte)
  | setDimBright (h : Header) (payload : List Byte)
  | setDimDim (h : Header) (payload : List Byte)
  | testCables (h : Header) (payload : List Byte)
  | relearn (h : Header) (payload : List Byte)
  | clearFaultChannel (h : Header) (payload : List Byte)
  | clearFaultCable (h : Header) (payload : List Byte)
  | clearFaultJunction (h : Header) (payload : List Byte)
  | probe (h : Header) (payload : List Byte)
  | attend (h : Header) (payload : List Byte)
  | ack (h : Header) (payload : List Byte)
  | release (h : Header) (payload : List Byte)
  | maskSet (h : Header) (payload : List Byte)
  | maskClear (h : Header) (payload : List Byte)
  -- pins and supplies
  | mkeyChange (active : Bool)
  | mainReset
  | retentionLoss
  | mainPowerLoss
  | retentionTenth
  -- the mains
  | zeroCrossing (x : CrossingInput)
  | lockAcquired (x : CrossingInput)
  | firstWindowExpiry (i : TickInput)
  | secondWindowExpiry
  -- steps of a cycle tick
  | learnComplete (c : Fin 64)
  | streakConfirm (c : Fin 64)
  | surgeEnd (c : Fin 64)
  | settleEnd (c : Fin 64)
  | releaseEnd (c : Fin 64)
  | dimSettleEnd
  | openReturnConfirm (k : Fin 16)
  | balanceConfirm (k : Fin 16)
  | provenConflict (i j : Fin 16)
  -- the tenth tick and its steps
  | tenthTick (source : TenthSource) (i : TenthInput)
  | leavingEnd (g : Fin 16)
  | prepStart (g : Fin 16)
  | greenStart (g : Fin 16)
  | minGreenEnd
  | maxOut
  | gapOut
  | detectorFaulty (d : Fin 16)
  | testStart (bref : Microamps)
  | chargeEnd
  | testComplete (bmeas : Microamps)
  | testTimeout (k : Fin 16)
  | darkTestEnd
  | darkTestLimit
  | allRedEnd
  -- the converter chain
  | samplePosition (frame : Vector Sample 80)
deriving DecidableEq, Repr

end Sys2Proof
end

