-- ==== Sys2Proof/Decode.lean ====
section
/-! DEFINITION. Reading commands. spec/opcode_table.json gives no row any bits, so `decodeTableWord` reads nothing;
`decodeFrame` reads the frames of the command link (R180, R186), and `encodeFrame` writes them. -/

namespace Sys2Proof

/-- The command a table word spells: no row of the table has bits. -/
def decodeTableWord (_nbits _w : Nat) : Option Instr := none

/-! ## CRC-16 (R180) -/

/-- One bit, most significant first, of the polynomial x^16 + x^12 + x^5 + 1. -/
def crcBit (crc : BitVec 16) (bit : Bool) : BitVec 16 :=
  if crc.msb != bit then (crc <<< 1) ^^^ 0x1021 else crc <<< 1

def crcByte (crc : BitVec 16) (b : Byte) : BitVec 16 :=
  [7, 6, 5, 4, 3, 2, 1, 0].foldl (fun c i => crcBit c (b.getLsbD i)) crc

/-- The CRC of a run of bytes, from all ones, with no final inversion (R180). -/
def crc16 (bytes : List Byte) : BitVec 16 := bytes.foldl crcByte 0xFFFF

/-- The two CRC bytes, most significant first. -/
def crcBytes (bytes : List Byte) : List Byte :=
  [(crc16 bytes).extractLsb' 8 8, (crc16 bytes).extractLsb' 0 8]

/-! ## The bits of a frame (R180) -/

def byteOfBits (b7 b6 b5 b4 b3 b2 b1 b0 : Bool) : Byte :=
  BitVec.ofNat 8 (b7.toNat * 128 + b6.toNat * 64 + b5.toNat * 32 + b4.toNat * 16 + b3.toNat * 8 + b2.toNat * 4 +
    b1.toNat * 2 + b0.toNat)

/-- The whole bytes clocked, most significant bit first; the bits of an incomplete last byte are discarded (R180). -/
def frameBytes : List Bool → List Byte
  | b7 :: b6 :: b5 :: b4 :: b3 :: b2 :: b1 :: b0 :: rest => byteOfBits b7 b6 b5 b4 b3 b2 b1 b0 :: frameBytes rest
  | _ => []

/-- The bits of a byte in the order they are clocked, most significant first (R180). -/
def byteBits (b : Byte) : List Bool :=
  [b.getLsbD 7, b.getLsbD 6, b.getLsbD 5, b.getLsbD 4, b.getLsbD 3, b.getLsbD 2, b.getLsbD 1, b.getLsbD 0]

/-! ## Frames (R180) -/

/-- A frame that passes: its command code, its header and its payload. -/
structure Frame where
  code : Byte
  header : Header
  payload : List Byte
deriving DecidableEq, Repr

/-- The expected revision, read only where the flags byte is 1; no value where flags is neither 0 nor 1. -/
def flagsOf (flags rev : Byte) : Option (Option Byte) :=
  if flags = 0 then some none else if flags = 1 then some (some rev) else none

/-- The check of a frame when CSn rises (R180); absent where the frame fails. -/
def checkFrame (bytes : List Byte) : Option Frame :=
  match bytes with
  | code :: table :: index :: flags :: rev :: n1 :: n0 :: rest =>
    let n := n1.toNat * 256 + n0.toNat
    if n ≤ 256 && n + 2 ≤ rest.length &&
        (rest.drop n).take 2 == crcBytes (code :: table :: index :: flags :: rev :: n1 :: n0 :: rest.take n) then
      (flagsOf flags rev).map fun e =>
        { code := code, header := { table := table, index := index, expected := e, clocked := bytes.length },
          payload := rest.take n }
    else none
  | _ => none

/-! ## Command codes (R186) -/

/-- The WRITE row of a table number. A number that is no table is left to WRITE_GROUP, which refuses it NO_TABLE. -/
def writeOf (h : Header) (p : List Byte) : Instr :=
  match h.table.toNat with
  | 2 => .writeConflict h p
  | 3 => .writeChannel h p
  | 4 => .writeProfile h p
  | 5 => .writeCable h p
  | 6 => .writePlan h p
  | 7 => .writeStage h p
  | 8 => .writeSchedule h p
  | 9 => .writeDetector h p
  | 10 => .writeJunction h p
  | _ => .writeGroup h p

/-- The RETIRE row of a table number. A table RETIRE does not take is left to RETIRE_PLAN, which refuses it. -/
def retireOf (h : Header) (p : List Byte) : Instr :=
  match h.table.toNat with
  | 7 => .retireStage h p
  | 8 => .retireSchedule h p
  | _ => .retirePlan h p

/-- The CLEAR_FAULT row of a table number. A table it does not take is left to CLEAR_FAULT_CHANNEL. -/
def clearFaultOf (h : Header) (p : List Byte) : Instr :=
  match h.table.toNat with
  | 5 => .clearFaultCable h p
  | 10 => .clearFaultJunction h p
  | _ => .clearFaultChannel h p

/-- The SELECT_PLAN row of a form byte. A payload without a form 1 is left to SELECT_PLAN_FOLLOW. -/
def selectPlanOf (h : Header) (p : List Byte) : Instr :=
  match p with
  | 1 :: _ => .selectPlanOverride h p
  | _ => .selectPlanFollow h p

def setDimOf (h : Header) (p : List Byte) : Instr :=
  match p with
  | 1 :: _ => .setDimBright h p
  | 2 :: _ => .setDimDim h p
  | _ => .setDimFollow h p

def maskOf (h : Header) (p : List Byte) : Instr :=
  match p with
  | 1 :: _ => .maskClear h p
  | _ => .maskSet h p

/-- The command of a frame that passed its check (R182 step 2, R186). -/
def commandOf (f : Frame) : Instr :=
  let h := f.header
  let p := f.payload
  match f.code.toNat with
  | 1 => .read h p
  | 2 => writeOf h p
  | 3 => retireOf h p
  | 4 => .poll h p
  | 16 => .commit h p
  | 17 => .loadPlan h p
  | 18 => .start h p
  | 19 => .stop h p
  | 20 => .dark h p
  | 21 => .restart h p
  | 22 => .forceFailsafe h p
  | 23 => selectPlanOf h p
  | 24 => .setTime h p
  | 25 => setDimOf h p
  | 26 => .testCables h p
  | 27 => .relearn h p
  | 28 => clearFaultOf h p
  | 29 => .probe h p
  | 32 => .attend h p
  | 33 => .ack h p
  | 34 => .release h p
  | 35 => maskOf h p
  | _ => .unknown f.code h p

/-- The command a frame brings when CSn rises: LINK_ERROR where it fails its check (R180). -/
def decodeFrame (bytes : List Byte) : Instr :=
  match checkFrame bytes with
  | some f => commandOf f
  | none => .linkError bytes

/-- The frame a command of the link was read from; none for an event that is no frame. -/
def frameOf : Instr → Option Frame
  | .read h p => some ⟨1, h, p⟩
  | .writeGroup h p => some ⟨2, h, p⟩
  | .writeConflict h p => some ⟨2, h, p⟩
  | .writeChannel h p => some ⟨2, h, p⟩
  | .writeProfile h p => some ⟨2, h, p⟩
  | .writeCable h p => some ⟨2, h, p⟩
  | .writePlan h p => some ⟨2, h, p⟩
  | .writeStage h p => some ⟨2, h, p⟩
  | .writeSchedule h p => some ⟨2, h, p⟩
  | .writeDetector h p => some ⟨2, h, p⟩
  | .writeJunction h p => some ⟨2, h, p⟩
  | .retirePlan h p => some ⟨3, h, p⟩
  | .retireStage h p => some ⟨3, h, p⟩
  | .retireSchedule h p => some ⟨3, h, p⟩
  | .poll h p => some ⟨4, h, p⟩
  | .linkError _ => none
  | .unknown c h p => some ⟨c, h, p⟩
  | .commit h p => some ⟨16, h, p⟩
  | .commitComplete => none
  | .loadPlan h p => some ⟨17, h, p⟩
  | .loadPlanComplete => none
  | .start h p => some ⟨18, h, p⟩
  | .stop h p => some ⟨19, h, p⟩
  | .dark h p => some ⟨20, h, p⟩
  | .restart h p => some ⟨21, h, p⟩
  | .forceFailsafe h p => some ⟨22, h, p⟩
  | .selectPlanOverride h p => some ⟨23, h, p⟩
  | .selectPlanFollow h p => some ⟨23, h, p⟩
  | .setTime h p => some ⟨24, h, p⟩
  | .setDimFollow h p => some ⟨25, h, p⟩
  | .setDimBright h p => some ⟨25, h, p⟩
  | .setDimDim h p => some ⟨25, h, p⟩
  | .testCables h p => some ⟨26, h, p⟩
  | .relearn h p => some ⟨27, h, p⟩
  | .clearFaultChannel h p => some ⟨28, h, p⟩
  | .clearFaultCable h p => some ⟨28, h, p⟩
  | .clearFaultJunction h p => some ⟨28, h, p⟩
  | .probe h p => some ⟨29, h, p⟩
  | .attend h p => some ⟨32, h, p⟩
  | .ack h p => some ⟨33, h, p⟩
  | .release h p => some ⟨34, h, p⟩
  | .maskSet h p => some ⟨35, h, p⟩
  | .maskClear h p => some ⟨35, h, p⟩
  | .mkeyChange _ => none
  | .mainReset => none
  | .retentionLoss => none
  | .mainPowerLoss => none
  | .retentionTenth => none
  | .zeroCrossing _ => none
  | .lockAcquired _ => none
  | .firstWindowExpiry _ => none
  | .secondWindowExpiry => none
  | .learnComplete _ => none
  | .streakConfirm _ => none
  | .surgeEnd _ => none
  | .settleEnd _ => none
  | .releaseEnd _ => none
  | .dimSettleEnd => none
  | .openReturnConfirm _ => none
  | .balanceConfirm _ => none
  | .provenConflict _ _ => none
  | .tenthTick _ _ => none
  | .leavingEnd _ => none
  | .prepStart _ => none
  | .greenStart _ => none
  | .minGreenEnd => none
  | .maxOut => none
  | .gapOut => none
  | .detectorFaulty _ => none
  | .testStart _ => none
  | .chargeEnd => none
  | .testComplete _ => none
  | .testTimeout _ => none
  | .darkTestEnd => none
  | .darkTestLimit => none
  | .allRedEnd => none
  | .samplePosition _ => none

/-- The bytes a frame's CRC is computed over (R180). -/
def Frame.body (f : Frame) : List Byte :=
  [f.code, f.header.table, f.header.index, (match f.header.expected with
    | none => 0
    | some _ => 1), f.header.expected.getD 0,
    BitVec.ofNat 8 (f.payload.length / 256), BitVec.ofNat 8 f.payload.length] ++ f.payload

/-- The bytes of a frame: its body, the CRC, and fill up to the bytes clocked (R180). -/
def encodeFrame (f : Frame) : List Byte :=
  let sent := f.body ++ crcBytes f.body
  sent ++ List.replicate (f.header.clocked - sent.length) 0

end Sys2Proof
end

