-- ==== Sys2Proof/Config.lean ====
section
/-! DEFINITION. The values the manual leaves open, as constants without a body: nothing can be proved of their value. -/

namespace Sys2Proof.Config

/-- FREE VALUE (log entry 9): the four resistance bytes that a READ of cable k returns while the cable's
last insulation result is absent (R188 gives the mark 0 and no resistance). DESIGN CHOICE. -/
opaque absentResistance (k : Nat) : BitVec 32

end Sys2Proof.Config
end

