-- ==== Sys2Proof/Machine/State.lean ====
section
/-! DEFINITION. The state of the KS-2230 as plain data: the ten tables of records, the state each block holds
outside them, the retention domain, the pins the part drives, and the queue of commands that wait. -/

namespace Sys2Proof.Machine

/-! ## The tables -/

/-- The ten tables, in the order of their numbers 1 to 10 (manual, "Names and numbering"). -/
inductive Table where
  | group | conflict | channel | profile | cable | plan | stage | schedule | detector | junction
deriving DecidableEq, Repr

/-- A (table, index) pair: the name of a record, as blocks post it and the host acknowledges it (R173). -/
structure RecordName where
  table : Table
  index : Nat
deriving DecidableEq, Repr

/-! ### GROUP records (R1) -/

inductive Kind where
  | unused | vehicle | pedestrian
deriving DecidableEq, Repr

inductive Aspect where
  | red | prep | green | leaving | dark
deriving DecidableEq, Repr

/-- The five fields a WRITE to GROUP carries (R1, R7). Times are in tenths. -/
structure GroupConfig where
  kind : Kind
  secondRed : Bool
  redsRequired : Nat
  prepTime : Nat
  leavingTime : Nat
deriving DecidableEq, Repr

structure Group where
  cfg : GroupConfig
  aspect : Aspect
  /-- the dark cause ISOLATED_CABLE (R76) -/
  isolatedCable : Bool
  /-- the dark cause RED_OUT (R76) -/
  redOut : Bool
  stateTimer : Nat
  sinceGreen : Nat
  rev : Byte
deriving DecidableEq, Repr

/-! ### CONFLICT rows (R9) -/

/-- Row i: for each column j the intergreen from Gi to Gj, absent where the entry is NONE. -/
structure ConflictRow where
  entry : Vector (Option Nat) 16
  rev : Byte
deriving DecidableEq, Repr

/-! ### CHANNEL records (R82, R83) -/

/-- A cycle reading with its saturated mark (R106). -/
structure Reading where
  mA : Nat
  saturated : Bool
deriving DecidableEq, Repr

/-- The kinds of bad reading, from the least severe to the most (R118). -/
inductive BadKind where
  | partialLoss | over | out | stuckOn
deriving DecidableEq, Repr

inductive Phase where
  | off | surge | settle | steady | release
deriving DecidableEq, Repr

/-- The three fields a WRITE to CHANNEL carries (R84). -/
structure ChannelConfig where
  profile : Fin 8
  cable : Option (Fin 16)
  dimmable : Bool
deriving DecidableEq, Repr

/-- A brightness part (R83). Reference and baseline are in sixteenths of a milliampere. -/
structure Part where
  learned : Bool
  learnSum : Nat
  learnCount : Nat
  reference : Nat
  baseline : Nat
deriving DecidableEq, Repr

structure Channel where
  cfg : ChannelConfig
  /-- the latched verdict, absent where it is NONE -/
  verdict : Option BadKind
  learnFailed : Bool
  bright : Part
  dim : Option Part
  /-- the command in force, true for on (R90) -/
  command : Bool
  phase : Phase
  remaining : Nat
  lastReading : Reading
  seenLit : Bool
  badStreak : Nat
  /-- the worst kind, absent where it is none -/
  worst : Option BadKind
  rev : Byte
deriving DecidableEq, Repr

/-! ### PROFILE records (R87) -/

structure ProfileConfig where
  surgeCode : Nat
  settleCode : Nat
  releaseCode : Nat
  bandLow : Nat
  bandHigh : Nat
  out : Nat
  offLimit : Nat
  confirmCount : Nat
  tracking : Bool
deriving DecidableEq, Repr

structure Profile where
  cfg : ProfileConfig
  rev : Byte
deriving DecidableEq, Repr

/-! ### CABLE records (R123) -/

inductive CableState where
  | unused | monitored | isolated
deriving DecidableEq, Repr

inductive CableAction where
  | report | isolate
deriving DecidableEq, Repr

inductive Route where
  | urgent | notice
deriving DecidableEq, Repr

inductive CableFault where
  | balance | openReturn | insulation
deriving DecidableEq, Repr

structure FaultSet where
  balance : Bool
  openReturn : Bool
  insulation : Bool
deriving DecidableEq, Repr

inductive RangeMark where
  | aboveRange | belowRange | inRange
deriving DecidableEq, Repr

structure InsulationResult where
  kOhm : Nat
  mark : RangeMark
deriving DecidableEq, Repr

inductive TestStatus where
  | none | pending | testing | passed | failed | timedOut | abandoned
deriving DecidableEq, Repr

structure Cable where
  state : CableState
  action : CableAction
  route : Route
  tolerance : Nat
  limit : Nat
  faults : FaultSet
  suspect : Bool
  result : Option InsulationResult
  status : TestStatus
  lastResidual : Reading
  lastReturn : Reading
  balanceStreak : Nat
  openStreak : Nat
  rev : Byte
deriving DecidableEq, Repr

/-! ### PLAN, STAGE and SCHEDULE records (R34, R35, R45) -/

structure Plan where
  /-- LOADED where true, EMPTY where false -/
  loaded : Bool
  entry : Fin 96
  changePoint : Fin 96
  length : Nat
  rev : Byte
deriving DecidableEq, Repr

/-- The structural fields of a stage descriptor (R35). -/
structure StageShape where
  groups : Set16
  calls : Set16
  holders : Set16
  demand : Bool
  next : Fin 96
deriving DecidableEq, Repr

/-- The timing fields of a stage descriptor, in tenths (R35). -/
structure StageTiming where
  minGreen : Nat
  maxGreen : Nat
  step : Nat
deriving DecidableEq, Repr

structure Stage where
  /-- DEFINED where true, EMPTY where false -/
  isDefined : Bool
  owner : Option (Fin 8)
  shape : StageShape
  timing : StageTiming
  rev : Byte
deriving DecidableEq, Repr

inductive EntryState where
  | empty | enabled | disabled
deriving DecidableEq, Repr

inductive Dimming where
  | bright | dim
deriving DecidableEq, Repr

/-- The six fields a WRITE to SCHEDULE carries (R45); bit d − 1 of `days` stands for day d. -/
structure ScheduleConfig where
  state : EntryState
  days : BitVec 7
  hour : Nat
  minute : Nat
  plan : Fin 8
  dimming : Dimming
deriving DecidableEq, Repr

structure ScheduleEntry where
  cfg : ScheduleConfig
  rev : Byte
deriving DecidableEq, Repr

/-! ### DETECTOR records (R78) -/

structure DetectorConfig where
  enabled : Bool
  invert : Bool
  /-- in minutes; 0 means no check -/
  stuckLimit : Nat
deriving DecidableEq, Repr

structure Detector where
  cfg : DetectorConfig
  faulty : Bool
  /-- the previous sample, true for active -/
  previous : Bool
  /-- the level, true for ACTIVE -/
  level : Bool
  latch : Bool
  activeRun : Nat
  rev : Byte
deriving DecidableEq, Repr

/-! ## The time base (R17, R25, R27, R29, R33) -/

inductive MainsState where
  | locked | slip1 | mainsLost | acquiring
deriving DecidableEq, Repr

inductive Opening where
  | crossing | substitute
deriving DecidableEq, Repr

inductive Frequency where
  | hz50 | hz60
deriving DecidableEq, Repr

structure TimeOfDay where
  day : Nat
  hour : Nat
  minute : Nat
  second : Nat
  tenth : Nat
deriving DecidableEq, Repr

structure TimeBase where
  tracker : MainsState
  /-- the instant of the reference crossing, in nanoseconds of the crystal's time -/
  reference : Option Nat
  goodCount : Nat
  opening : Opening
  frequency : Frequency
  source : TenthSource
  divider : Nat
  /-- crystal periods counted of the pattern tenth under way, as each event leaves it (log entry 14) -/
  crystalCount : Nat
  /-- the position in the crystal's five-tenth pattern, 0 to 4 (R27) -/
  crystalTenth : Nat
  time : TimeOfDay
  timeValid : Bool
  retentionValid : Bool
  /-- main power is present -/
  mainPower : Bool
deriving DecidableEq, Repr

/-! ## The schedule unit (R46, R48, R49, R51, R52) -/

inductive PlanSource where
  | schedule | override
deriving DecidableEq, Repr

inductive DimOverride where
  | follow | bright | dim
deriving DecidableEq, Repr

structure ScheduleUnit where
  scheduledPlan : Fin 8
  scheduledDimming : Dimming
  source : PlanSource
  overridePlan : Fin 8
  requested : Option (Fin 8)
  dimOverride : DimOverride
  dimState : Dimming
  dimSettle : Nat
  /-- the DIM output, true for driven -/
  dimPin : Bool
deriving DecidableEq, Repr

/-! ## The stage sequencer (R55, R64, R68) -/

inductive SeqState where
  | stopped | allRed | interstage | minGreen | extending | resting | suspended
deriving DecidableEq, Repr

/-- The running stage context (R68). The demand arrival is present exactly while `maxTimer` is. -/
structure Context where
  descriptor : Fin 96
  timing : StageTiming
  calls : Set16
  holders : Set16
  greenTimer : Nat
  extTimer : Nat
  maxTimer : Option Nat
deriving DecidableEq, Repr

structure Gainer where
  group : Fin 16
  prepStart : Nat
  greenStart : Nat
deriving DecidableEq, Repr

/-- The interstage record (R55). -/
structure Interstage where
  leaving : Option (Fin 96)
  entering : Fin 96
  timer : Nat
  losers : List (Fin 16)
  gainers : List Gainer
deriving DecidableEq, Repr

structure Sequencer where
  state : SeqState
  running : Option (Fin 8)
  pending : Option (Fin 8)
  current : Option (Fin 96)
  context : Option Context
  interstage : Option Interstage
  allBarred : Bool
deriving DecidableEq, Repr

/-! ## The sampler (R102 to R104) -/

/-- A sum-of-squares accumulator with its saturated mark (R103). -/
structure Accumulator where
  sum : Nat
  saturated : Bool
deriving DecidableEq, Repr

structure Sampler where
  /-- the next sample position of the cycle running, absent when no positions run -/
  position : Option (Fin 32)
  /-- the nominal frequency that spaces the positions of the cycle running (R102) -/
  spacing : Frequency
  inputs : Vector Accumulator 80
  residuals : Vector Accumulator 16
  /-- the cable of each channel as held at the cycle opening (R104) -/
  carriedBy : Vector (Option (Fin 16)) 64
deriving DecidableEq, Repr

/-! ## The supervisor (R146, R154, R157, R166) -/

inductive Mode where
  | unconfigured | standby | starting | running | dark | failsafe | mainsOut
deriving DecidableEq, Repr

inductive Origin where
  | dark | other
deriving DecidableEq, Repr

/-- The fail-safe causes, in the order of the table of R157. -/
inductive Cause where
  | commandConflict | provenConflict | hostForced | redOut | vehicleDark | allBarred
deriving DecidableEq, Repr

/-- A set of causes; bit k − 1 stands for cause k of R157's table (R188). -/
abbrev CauseSet := BitVec 6

inductive StartPhase where
  | darkTest | allRed
deriving DecidableEq, Repr

structure Supervisor where
  mode : Mode
  origin : Origin
  firstCause : Option Cause
  furtherCauses : CauseSet
  presentCauses : CauseSet
  startRed : Nat
  sweep : Bool
  phase : Option StartPhase
  phaseTimer : Option Nat
  redInUse : Option Nat
  /-- the FSR output, true for engaged -/
  fsr : Bool
  /-- the proven-conflict evidence count of each pair i < j, at row i and column j -/
  evidence : Vector (Vector Nat 16) 16
deriving DecidableEq, Repr

/-! ## The cable monitor outside its records (R133, R134) -/

inductive TestClass where
  | startup | retest | host
deriving DecidableEq, Repr

structure OriginSet where
  startup : Bool
  retest : Bool
  host : Bool
deriving DecidableEq, Repr

structure QueueEntry where
  cable : Fin 16
  cls : TestClass
  origins : OriginSet
  override : Option Nat
  waiting : Nat
  notBefore : Nat
  underTest : Bool
deriving DecidableEq, Repr

inductive BridgeState where
  | idle | charging | measuring | bridgeFault
deriving DecidableEq, Repr

/-- What BSEL0 to BSEL4 select (R133). -/
inductive Selection where
  | nothing
  | reference
  | cable (k : Fin 16)
deriving DecidableEq, Repr

/-- The five-bit number that BSEL4 to BSEL0 present, BSEL4 the most significant bit (R133). -/
def Selection.bsel : Selection → BitVec 5
  | .nothing => 0
  | .reference => 1
  | .cable k => BitVec.ofNat 5 (16 + k.val)

structure Bridge where
  state : BridgeState
  underTest : Option (Fin 16)
  timer : Option Nat
  selection : Selection
  /-- the test queue, in order of arrival -/
  queue : List QueueEntry
deriving DecidableEq, Repr

/-! ## The attention unit (R173 to R175) -/

/-- The attention classes, from the highest priority to the lowest (R173). -/
inductive AClass where
  | safety | urgent | lamp | notice | plan
deriving DecidableEq, Repr

structure Attention where
  /-- the pending sets, one a class, each in rising order of (table, index) -/
  sets : Vector (List RecordName) 5
  masked : Vector Bool 5
  /-- the under-service chain, oldest first -/
  chain : List AClass
  /-- ATTNn, true for asserted (driven low) -/
  line : Bool
deriving DecidableEq, Repr

/-! ## The command link (R181, R183, R184) -/

/-- The statuses of R187. -/
inductive Status where
  | ok | clamped | notReady | none | reset
  | linkError | busy | unknown | noTable | noRecord | authority | mode | stale | range | owned | inUse
  | invalid | causePresent | notPending
deriving DecidableEq, Repr

/-- What the response slot holds; its CRC is worked out when it is shifted out (R181). -/
structure Response where
  status : Status
  command : Byte
  table : Byte
  index : Byte
  revision : Byte
  payload : List Byte
deriving DecidableEq, Repr

inductive Work where
  | commit
  | loadPlan (p : Fin 8)
deriving DecidableEq, Repr

/-- A command in flight, with the table and index bytes its responses echo (R183). -/
structure InFlight where
  work : Work
  table : Byte
  index : Byte
deriving DecidableEq, Repr

structure Link where
  slot : Response
  inFlight : Option InFlight
  /-- the MKEY input is active (R184) -/
  mkey : Bool
  /-- the bytes shifted out on SDO during the last frame (R181) -/
  sdo : List Byte
deriving DecidableEq, Repr

/-! ## The machine -/

/-- The whole state. `pending` is the queue of commands that wait, first in, first out. -/
structure State where
  pending : List Instr
  link : Link
  base : TimeBase
  sched : ScheduleUnit
  seq : Sequencer
  sampler : Sampler
  sup : Supervisor
  bridge : Bridge
  attn : Attention
  /-- the lamp drive port: the set it holds for the coming cycle, true for on (R90, R149) -/
  port : Vector Bool 64
  groups : Vector Group 16
  conflicts : Vector ConflictRow 16
  channels : Vector Channel 64
  profiles : Vector Profile 8
  cables : Vector Cable 16
  plans : Vector Plan 8
  stages : Vector Stage 96
  schedule : Vector ScheduleEntry 24
  detectors : Vector Detector 16
  junctionRev : Byte
  /-- the cable on which the cable monitor counts each channel, taken from the records at each cycle tick (R85) -/
  counted : Vector (Option (Fin 16)) 64
deriving DecidableEq, Repr

/-- Why a command could stop with a fault. No command of this part does: the manual gives every command of the table an
effect, so there is no constructor. -/
inductive Fault where
deriving DecidableEq, Repr

/-- Why a command could be refused by the model. -/
inductive Refusal where
  /-- the row of that mnemonic has no meaning yet: raised by an arm of `exec` alone, safe. No arm raises it. -/
  | notModelled (mnemonic : String)
deriving DecidableEq, Repr

/-! ## Values after a main reset -/

/-- GROUP after a main reset (R15). -/
def Group.reset : Group where
  cfg := { kind := .unused, secondRed := false, redsRequired := 1, prepTime := 0, leavingTime := 30 }
  aspect := .red
  isolatedCable := false
  redOut := false
  stateTimer := 0
  sinceGreen := 0
  rev := 0

/-- CONFLICT after a main reset (R16). -/
def ConflictRow.reset : ConflictRow where
  entry := Vector.replicate 16 none
  rev := 0

/-- A brightness part that has learned nothing (R99). -/
def Part.empty : Part where
  learned := false
  learnSum := 0
  learnCount := 0
  reference := 0
  baseline := 0

/-- A reading of 0 mA, not saturated (R99, R144). -/
def Reading.zero : Reading where
  mA := 0
  saturated := false

/-- CHANNEL after a main reset (R99). -/
def Channel.reset : Channel where
  cfg := { profile := 0, cable := none, dimmable := false }
  verdict := none
  learnFailed := false
  bright := Part.empty
  dim := none
  command := false
  phase := .off
  remaining := 0
  lastReading := Reading.zero
  seenLit := false
  badStreak := 0
  worst := none
  rev := 0

/-- The filament defaults of PROFILE 0 to 3 (R100, section 5.4). -/
def ProfileConfig.filament : ProfileConfig where
  surgeCode := 6
  settleCode := 5
  releaseCode := 3
  bandLow := 15
  bandHigh := 15
  out := 50
  offLimit := 20
  confirmCount := 3
  tracking := true

/-- The LED defaults of PROFILE 4 to 7 (R100, section 5.4). -/
def ProfileConfig.led : ProfileConfig where
  surgeCode := 1
  settleCode := 4
  releaseCode := 1
  bandLow := 20
  bandHigh := 30
  out := 40
  offLimit := 8
  confirmCount := 3
  tracking := true

/-- PROFILE f after a main reset (R100). -/
def Profile.reset (f : Fin 8) : Profile where
  cfg := if f.val < 4 then ProfileConfig.filament else ProfileConfig.led
  rev := 0

/-- CABLE after a main reset (R144). -/
def Cable.reset : Cable where
  state := .unused
  action := .report
  route := .notice
  tolerance := 50
  limit := 1000
  faults := { balance := false, openReturn := false, insulation := false }
  suspect := false
  result := none
  status := .none
  lastResidual := Reading.zero
  lastReturn := Reading.zero
  balanceStreak := 0
  openStreak := 0
  rev := 0

/-- PLAN after a main reset (R53). -/
def Plan.reset : Plan where
  loaded := false
  entry := 0
  changePoint := 0
  length := 0
  rev := 0

/-- STAGE after a main reset (R53). -/
def Stage.reset : Stage where
  isDefined := false
  owner := none
  shape := { groups := 0, calls := 0, holders := 0, demand := false, next := 0 }
  timing := { minGreen := 30, maxGreen := 30, step := 0 }
  rev := 0

/-- SCHEDULE after a main reset (R54). -/
def ScheduleEntry.reset : ScheduleEntry where
  cfg := { state := .empty, days := 0, hour := 0, minute := 0, plan := 0, dimming := .bright }
  rev := 0

/-- DETECTOR after a main reset (R81). -/
def Detector.reset : Detector where
  cfg := { enabled := false, invert := false, stuckLimit := 0 }
  faulty := false
  previous := false
  level := false
  latch := false
  activeRun := 0
  rev := 0

/-- Day 1, 00:00:00.0 (R33). -/
def TimeOfDay.first : TimeOfDay where
  day := 1
  hour := 0
  minute := 0
  second := 0
  tenth := 0

/-- The time base after a main reset that acts on a retention loss (R32, R33). -/
def TimeBase.reset : TimeBase where
  tracker := .acquiring
  reference := none
  goodCount := 0
  opening := .crossing
  frequency := .hz50
  source := .crystal
  divider := 0
  crystalCount := 0
  crystalTenth := 0
  time := TimeOfDay.first
  timeValid := false
  retentionValid := true
  mainPower := true

/-- The schedule unit after a main reset (R54). -/
def ScheduleUnit.reset : ScheduleUnit where
  scheduledPlan := 0
  scheduledDimming := .bright
  source := .schedule
  overridePlan := 0
  requested := none
  dimOverride := .follow
  dimState := .bright
  dimSettle := 0
  dimPin := false

/-- The stage sequencer after a main reset (R81). -/
def Sequencer.reset : Sequencer where
  state := .stopped
  running := none
  pending := none
  current := none
  context := none
  interstage := none
  allBarred := false

def Accumulator.zero : Accumulator where
  sum := 0
  saturated := false

/-- The sampler after a main reset (R107). -/
def Sampler.reset : Sampler where
  position := none
  spacing := .hz50
  inputs := Vector.replicate 80 Accumulator.zero
  residuals := Vector.replicate 16 Accumulator.zero
  carriedBy := Vector.replicate 64 none

def noEvidence : Vector (Vector Nat 16) 16 :=
  Vector.replicate 16 (Vector.replicate 16 0)

/-- The supervisor after a main reset (R160, R166). -/
def Supervisor.reset : Supervisor where
  mode := .unconfigured
  origin := .other
  firstCause := none
  furtherCauses := 0
  presentCauses := 0
  startRed := 60
  sweep := true
  phase := none
  phaseTimer := none
  redInUse := none
  fsr := false
  evidence := noEvidence

/-- The bridge and the test queue after a main reset (R145). -/
def Bridge.reset : Bridge where
  state := .idle
  underTest := none
  timer := none
  selection := .nothing
  queue := []

/-- The attention unit after a main reset (R179). -/
def Attention.reset : Attention where
  sets := Vector.replicate 5 []
  masked := Vector.replicate 5 false
  chain := []
  line := false

/-- The response slot after a main reset (R181). -/
def Response.reset : Response where
  status := .reset
  command := 0
  table := 0
  index := 0
  revision := 0
  payload := []

/-- The command link after a main reset (R181, R183). The level of MKEY is outside the part; the model's
first state has the key turned back (log entry 2). -/
def Link.reset : Link where
  slot := Response.reset
  inFlight := none
  mkey := false
  sdo := []

/-- The port holds every channel off (R149). -/
def allOff : Vector Bool 64 := Vector.replicate 64 false

/-- The machine right after the first main reset: main power is present, and the retention domain, which powers up
with its indicator cleared, has been restarted (R33). -/
def State.reset : State where
  pending := []
  link := Link.reset
  base := TimeBase.reset
  sched := ScheduleUnit.reset
  seq := Sequencer.reset
  sampler := Sampler.reset
  sup := Supervisor.reset
  bridge := Bridge.reset
  attn := Attention.reset
  port := allOff
  groups := Vector.replicate 16 Group.reset
  conflicts := Vector.replicate 16 ConflictRow.reset
  channels := Vector.replicate 64 Channel.reset
  profiles := Vector.ofFn Profile.reset
  cables := Vector.replicate 16 Cable.reset
  plans := Vector.replicate 8 Plan.reset
  stages := Vector.replicate 96 Stage.reset
  schedule := Vector.replicate 24 ScheduleEntry.reset
  detectors := Vector.replicate 16 Detector.reset
  junctionRev := 0
  counted := Vector.replicate 64 none

end Sys2Proof.Machine
end

