-- ==== Sys2Proof/Machine/Ops.lean ====
section
/-! DEFINITION. The operations every block shares: record names and revisions, the attention unit, the fixed
relation of channels to groups, the conflict relation, and the single-field updates of State. -/

namespace Sys2Proof.Machine

/-! ## Records -/

/-- The table number (manual, "Names and numbering"). -/
def Table.code : Table → Nat
  | .group => 1
  | .conflict => 2
  | .channel => 3
  | .profile => 4
  | .cable => 5
  | .plan => 6
  | .stage => 7
  | .schedule => 8
  | .detector => 9
  | .junction => 10

/-- The table of a number, absent outside 1 to 10. -/
def Table.ofCode : Nat → Option Table
  | 1 => some .group
  | 2 => some .conflict
  | 3 => some .channel
  | 4 => some .profile
  | 5 => some .cable
  | 6 => some .plan
  | 7 => some .stage
  | 8 => some .schedule
  | 9 => some .detector
  | 10 => some .junction
  | _ => none

/-- How many records the table holds. -/
def Table.capacity : Table → Nat
  | .group => 16
  | .conflict => 16
  | .channel => 64
  | .profile => 8
  | .cable => 16
  | .plan => 8
  | .stage => 96
  | .schedule => 24
  | .detector => 16
  | .junction => 1

/-- The order of pairs within a pending set: table number first, index second (R173). -/
def RecordName.before (a b : RecordName) : Bool :=
  a.table.code < b.table.code || (a.table.code == b.table.code && a.index < b.index)

/-- A revision moves on by one and wraps from 255 to 0 ("Records and revisions"). -/
def nextRev (r : Byte) : Byte := r + 1

/-! ## Updates of one part of State -/

def State.mapLink (s : State) (f : Link → Link) : State := { s with link := f s.link }
def State.mapBase (s : State) (f : TimeBase → TimeBase) : State := { s with base := f s.base }
def State.mapSched (s : State) (f : ScheduleUnit → ScheduleUnit) : State := { s with sched := f s.sched }
def State.mapSeq (s : State) (f : Sequencer → Sequencer) : State := { s with seq := f s.seq }
def State.mapSup (s : State) (f : Supervisor → Supervisor) : State := { s with sup := f s.sup }
def State.mapBridge (s : State) (f : Bridge → Bridge) : State := { s with bridge := f s.bridge }
def State.mapAttn (s : State) (f : Attention → Attention) : State := { s with attn := f s.attn }
def State.setGroup (s : State) (g : Fin 16) (x : Group) : State := { s with groups := s.groups.set g x }
def State.setChannel (s : State) (c : Fin 64) (x : Channel) : State := { s with channels := s.channels.set c x }
def State.setCable (s : State) (k : Fin 16) (x : Cable) : State := { s with cables := s.cables.set k x }
def State.setPlan (s : State) (p : Fin 8) (x : Plan) : State := { s with plans := s.plans.set p x }
def State.setStage (s : State) (d : Fin 96) (x : Stage) : State := { s with stages := s.stages.set d x }
def State.setDetector (s : State) (d : Fin 16) (x : Detector) : State :=
  { s with detectors := s.detectors.set d x }

/-! ## The attention unit (R173 to R175) -/

/-- The place of a class in the order of priority, 0 for SAFETY. -/
def AClass.rank : AClass → Fin 5
  | .safety => 0
  | .urgent => 1
  | .lamp => 2
  | .notice => 3
  | .plan => 4

/-- The class of a class code 1 to 5 (R186). -/
def AClass.ofCode : Nat → Option AClass
  | 1 => some .safety
  | 2 => some .urgent
  | 3 => some .lamp
  | 4 => some .notice
  | 5 => some .plan
  | _ => none

def AClass.code (c : AClass) : Nat := c.rank.val + 1

/-- The five classes from the highest to the lowest. -/
def AClass.all : List AClass := [.safety, .urgent, .lamp, .notice, .plan]

/-- A class ranks above another when its priority number is smaller (R173). -/
def AClass.above (a b : AClass) : Bool := a.rank.val < b.rank.val

/-- A class qualifies when its set is not empty, it is enabled, and it ranks above every class under service (R175). -/
def Attention.qualifies (a : Attention) (c : AClass) : Bool :=
  !(a.sets[c.rank]).isEmpty && !a.masked[c.rank] && a.chain.all (fun d => c.above d)

/-- ATTNn is asserted while at least one class qualifies; worked out at the end of every event of R175. -/
def Attention.withLine (a : Attention) : Attention :=
  { a with line := AClass.all.any a.qualifies }

/-- Adds a pair to a pending set in its place; a pair already there leaves the set as it stands (R173). -/
def insertPair (r : RecordName) : List RecordName → List RecordName
  | [] => [r]
  | x :: rest => if x = r then x :: rest else if r.before x then r :: x :: rest else x :: insertPair r rest

def Attention.post (a : Attention) (c : AClass) (r : RecordName) : Attention :=
  ({ a with sets := a.sets.set c.rank (insertPair r a.sets[c.rank]) } : Attention).withLine

/-- A block posts a pair to a class (R173). -/
def State.post (s : State) (c : AClass) (t : Table) (index : Nat) : State :=
  s.mapAttn fun a => a.post c { table := t, index := index }

/-- Posts a pair where the condition holds. -/
def State.postIf (s : State) (b : Bool) (c : AClass) (t : Table) (index : Nat) : State :=
  if b then s.post c t index else s

/-! ## Events and revisions ("Records and revisions"; R1, R123, R146)

A record's revision moves by one at each event that changes at least one of its settled fields. The records that
one event may reach by several ways (GROUP, CABLE, JUNCTION) have their revisions moved at the end of the event, by
comparing the settled fields before it and after it; the other records are changed in one place by one event. -/

/-- The settled fields of a GROUP record (R1). -/
structure GroupSettled where
  cfg : GroupConfig
  aspect : Aspect
  isolatedCable : Bool
  redOut : Bool
deriving DecidableEq, Repr

def Group.settled (g : Group) : GroupSettled :=
  { cfg := g.cfg, aspect := g.aspect, isolatedCable := g.isolatedCable, redOut := g.redOut }

/-- The settled fields of a CABLE record (R123). -/
structure CableSettled where
  state : CableState
  action : CableAction
  route : Route
  tolerance : Nat
  limit : Nat
  faults : FaultSet
  suspect : Bool
  result : Option InsulationResult
  status : TestStatus
deriving DecidableEq, Repr

def Cable.settled (k : Cable) : CableSettled :=
  { state := k.state, action := k.action, route := k.route, tolerance := k.tolerance, limit := k.limit,
    faults := k.faults, suspect := k.suspect, result := k.result, status := k.status }

/-- The settled fields of JUNCTION 0 (R146); a change into or out of BRIDGE_FAULT counts as one (R133). -/
structure JunctionSettled where
  mode : Mode
  origin : Origin
  firstCause : Option Cause
  furtherCauses : CauseSet
  presentCauses : CauseSet
  mains : MainsState
  frequency : Frequency
  timeValid : Bool
  source : PlanSource
  overridePlan : Fin 8
  running : Option (Fin 8)
  pendingPlan : Option (Fin 8)
  dimOverride : DimOverride
  dimState : Dimming
  startRed : Nat
  sweep : Bool
  bridgeFault : Bool
deriving DecidableEq, Repr

def State.junctionSettled (s : State) : JunctionSettled :=
  { mode := s.sup.mode, origin := s.sup.origin, firstCause := s.sup.firstCause,
    furtherCauses := s.sup.furtherCauses, presentCauses := s.sup.presentCauses,
    mains := s.base.tracker, frequency := s.base.frequency, timeValid := s.base.timeValid,
    source := s.sched.source, overridePlan := s.sched.overridePlan,
    running := s.seq.running, pendingPlan := s.seq.pending,
    dimOverride := s.sched.dimOverride, dimState := s.sched.dimState,
    startRed := s.sup.startRed, sweep := s.sup.sweep, bridgeFault := s.bridge.state == .bridgeFault }

/-- The group after an event, its revision moved where a settled field changed. -/
def Group.moved (old new : Group) : Group :=
  if old.settled = new.settled then new else { new with rev := nextRev new.rev }

def Cable.moved (old new : Cable) : Cable :=
  if old.settled = new.settled then new else { new with rev := nextRev new.rev }

/-- The revision of JUNCTION 0 after an event. -/
def junctionMoved (old new : State) : Byte :=
  if old.junctionSettled = new.junctionSettled then new.junctionRev else nextRev new.junctionRev

/-- The end of an event: the revisions of the GROUP and CABLE records and of JUNCTION 0 move where due. -/
def closeEvent (old new : State) : State :=
  { new with
    groups := Vector.zipWith Group.moved old.groups new.groups
    cables := Vector.zipWith Cable.moved old.cables new.cables
    junctionRev := junctionMoved old new }

/-- One event of the part: the work `f`, then the revisions it moves. The work of an event holds no other event. -/
def event (f : State → State) (s : State) : State := closeEvent s (f s)

/-- The settled fields of a CHANNEL record (R82): the learn state and reference of each part, and whether there is
a dim part. -/
structure ChannelSettled where
  cfg : ChannelConfig
  verdict : Option BadKind
  learnFailed : Bool
  bright : Bool × Nat
  dim : Option (Bool × Nat)
deriving DecidableEq, Repr

def Channel.settled (c : Channel) : ChannelSettled :=
  { cfg := c.cfg, verdict := c.verdict, learnFailed := c.learnFailed,
    bright := (c.bright.learned, c.bright.reference),
    dim := c.dim.map fun p => (p.learned, p.reference) }

def Channel.moved (old new : Channel) : Channel :=
  if old.settled = new.settled then new else { new with rev := nextRev new.rev }

/-- Replaces CHANNEL c at one event. -/
def State.putChannel (s : State) (c : Fin 64) (x : Channel) : State :=
  s.setChannel c (Channel.moved s.channels[c] x)

/-- Every field of PLAN p is settled (R34). -/
def Plan.moved (old new : Plan) : Plan :=
  if old = { new with rev := old.rev } then new else { new with rev := nextRev new.rev }

/-- Every field of STAGE d is settled (R35). -/
def Stage.moved (old new : Stage) : Stage :=
  if old = { new with rev := old.rev } then new else { new with rev := nextRev new.rev }

/-- The settled fields of DETECTOR d are the written ones and faulty (R78). -/
def Detector.moved (old new : Detector) : Detector :=
  if old.cfg = new.cfg && old.faulty == new.faulty then new else { new with rev := nextRev new.rev }

/-! ## Groups, slots and channels (R5, R6) -/

/-- Channel 4g + s is slot s of group Gg (R5). -/
def channelOf (g : Fin 16) (slot : Fin 4) : Fin 64 := ⟨4 * g.val + slot.val, by omega⟩

def groupOf (c : Fin 64) : Fin 16 := ⟨c.val / 4, by omega⟩

def slotOf (c : Fin 64) : Fin 4 := ⟨c.val % 4, by omega⟩

/-- The green channel of a group (R5). -/
def greenOf (g : Fin 16) : Fin 64 := channelOf g 3

/-- The used slots follow from the kind and from second red present (R6). -/
def GroupConfig.hasSlot (g : GroupConfig) (slot : Fin 4) : Bool :=
  match g.kind with
  | .unused => false
  | .vehicle => slot != 1 || g.secondRed
  | .pedestrian => slot == 0 || slot == 3 || (slot == 1 && g.secondRed)

/-- A channel is used when its slot is one its group has, as the group record stands (R6). -/
def State.used (s : State) (c : Fin 64) : Bool :=
  s.groups[groupOf c].cfg.hasSlot (slotOf c)

/-- The channel's cable is ISOLATED. -/
def State.onIsolated (s : State) (c : Fin 64) : Bool :=
  match s.channels[c].cfg.cable with
  | none => false
  | some k => s.cables[k].state == .isolated

/-- The channels of a cable: those whose cable field names it (R123). -/
def State.carries (s : State) (k : Fin 16) (c : Fin 64) : Bool :=
  s.channels[c].cfg.cable == some k

/-- The cable monitor counts the channel on the cable, in its open-return sums and its test eligibility: a channel
write moves it from the next cycle tick (R85). -/
def State.countedOn (s : State) (k : Fin 16) (c : Fin 64) : Bool := s.counted[c] == some k

/-- A cycle tick has every channel counted on the cable its record names (R85). -/
def State.countChannels (s : State) : State := { s with counted := s.channels.map fun c => c.cfg.cable }

/-! ## The conflict relation (R10) -/

/-- The intergreen from Gi to Gj, absent where the entry is NONE. -/
def State.intergreen (s : State) (i j : Fin 16) : Option Nat := s.conflicts[i].entry[j]

/-- Two groups conflict when either of their mirrored entries is CONFLICT (R10). -/
def State.conflict (s : State) (i j : Fin 16) : Bool :=
  i != j && ((s.intergreen i j).isSome || (s.intergreen j i).isSome)

/-- The groups, channels, cables, plans and descriptors in index order. -/
def allGroups : List (Fin 16) := List.finRange 16
def allChannels : List (Fin 64) := List.finRange 64
def allPlans : List (Fin 8) := List.finRange 8
def allSlots : List (Fin 4) := List.finRange 4

/-- Whether a set of groups or detector inputs holds a number. -/
def has (set : Set16) (n : Fin 16) : Bool := set.getLsbD n.val

/-- The groups a stage descriptor names. -/
def State.names (s : State) (d : Fin 96) (g : Fin 16) : Bool := has s.stages[d].shape.groups g

/-! ## Chains (R40, R58, R71) -/

/-- The descriptors met from `d` along the next links, up to and not including `stop`, at most `fuel` of them. -/
def State.walk (s : State) (stop : Fin 96) : Nat → Fin 96 → List (Fin 96)
  | 0, _ => []
  | fuel + 1, d => if d = stop then [] else d :: s.walk stop fuel s.stages[d].shape.next

/-- The chain of a plan from its entry descriptor; a loaded chain has at most 12 descriptors (R34). -/
def State.chain (s : State) (p : Fin 8) : List (Fin 96) :=
  let e := s.plans[p].entry
  e :: s.walk e 11 s.stages[e].shape.next

end Sys2Proof.Machine
end

