-- ==== Sys2Proof/Machine/Operands.lean ====
section
/-! DEFINITION. The byte forms of values and the written parts of the record payloads (R188): what a WRITE carries, and
what makes a value out of range. -/

namespace Sys2Proof.Machine

/-! ## Numbers, most significant byte first (R180) -/

def b8 (n : Nat) : Byte := BitVec.ofNat 8 n
def be16 (n : Nat) : List Byte := [b8 (n / 256), b8 n]
def be32 (n : Nat) : List Byte := [b8 (n / 16777216), b8 (n / 65536), b8 (n / 256), b8 n]
def num16 (a b : Byte) : Nat := a.toNat * 256 + b.toNat
def num32 (a b c d : Byte) : Nat := ((a.toNat * 256 + b.toNat) * 256 + c.toNat) * 256 + d.toNat

/-- A set of groups or detector inputs in two bytes (R188). -/
def setBytes (x : Set16) : List Byte := be16 x.toNat
def setOf (a b : Byte) : Set16 := BitVec.ofNat 16 (num16 a b)

/-- Yes/no fields are 1 and 0 (R188). -/
def yesNo (b : Bool) : Byte := if b then 1 else 0

def ofYesNo (b : Byte) : Option Bool := if b = 1 then some true else if b = 0 then some false else none

/-- A two-valued enumeration whose first listed value is `true`: coded 0, the second value 1 (R188). -/
def firstOf (b : Bool) : Byte := if b then 0 else 1

def ofFirst (b : Byte) : Option Bool := if b = 0 then some true else if b = 1 then some false else none

/-- A cable, plan or descriptor number with "none" coded 255 (R188). -/
def optByte (n : Nat) (x : Option (Fin n)) : Byte :=
  match x with
  | none => 255
  | some i => b8 i.val

/-- A number below `n` from its byte. -/
def finOf (n : Nat) (b : Byte) : Option (Fin n) := if h : b.toNat < n then some ⟨b.toNat, h⟩ else none

/-! ## Enumerations, numbered from 0 in the order the chapters list them (R188) -/

def Kind.byte : Kind → Byte
  | .unused => 0
  | .vehicle => 1
  | .pedestrian => 2

def Kind.ofByte (b : Byte) : Option Kind :=
  if b = 0 then some .unused else if b = 1 then some .vehicle else if b = 2 then some .pedestrian else none

def CableState.byte : CableState → Byte
  | .unused => 0
  | .monitored => 1
  | .isolated => 2

def CableState.ofByte (b : Byte) : Option CableState :=
  if b = 0 then some .unused else if b = 1 then some .monitored else if b = 2 then some .isolated else none

def CableAction.byte : CableAction → Byte
  | .report => 0
  | .isolate => 1

def CableAction.ofByte (b : Byte) : Option CableAction :=
  if b = 0 then some .report else if b = 1 then some .isolate else none

def Route.byte : Route → Byte
  | .urgent => 0
  | .notice => 1

def Route.ofByte (b : Byte) : Option Route :=
  if b = 0 then some .urgent else if b = 1 then some .notice else none

def EntryState.byte : EntryState → Byte
  | .empty => 0
  | .enabled => 1
  | .disabled => 2

def EntryState.ofByte (b : Byte) : Option EntryState :=
  if b = 0 then some .empty else if b = 1 then some .enabled else if b = 2 then some .disabled else none

def Dimming.byte : Dimming → Byte
  | .bright => 0
  | .dim => 1

def Dimming.ofByte (b : Byte) : Option Dimming :=
  if b = 0 then some .bright else if b = 1 then some .dim else none

/-- The nominal frequency is carried as 50 or 60 (R188). -/
def Frequency.byte : Frequency → Byte
  | .hz50 => 50
  | .hz60 => 60

def Frequency.ofByte (b : Byte) : Option Frequency :=
  if b = 50 then some .hz50 else if b = 60 then some .hz60 else none

/-! ## GROUP (R1, R7) -/

/-- The field ranges of R1. -/
def GroupConfig.inRange (g : GroupConfig) : Bool :=
  1 ≤ g.redsRequired && g.redsRequired ≤ 2 && g.prepTime ≤ 30 && 20 ≤ g.leavingTime && g.leavingTime ≤ 200

def GroupConfig.bytes (g : GroupConfig) : List Byte :=
  [g.kind.byte, yesNo g.secondRed, b8 g.redsRequired, b8 g.prepTime, b8 g.leavingTime]

/-- The written part of a GROUP payload; absent where R7 refuses RANGE. -/
def GroupConfig.parse : List Byte → Option GroupConfig
  | [k, second, reds, prep, leaving] =>
    match Kind.ofByte k, ofYesNo second with
    | some kind, some sr =>
      let g : GroupConfig :=
        { kind := kind, secondRed := sr, redsRequired := reds.toNat, prepTime := prep.toNat, leavingTime := leaving.toNat }
      if g.inRange then some g else none
    | _, _ => none
  | _ => none

/-! ## CONFLICT (R9, R11) -/

def entryByte : Option Nat → Byte
  | none => 0
  | some n => b8 n

/-- 0 is NONE, 1 to 250 is CONFLICT with that intergreen (R188). -/
def entryOfByte (b : Byte) : Option Nat := if b = 0 then none else some b.toNat

/-- Every entry is NONE or an intergreen from 1 to 250 tenths (R9). -/
def rowInRange (row : Vector (Option Nat) 16) : Bool :=
  allGroups.all fun j =>
    match row[j] with
    | none => true
    | some n => 1 ≤ n && n ≤ 250

def rowBytes (row : Vector (Option Nat) 16) : List Byte := row.toList.map entryByte

/-- The sixteen entries of a CONFLICT payload; absent where R11 refuses RANGE. -/
def parseRow (p : List Byte) : Option (Vector (Option Nat) 16) :=
  if p.length = 16 && p.all fun b => b.toNat ≤ 250 then
    some (Vector.ofFn fun j => entryOfByte (p.getD j.val 0))
  else none

/-! ## CHANNEL (R82, R84) -/

def ChannelConfig.bytes (c : ChannelConfig) : List Byte :=
  [b8 c.profile.val, optByte 16 c.cable, yesNo c.dimmable]

/-- A cable number, or 255 for none. -/
def cableOf (b : Byte) : Option (Option (Fin 16)) := if b = 255 then some none else (finOf 16 b).map some

/-- The written part of a CHANNEL payload; absent where R84 refuses RANGE. -/
def ChannelConfig.parse : List Byte → Option ChannelConfig
  | [f, k, d] =>
    match finOf 8 f, cableOf k, ofYesNo d with
    | some profile, some cable, some dimmable => some { profile := profile, cable := cable, dimmable := dimmable }
    | _, _, _ => none
  | _ => none

/-! ## PROFILE (R87) -/

/-- The field ranges of R87, with the tie of out to band low. -/
def ProfileConfig.inRange (f : ProfileConfig) : Bool :=
  f.surgeCode ≤ 15 && f.settleCode ≤ 15 && f.releaseCode ≤ 15 &&
    5 ≤ f.bandLow && f.bandLow ≤ 50 && 5 ≤ f.bandHigh && f.bandHigh ≤ 100 &&
    5 ≤ f.out && f.out ≤ 90 && f.out < 100 - f.bandLow &&
    2 ≤ f.offLimit && f.offLimit ≤ 200 && 1 ≤ f.confirmCount && f.confirmCount ≤ 15

def ProfileConfig.bytes (f : ProfileConfig) : List Byte :=
  [b8 f.surgeCode, b8 f.settleCode, b8 f.releaseCode, b8 f.bandLow, b8 f.bandHigh, b8 f.out, b8 f.offLimit,
   b8 f.confirmCount, firstOf f.tracking]

/-- The nine fields of a PROFILE payload; absent where R87 refuses RANGE. -/
def ProfileConfig.parse : List Byte → Option ProfileConfig
  | [surge, settle, release, low, high, out, off, confirm, tracking] =>
    match ofFirst tracking with
    | none => none
    | some t =>
      let f : ProfileConfig :=
        { surgeCode := surge.toNat, settleCode := settle.toNat, releaseCode := release.toNat,
          bandLow := low.toNat, bandHigh := high.toNat, out := out.toNat, offLimit := off.toNat,
          confirmCount := confirm.toNat, tracking := t }
      if f.inRange then some f else none
  | _ => none

/-! ## CABLE (R123, R124) -/

/-- The five fields a WRITE to CABLE carries (R124). -/
structure CableConfig where
  state : CableState
  action : CableAction
  route : Route
  tolerance : Nat
  limit : Nat
deriving DecidableEq, Repr

/-- The field ranges of R123; a written state of ISOLATED is out of range (R124). -/
def CableConfig.inRange (c : CableConfig) : Bool :=
  c.state != .isolated && 5 ≤ c.tolerance && c.tolerance ≤ 500 && 100 ≤ c.limit && c.limit ≤ 100000

def CableConfig.bytes (c : CableConfig) : List Byte :=
  [c.state.byte, c.action.byte, c.route.byte] ++ be16 c.tolerance ++ be32 c.limit

/-- The written part of a CABLE payload; absent where R124 refuses RANGE. -/
def CableConfig.parse : List Byte → Option CableConfig
  | [st, a, r, t1, t0, l3, l2, l1, l0] =>
    match CableState.ofByte st, CableAction.ofByte a, Route.ofByte r with
    | some state, some action, some route =>
      let c : CableConfig :=
        { state := state, action := action, route := route, tolerance := num16 t1 t0, limit := num32 l3 l2 l1 l0 }
      if c.inRange then some c else none
    | _, _, _ => none
  | _ => none

/-! ## PLAN (R34, R36) -/

/-- The two fields a WRITE to PLAN carries (R36). -/
structure PlanConfig where
  entry : Fin 96
  changePoint : Fin 96
deriving DecidableEq, Repr

def PlanConfig.bytes (p : PlanConfig) : List Byte := [b8 p.entry.val, b8 p.changePoint.val]

/-- The written part of a PLAN payload; absent where R36 refuses RANGE. -/
def PlanConfig.parse : List Byte → Option PlanConfig
  | [e, c] =>
    match finOf 96 e, finOf 96 c with
    | some entry, some cp => some { entry := entry, changePoint := cp }
    | _, _ => none
  | _ => none

/-! ## STAGE (R35, R37, R38) -/

/-- The fields a WRITE to STAGE carries, the timing as carried (R37). -/
structure StageConfig where
  shape : StageShape
  timing : StageTiming
deriving DecidableEq, Repr

def StageConfig.bytes (c : StageConfig) : List Byte :=
  setBytes c.shape.groups ++ setBytes c.shape.calls ++ setBytes c.shape.holders ++
    [yesNo c.shape.demand, b8 c.shape.next.val] ++
    be16 c.timing.minGreen ++ be16 c.timing.maxGreen ++ [b8 c.timing.step]

/-- The written part of a STAGE payload; absent where R37 refuses RANGE: an empty groups set, a next descriptor
above 95. The timing values are carried unclamped. -/
def StageConfig.parse : List Byte → Option StageConfig
  | [g1, g0, c1, c0, e1, e0, d, n, i1, i0, a1, a0, st] =>
    match ofYesNo d, finOf 96 n with
    | some demand, some next =>
      if setOf g1 g0 = 0 then none
      else some
        { shape :=
            { groups := setOf g1 g0, calls := setOf c1 c0, holders := setOf e1 e0, demand := demand, next := next }
          timing := { minGreen := num16 i1 i0, maxGreen := num16 a1 a0, step := st.toNat } }
    | _, _ => none
  | _ => none

/-- The clamping of the timing fields, in the order of R38. -/
def StageTiming.clamp (t : StageTiming) : StageTiming :=
  let minGreen := if t.minGreen < 30 then 30 else if 600 < t.minGreen then 600 else t.minGreen
  let maxGreen := if t.maxGreen < minGreen then minGreen else if 1200 < t.maxGreen then 1200 else t.maxGreen
  { minGreen := minGreen, maxGreen := maxGreen, step := if 100 < t.step then 100 else t.step }

/-! ## SCHEDULE (R45) -/

def ScheduleConfig.inRange (e : ScheduleConfig) : Bool := e.hour ≤ 23 && e.minute ≤ 59

def ScheduleConfig.bytes (e : ScheduleConfig) : List Byte :=
  [e.state.byte, b8 e.days.toNat, b8 e.hour, b8 e.minute, b8 e.plan.val, e.dimming.byte]

/-- The six fields of a SCHEDULE payload; absent where R45 refuses RANGE. -/
def ScheduleConfig.parse : List Byte → Option ScheduleConfig
  | [st, days, hour, minute, plan, dimming] =>
    match EntryState.ofByte st, finOf 8 plan, Dimming.ofByte dimming with
    | some state, some p, some d =>
      let e : ScheduleConfig :=
        { state := state, days := BitVec.ofNat 7 days.toNat, hour := hour.toNat, minute := minute.toNat, plan := p, dimming := d }
      if e.inRange && days.toNat < 128 then some e else none
    | _, _, _ => none
  | _ => none

/-! ## DETECTOR (R78) -/

def DetectorConfig.inRange (d : DetectorConfig) : Bool := d.stuckLimit ≤ 60

def DetectorConfig.bytes (d : DetectorConfig) : List Byte := [yesNo d.enabled, yesNo d.invert, b8 d.stuckLimit]

/-- The written part of a DETECTOR payload; absent where R78 refuses RANGE. -/
def DetectorConfig.parse : List Byte → Option DetectorConfig
  | [e, i, l] =>
    match ofYesNo e, ofYesNo i with
    | some enabled, some invert =>
      let d : DetectorConfig := { enabled := enabled, invert := invert, stuckLimit := l.toNat }
      if d.inRange then some d else none
    | _, _ => none
  | _ => none

/-! ## JUNCTION (R147) -/

/-- The three junction settings (R147), the start red time as carried. -/
structure JunctionConfig where
  startRed : Nat
  sweep : Bool
  frequency : Frequency
deriving DecidableEq, Repr

def JunctionConfig.bytes (j : JunctionConfig) : List Byte := [b8 j.startRed, firstOf j.sweep, j.frequency.byte]

/-- The written part of a JUNCTION payload; absent where R147 refuses RANGE. -/
def JunctionConfig.parse : List Byte → Option JunctionConfig
  | [red, sweep, f] =>
    match ofFirst sweep, Frequency.ofByte f with
    | some sw, some freq => some { startRed := red.toNat, sweep := sw, frequency := freq }
    | _, _ => none
  | _ => none

/-- The start red time is clamped to 30 to 200 tenths (R147). -/
def clampRed (n : Nat) : Nat := if n < 30 then 30 else if 200 < n then 200 else n

/-! ## Other command payloads (R186) -/

/-- The ranges of a time of day (R29, R30). -/
def TimeOfDay.inRange (t : TimeOfDay) : Bool :=
  1 ≤ t.day && t.day ≤ 7 && t.hour ≤ 23 && t.minute ≤ 59 && t.second ≤ 59 && t.tenth ≤ 9

def TimeOfDay.bytes (t : TimeOfDay) : List Byte := [b8 t.day, b8 t.hour, b8 t.minute, b8 t.second, b8 t.tenth]

/-- The payload of SET_TIME; absent where R30 refuses RANGE. -/
def TimeOfDay.parse : List Byte → Option TimeOfDay
  | [d, h, m, s, t] =>
    let x : TimeOfDay := { day := d.toNat, hour := h.toNat, minute := m.toNat, second := s.toNat, tenth := t.toNat }
    if x.inRange then some x else none
  | _ => none

/-- One item of TEST_CABLES: a cable number, and a limit override where it is not 0 (R186). -/
structure TestItem where
  cable : Nat
  override : Option Nat
deriving DecidableEq, Repr

/-- An override of 0 is absent (R188). -/
def overrideOf (n : Nat) : Option Nat := if n = 0 then none else some n

/-- The items of a TEST_CABLES payload, five bytes each; absent where the length is no multiple of 5 (R186). -/
def parseItems : List Byte → Option (List TestItem)
  | [] => some []
  | k :: a :: b :: c :: d :: rest =>
    (parseItems rest).map fun l => { cable := k.toNat, override := overrideOf (num32 a b c d) } :: l
  | _ :: _ => none

def TestItem.bytes (i : TestItem) : List Byte := b8 i.cable :: be32 (i.override.getD 0)

/-- The override, where present, lies from 100 to 100,000 kΩ (R136). -/
def TestItem.overrideInRange (i : TestItem) : Bool :=
  match i.override with
  | none => true
  | some n => 100 ≤ n && n ≤ 100000

/-- The classes of a class set byte, bits 5 to 7 of which must be 0 (R186). -/
def parseClasses (b : Byte) : Option (BitVec 5) := if b.toNat < 32 then some (BitVec.ofNat 5 b.toNat) else none

end Sys2Proof.Machine
end

