-- ==== Sys2Proof/Machine/Flags.lean ====
section
/-! DEFINITION. The conditions the blocks work out from State: cause sets, barred and eligible stages, red
availability, the fail-safe conditions, the requested plan. -/

namespace Sys2Proof.Machine

/-! ## Cause sets (R157, R188) -/

/-- The place of a cause in the table of R157, from 0. -/
def Cause.index : Cause → Nat
  | .commandConflict => 0
  | .provenConflict => 1
  | .hostForced => 2
  | .redOut => 3
  | .vehicleDark => 4
  | .allBarred => 5

def Cause.code (c : Cause) : Nat := c.index + 1

/-- The causes in the order of the table of R157. -/
def Cause.all : List Cause := [.commandConflict, .provenConflict, .hostForced, .redOut, .vehicleDark, .allBarred]

/-- The set of one cause. -/
def Cause.only : Cause → CauseSet
  | .commandConflict => 0b000001
  | .provenConflict => 0b000010
  | .hostForced => 0b000100
  | .redOut => 0b001000
  | .vehicleDark => 0b010000
  | .allBarred => 0b100000

/-- The acknowledge-type causes (R157). -/
def ackCauses : CauseSet := 0b000111

/-- The condition-type causes (R157). -/
def conditionCauses : CauseSet := 0b111000

def holds (set : CauseSet) (c : Cause) : Bool := set.getLsbD c.index

/-- The causes of `a` that are not in `b`. -/
def without (a b : CauseSet) : CauseSet := a &&& ~~~b

/-- The cause of the set that stands highest in the table of R157. -/
def topCause (set : CauseSet) : Option Cause := Cause.all.find? (holds set)

/-! ## Stages (R71) -/

/-- A stage is barred when it names a group whose aspect state is DARK (R71). -/
def State.barred (s : State) (d : Fin 96) : Bool :=
  allGroups.any fun g => s.names d g && s.groups[g].aspect == .dark

/-- The demand latch of at least one of the stage's call inputs is set (R71). -/
def State.called (s : State) (d : Fin 96) : Bool :=
  allGroups.any fun n => has s.stages[d].shape.calls n && s.detectors[n].latch

/-- Eligible: not barred, and not demand-dependent or called; a pending plan makes every stage count as not
demand-dependent (R71, R74). -/
def State.eligible (s : State) (d : Fin 96) : Bool :=
  !s.barred d && (!s.stages[d].shape.demand || s.seq.pending.isSome || s.called d)

/-- Every stage on the chain of the plan is barred. -/
def State.allStagesBarred (s : State) (p : Fin 8) : Bool := (s.chain p).all s.barred

/-- The all-barred indication as R75 gives it. -/
def State.barredIndication (s : State) : Bool :=
  match s.seq.running with
  | none => false
  | some p => s.allStagesBarred p

/-- The stages a walk from the next descriptor of `cur` meets, up to but not including `cur` (R71). -/
def State.others (s : State) (cur : Fin 96) : List (Fin 96) :=
  s.walk cur 11 s.stages[cur].shape.next

/-- Waiting demand: the walk finds an eligible stage (R71). -/
def State.waitingDemand (s : State) (cur : Fin 96) : Bool := (s.others cur).any s.eligible

/-- The entry choice of a plan: its first eligible stage, else its first stage not barred (R58). -/
def State.entryChoice (s : State) (p : Fin 8) : Option (Fin 96) :=
  match (s.chain p).find? s.eligible with
  | some d => some d
  | none => (s.chain p).find? fun d => !s.barred d

/-! ## Red availability (R155) -/

/-- A red channel is available when it is used and its latched verdict is not OUT (R155). -/
def State.redAvailable (s : State) (c : Fin 64) : Bool :=
  s.used c && s.channels[c].verdict != some .out

def State.availableReds (s : State) (g : Fin 16) : Nat :=
  (if s.redAvailable (channelOf g 0) then 1 else 0) + (if s.redAvailable (channelOf g 1) then 1 else 0)

/-- The group is short of reds (R155). -/
def State.short (s : State) (g : Fin 16) : Bool := s.availableReds g < s.groups[g].cfg.redsRequired

def State.vehicleShort (s : State) : Bool :=
  allGroups.any fun g => s.groups[g].cfg.kind == .vehicle && s.short g

/-! ## The fail-safe conditions (R156, R157) -/

def State.vehicleDark (s : State) : Bool :=
  allGroups.any fun g => s.groups[g].cfg.kind == .vehicle && s.groups[g].aspect == .dark

/-- The second part of ALL_BARRED: no plan is running, a requested plan exists, and every stage on its chain names
a DARK group (R156). -/
def State.requestBarred (s : State) : Bool :=
  match s.seq.running, s.sched.requested with
  | none, some p => s.allStagesBarred p
  | _, _ => false

/-- The condition-type causes whose conditions hold (R155, R156, R157). -/
def State.conditions (s : State) : CauseSet :=
  (if s.vehicleShort then Cause.redOut.only else 0) |||
  (if s.vehicleDark then Cause.vehicleDark.only else 0) |||
  (if s.seq.allBarred || s.requestBarred then Cause.allBarred.only else 0)

/-! ## The requested and the pending plan (R49, R50) -/

/-- The requested plan, worked out from the plan source, the override plan, the scheduled plan and the states of the
eight plans (R49). -/
def State.requestedPlan (s : State) : Option (Fin 8) :=
  let candidate := match s.sched.source with
    | .override => s.sched.overridePlan
    | .schedule => s.sched.scheduledPlan
  if s.plans[candidate].loaded then some candidate
  else allPlans.find? fun p => s.plans[p].loaded

/-- The pending plan for a running plan and a requested plan (the table of R50). -/
def pendingFor (running requested : Option (Fin 8)) : Option (Fin 8) :=
  match running, requested with
  | none, _ => none
  | some _, none => none
  | some r, some q => if q = r then none else some q

/-- The sequencer works the pending plan out again (R50). -/
def State.workOutPending (s : State) : State :=
  s.mapSeq fun q => { q with pending := pendingFor q.running s.sched.requested }

/-! ## Groups -/

/-- A change of aspect state, at which the state timer is set to 0 (R61). A green commanded off sets the
since-green counter to 0 (R61). -/
def Group.enter (g : Group) (a : Aspect) : Group :=
  if g.aspect = a then g
  else { g with aspect := a, stateTimer := 0, sinceGreen := if g.aspect = .green then 0 else g.sinceGreen }

/-- Whether the group holds a dark cause (R76). -/
def Group.hasCause (g : Group) : Bool := g.isolatedCable || g.redOut

/-- The sequencer works the ISOLATED_CABLE cause out afresh for every group (R76). -/
def State.darkCauses (s : State) : State :=
  { s with groups := Vector.ofFn fun g =>
      { s.groups[g] with
        isolatedCable := allSlots.any fun t => s.used (channelOf g t) && s.onIsolated (channelOf g t) } }

/-- The supervisor works the available reds out: the dark cause RED_OUT of a group is held exactly while the group
is PEDESTRIAN and short (R155). -/
def State.redCauses (s : State) : State :=
  { s with groups := Vector.ofFn fun g =>
      { s.groups[g] with redOut := s.groups[g].cfg.kind == .pedestrian && s.short g } }

end Sys2Proof.Machine
end

