-- ==== Sys2Proof/Machine/Bridge.lean ====
section
/-! DEFINITION. The cable monitor outside the measured cycle: the test queue, the insulation bridge, test results,
and the latching of cable faults (chapter 7). -/

namespace Sys2Proof.Machine

/-! ## The queue (R134, R135) -/

/-- STARTUP ranks above RETEST, RETEST above HOST (R134). -/
def TestClass.rank : TestClass → Nat
  | .startup => 0
  | .retest => 1
  | .host => 2

def TestClass.higher (a b : TestClass) : TestClass := if a.rank ≤ b.rank then a else b

def OriginSet.only (c : TestClass) : OriginSet :=
  { startup := c == .startup, retest := c == .retest, host := c == .host }

def OriginSet.add (o : OriginSet) (c : TestClass) : OriginSet :=
  { startup := o.startup || c == .startup, retest := o.retest || c == .retest, host := o.host || c == .host }

/-- A request for a test of a cable (R135). -/
structure TestRequest where
  cable : Fin 16
  cls : TestClass
  notBefore : Nat
  override : Option Nat
deriving DecidableEq, Repr

def Bridge.entryOf (b : Bridge) (k : Fin 16) : Option QueueEntry := b.queue.find? fun e => e.cable == k

/-- The request merges into the entry the cable has (R135). -/
def QueueEntry.merge (e : QueueEntry) (r : TestRequest) : QueueEntry :=
  { e with
    cls := e.cls.higher r.cls
    notBefore := if r.cls = .host then 0 else min e.notBefore r.notBefore
    origins := e.origins.add r.cls
    override := match r.override with
      | some l => some l
      | none => e.override }

def TestRequest.entry (r : TestRequest) : QueueEntry :=
  { cable := r.cable, cls := r.cls, origins := OriginSet.only r.cls, override := r.override,
    waiting := 0, notBefore := r.notBefore, underTest := false }

/-- Sets the test status of a cable's record. -/
def State.setStatus (s : State) (k : Fin 16) (t : TestStatus) : State :=
  s.setCable k { s.cables[k] with status := t }

/-- A request is taken at once: a new entry at the end of the queue, or a merge (R135). -/
def State.request (s : State) (r : TestRequest) : State :=
  match s.bridge.entryOf r.cable with
  | some _ =>
    s.mapBridge fun b => { b with queue := b.queue.map fun e => if e.cable = r.cable then e.merge r else e }
  | none =>
    (s.mapBridge fun b => { b with queue := b.queue ++ [r.entry] }).setStatus r.cable .pending

/-- The bridge selects no connection and becomes IDLE, with no test (R142, R143). -/
def Bridge.withdraw (b : Bridge) : Bridge :=
  { b with state := .idle, underTest := none, timer := none, selection := .nothing }

/-- Removes the cable's entry with a test status, posting to NOTICE where HOST is in its origin set; where it was
under test the bridge is withdrawn (R142, R143). Nothing where the cable has no entry. -/
def State.removeEntry (s : State) (k : Fin 16) (t : TestStatus) : State :=
  match s.bridge.entryOf k with
  | none => s
  | some e =>
    (((s.mapBridge fun b => if e.underTest then b.withdraw else b).mapBridge fun b =>
      { b with queue := b.queue.filter fun x => x.cable != k }).setStatus k t).postIf e.origins.host .notice .cable k.val

/-- A test under way is abandoned (R143). -/
def State.abandonTest (s : State) : State :=
  match s.bridge.underTest with
  | none => s
  | some k => s.removeEntry k .abandoned

/-! ## Latching and isolation (R130, R131) -/

def FaultSet.has (f : FaultSet) : CableFault → Bool
  | .balance => f.balance
  | .openReturn => f.openReturn
  | .insulation => f.insulation

def FaultSet.add (f : FaultSet) : CableFault → FaultSet
  | .balance => { f with balance := true }
  | .openReturn => { f with openReturn := true }
  | .insulation => { f with insulation := true }

def FaultSet.empty : FaultSet := { balance := false, openReturn := false, insulation := false }

def Route.cls : Route → AClass
  | .urgent => .urgent
  | .notice => .notice

/-- Isolating a cable: ISOLATED, both streaks 0, and the dark causes of every group afresh (R131, R76). -/
def State.isolate (s : State) (k : Fin 16) : State :=
  (s.setCable k { s.cables[k] with state := .isolated, balanceStreak := 0, openStreak := 0 }).darkCauses

/-- A confirmation of a fault of cable k (R130). -/
def State.confirmFault (s : State) (k : Fin 16) (f : CableFault) : State :=
  let c := s.cables[k]
  if c.faults.has f then s
  else
    let s1 := (s.setCable k { c with faults := c.faults.add f }).post c.route.cls .cable k.val
    if c.action = .isolate ∧ c.state = .monitored then s1.isolate k else s1

/-! ## Tests (R137 to R142) -/

/-- Every used channel counted on the cable is commanded off, off in the accepted set, and in phase OFF (R137, R85). -/
def State.cableQuiet (s : State) (k : Fin 16) : Bool :=
  allChannels.all fun c =>
    !(s.countedOn k c && s.used c) || (!s.channels[c].command && !s.port[c] && s.channels[c].phase == .off)

/-- An entry is eligible for the bridge (R137). -/
def State.entryEligible (s : State) (e : QueueEntry) : Bool :=
  !e.underTest && e.notBefore == 0 && s.cables[e.cable].state != .unused && s.cableQuiet e.cable &&
    s.sup.mode != .mainsOut

/-- The entry the bridge takes: the highest class, and the earliest arrival within it (R139). -/
def State.nextEntry (s : State) : Option QueueEntry :=
  let pick (c : TestClass) := s.bridge.queue.find? fun e => e.cls == c && s.entryEligible e
  match pick .startup with
  | some e => some e
  | none =>
    match pick .retest with
    | some e => some e
    | none => pick .host

/-- BREF is within 1900 to 2100 µA (R139). -/
def referenceGood (bref : Microamps) : Bool := 1900 ≤ bref.toNat && bref.toNat ≤ 2100

/-- The bridge takes an entry and begins charging, its reference being good (R139). -/
def State.beginTest (s : State) (k : Fin 16) : State :=
  (s.mapBridge fun b =>
    { b with
      state := .charging, underTest := some k, timer := some 0, selection := .cable k
      queue := b.queue.map fun e => if e.cable = k then { e with underTest := true } else e }).setStatus k .testing

/-- The bridge enters BRIDGE_FAULT (R140). -/
def State.bridgeFault (s : State) : State :=
  (s.mapBridge fun b =>
    { b with state := .bridgeFault, underTest := none, timer := none, selection := .nothing }).post .urgent .junction 0

/-- The bridge selects the reference for the reference check (R133, R139). -/
def State.selectReference (s : State) : State := s.mapBridge fun b => { b with selection := .reference }

/-- The idle bridge arbitrates: it takes an entry, and selects and reads the reference (R139). The selection of the
reference lasts for the check alone, and no state between two commands shows it (log entry 21). -/
def State.arbitrate (s : State) (bref : Microamps) : State :=
  if s.bridge.state = .idle then
    match s.nextEntry with
    | none => s
    | some e =>
      if referenceGood bref then s.selectReference.beginTest e.cable else s.selectReference.bridgeFault
  else s

/-- The insulation resistance and its mark (R141). -/
def insulationOf (leak : Microamps) : InsulationResult :=
  if leak.toNat = 0 then { kOhm := 500000, mark := .aboveRange }
  else if leak.toNat = 4095 then { kOhm := 122, mark := .belowRange }
  else { kOhm := 500000 / leak.toNat, mark := .inRange }

/-- A result passes or fails against the limit of the test (R141). -/
def InsulationResult.passes (r : InsulationResult) (limit : Nat) : Bool :=
  match r.mark with
  | .aboveRange => true
  | .belowRange => false
  | .inRange => limit ≤ r.kOhm

/-- The timer reaching 20 moves the bridge to MEASURING (R141). -/
def State.chargeEnd (s : State) : State := s.mapBridge fun b => { b with state := .measuring }

/-- The table of R142: what a result does to the cable, the entry being removed. -/
def State.applyResult (s : State) (k : Fin 16) (retest passed : Bool) : State :=
  let c := s.cables[k]
  let again : TestRequest := { cable := k, cls := .retest, notBefore := 600, override := none }
  if passed then s.setCable k { c with suspect := false }
  else if c.suspect then
    if retest then s.confirmFault k .insulation else s.request again
  else (s.setCable k { c with suspect := true }).request again

/-- The completion of the test under way, at one event (R142). -/
def State.completeTest (s : State) (bmeas : Microamps) : State :=
  match s.bridge.underTest with
  | none => s
  | some k =>
    match s.bridge.entryOf k with
    | none => s.mapBridge Bridge.withdraw
    | some e =>
      let r := insulationOf bmeas
      let c := s.cables[k]
      let passed := r.passes (match e.override with
        | some l => l
        | none => c.limit)
      let s1 := s.mapBridge fun b => { b.withdraw with queue := b.queue.filter fun x => x.cable != k }
      let s2 := s1.setCable k { c with result := some r, status := if passed then .passed else .failed }
      (s2.applyResult k e.origins.retest passed).postIf e.origins.host .notice .cable k.val

/-- The test timer has reached a mark. -/
def Bridge.timerAt (b : Bridge) (n : Nat) : Bool :=
  match b.timer with
  | none => false
  | some t => n ≤ t

/-- Step 2 of the queue work: the running test advances or completes where its timer calls for it (R138, R141). -/
def State.advanceTest (s : State) (bmeas : Microamps) : State :=
  if s.bridge.state = .charging ∧ s.bridge.timerAt 20 then s.chargeEnd
  else if s.bridge.state = .measuring ∧ s.bridge.timerAt 30 then s.completeTest bmeas
  else s

/-- The entry is not under test and has waited longer than 6000 tenths (R138). -/
def QueueEntry.timedOut (e : QueueEntry) : Bool := !e.underTest && 6001 ≤ e.waiting

/-- Step 3 of the queue work: the removal of the entries that time out (R138). -/
def State.timeOut (s : State) : State :=
  (s.bridge.queue.filter QueueEntry.timedOut).foldl (fun t e => t.removeEntry e.cable .timedOut) s

/-- Step 1 of the queue work: waiting times, not-before waits and the test timer (R138). -/
def State.ageQueue (s : State) : State :=
  s.mapBridge fun b =>
    { b with
      queue := b.queue.map fun e => { e with waiting := e.waiting + 1, notBefore := e.notBefore - 1 }
      timer := b.timer.map (· + 1) }

/-- The cable monitor's work at a tenth tick (R138). -/
def State.queueTenth (s : State) (i : TenthInput) : State :=
  event (fun t => t.arbitrate i.bref) (event State.timeOut (event (fun t => t.advanceTest i.bmeas) s.ageQueue))

/-- The pre-start sweep: a STARTUP request for every MONITORED or ISOLATED cable, in cable order (R167). -/
def State.startSweep (s : State) : State :=
  allGroups.foldl (fun t k =>
    if s.cables[k].state = .unused then t
    else t.request { cable := k, cls := .startup, notBefore := 0, override := none }) s

end Sys2Proof.Machine
end

