-- ==== Sys2Proof/Machine/Modes.lean ====
section
/-! DEFINITION. The supervisor's mode machine and fail-safe causes (chapter 8), and the directions it gives the
stage sequencer (R56, R57). -/

namespace Sys2Proof.Machine

/-! ## Directions to the sequencer (R56, R57) -/

/-- PREP, GREEN and LEAVING become RED, a green setting its since-green counter to 0 (R56). -/
def Group.toRed (g : Group) : Group :=
  match g.aspect with
  | .prep => g.enter .red
  | .green => g.enter .red
  | .leaving => g.enter .red
  | .red => g
  | .dark => g

def State.groupsToRed (s : State) : State := { s with groups := s.groups.map Group.toRed }

/-- A direction to enter STOPPED (R56). -/
def State.directStopped (s : State) : State :=
  s.groupsToRed.mapSeq fun q =>
    { q with state := .stopped, running := none, pending := none, current := none,
             context := none, interstage := none, allBarred := false }

/-- A direction to enter SUSPENDED: the running plan and the current stage keep their values (R56). -/
def State.directSuspended (s : State) : State :=
  s.groupsToRed.mapSeq fun q =>
    { q with state := .suspended, context := none, interstage := none, allBarred := false }

/-- A direction to enter ALL_RED (R57). -/
def State.directAllRed (s : State) : State :=
  s.groupsToRed.mapSeq fun q =>
    { q with state := .allRed, running := none, pending := none, current := none,
             context := none, interstage := none, allBarred := false }

/-! ## The mode (R148, R149, R150, R154, R166) -/

/-- FSR is engaged while the mode is STARTING, RUNNING or DARK (R149). -/
def Mode.engagesFsr : Mode → Bool
  | .starting => true
  | .running => true
  | .dark => true
  | .unconfigured => false
  | .standby => false
  | .failsafe => false
  | .mainsOut => false

/-- The modes at whose entry the port's set is replaced by one with every channel off (R149). -/
def Mode.clearsPort : Mode → Bool
  | .starting => false
  | .running => false
  | .dark => true
  | .unconfigured => true
  | .standby => true
  | .failsafe => true
  | .mainsOut => true

/-- The modes in which the port is handed every channel off at each cycle tick (R149). -/
def Mode.allOff : Mode → Bool
  | .unconfigured => true
  | .standby => true
  | .failsafe => true
  | .mainsOut => true
  | .starting => false
  | .running => false
  | .dark => false

/-- The modes in which proven-conflict evidence is counted (R154). -/
def Mode.countsEvidence : Mode → Bool
  | .starting => true
  | .running => true
  | .unconfigured => false
  | .standby => false
  | .dark => false
  | .failsafe => false
  | .mainsOut => false

/-- The modes in which readings are judged and cables evaluated (R95, R127). -/
def Mode.judges : Mode → Bool
  | .starting => true
  | .running => true
  | .dark => true
  | .unconfigured => false
  | .standby => false
  | .failsafe => false
  | .mainsOut => false

/-- The supervisor's own fields at a change of mode: FSR (R149), the start phase and its timers outside STARTING
(R166), the evidence counts outside STARTING and RUNNING (R154). -/
def Supervisor.toMode (u : Supervisor) (m : Mode) : Supervisor :=
  { u with
    mode := m
    fsr := m.engagesFsr
    phase := if m = .starting then u.phase else none
    phaseTimer := if m = .starting then u.phaseTimer else none
    redInUse := if m = .starting then u.redInUse else none
    evidence := if m.countsEvidence then u.evidence else noEvidence }

/-- The direction R56 gives the sequencer for a mode. The start phases give their own for STARTING, and the entry to
RUNNING needs none (R148). -/
def State.directFor (s : State) : Mode → State
  | .unconfigured => s.directStopped
  | .standby => s.directStopped
  | .failsafe => s.directStopped
  | .dark => s.directSuspended
  | .mainsOut => s.directSuspended
  | .starting => s
  | .running => s

/-- The port's set for the coming cycle at a change of mode (R149). -/
def State.clearPortFor (s : State) (m : Mode) : State :=
  if m.clearsPort then { s with port := Machine.allOff } else s

/-- A change of the junction mode without its posting (R148, R149); entering MAINS_OUT abandons a test (R143). -/
def State.enterMode (s : State) (m : Mode) : State :=
  let t := ((s.mapSup fun u => u.toMode m).clearPortFor m).directFor m
  if m = .mainsOut then t.abandonTest else t

/-- A change of mode with the posting of (JUNCTION, 0) that R148 gives it. -/
def State.changeMode (s : State) (m : Mode) (c : AClass) : State := (s.enterMode m).post c .junction 0

/-! ## Raising causes (R158) -/

/-- An entry to FAILSAFE with a first cause; the further causes are every other cause present at that moment (R158). -/
def State.failSafe (s : State) (first : Cause) : State :=
  (s.mapSup fun u =>
    { u with firstCause := some first, furtherCauses := without u.presentCauses first.only }).changeMode .failsafe .safety

/-- Causes raised in FAILSAFE join the further causes where they are not recorded yet (R158). -/
def State.recordFurther (s : State) (raised : CauseSet) : State :=
  let known := s.sup.furtherCauses ||| (match s.sup.firstCause with
    | some c => c.only
    | none => 0)
  let new := without raised known
  if new = 0 then s
  else (s.mapSup fun u => { u with furtherCauses := u.furtherCauses ||| new }).post .safety .junction 0

/-- The causes of a set, already among the present causes, are raised (R158). -/
def State.raise (s : State) (raised : CauseSet) : State :=
  match topCause raised with
  | none => s
  | some first =>
    match s.sup.mode with
    | .starting => s.failSafe first
    | .running => s.failSafe first
    | .failsafe => s.recordFurther raised
    | .unconfigured => s
    | .standby => s
    | .dark => s
    | .mainsOut => s

/-- The condition-type causes are made to hold exactly while their conditions do, and those that become present are
raised (R157, R158). -/
def State.refreshOnce (s : State) : State :=
  let now := s.conditions
  let new := without now s.sup.presentCauses
  (s.mapSup fun u => { u with presentCauses := (u.presentCauses &&& ackCauses) ||| now }).raise new

/-- The working-out of the conditions. An entry to FAILSAFE that it causes stops the sequencer, so the conditions
are worked out once more in FAILSAFE, at the change of the running plan (R156). -/
def State.refresh (s : State) : State :=
  let t := s.refreshOnce
  if t.sup.mode = s.sup.mode then t else t.refreshOnce

/-- An acknowledge-type cause becomes present and is raised (R157, R158). -/
def State.raiseAck (s : State) (c : Cause) : State :=
  let t := (s.mapSup fun u => { u with presentCauses := u.presentCauses ||| c.only }).raise c.only
  t.refresh

/-- A change of mode into STARTING or RUNNING raises the causes it finds present (R158). -/
def State.raisePresent (s : State) : State := (s.raise s.sup.presentCauses).refresh

/-- FORCE_FAILSAFE's raise: it takes the mode to FAILSAFE from STANDBY, DARK and MAINS_OUT too (R152, R158). -/
def State.forceRaise (s : State) : State :=
  let t := s.mapSup fun u => { u with presentCauses := u.presentCauses ||| Cause.hostForced.only }
  let r := if t.sup.mode = .failsafe then t.recordFurther Cause.hostForced.only else t.failSafe .hostForced
  r.refresh

/-! ## The start sequence (R165, R167, R169) -/

/-- STARTING at DARK_TEST, with the pre-start sweep, at one event (R165, R167). -/
def State.beginStart (s : State) : State :=
  let t := ((s.enterMode .starting).directStopped.mapSup fun u =>
    { u with phase := some .darkTest, phaseTimer := some 0, redInUse := none }).post .plan .junction 0
  if t.sup.sweep then t.startSweep else t

/-- The phase ALL_RED begins: the start red time in use is taken and the sequencer is directed to ALL_RED (R169). -/
def State.beginAllRed (s : State) : State :=
  s.directAllRed.mapSup fun u =>
    { u with phase := some .allRed, phaseTimer := some 0, redInUse := some u.startRed }

/-- The mains-lost event (R150). -/
def State.mainsLost (s : State) : State :=
  match s.sup.mode with
  | .dark => ((s.mapSup fun u => { u with origin := .dark }).changeMode .mainsOut .safety).refresh
  | .starting => ((s.mapSup fun u => { u with origin := .other }).changeMode .mainsOut .safety).refresh
  | .running => ((s.mapSup fun u => { u with origin := .other }).changeMode .mainsOut .safety).refresh
  | .unconfigured => s
  | .standby => s
  | .failsafe => s
  | .mainsOut => s

/-- The mode a mains-return gives in MAINS_OUT (R150): DARK leaves the sequencer SUSPENDED; STARTING begins at
ALL_RED, and not at DARK_TEST (R172). -/
def State.returnMode (s : State) : State :=
  match s.sup.origin with
  | .dark => ((s.mapSup fun u => u.toMode .dark).clearPortFor .dark).post .plan .junction 0
  | .other => ((s.enterMode .starting).beginAllRed).post .plan .junction 0

/-- The mains-return event (R150): the change of mode, then the causes it finds present (R158). -/
def State.mainsReturn (s : State) : State :=
  if s.sup.mode = .mainsOut then
    let t := event State.returnMode s
    if t.sup.mode = .starting then event State.raisePresent t else t
  else s

end Sys2Proof.Machine
end

