-- ==== Sys2Proof/Machine/Schedule.lean ====
section
/-! DEFINITION. The schedule unit (sections 3.5 to 3.7): the requested plan, the dimming state, firings at minute
boundaries and the entry in force. -/

namespace Sys2Proof.Machine

/-! ## The requested plan (R49) -/

/-- The requested plan is worked out again and handed to the sequencer, which works out the pending plan; the
supervisor works out ALL_BARRED against it (R49, R50, R156). -/
def State.workOutRequested (s : State) : State :=
  (s.mapSched fun u => { u with requested := s.requestedPlan }).workOutPending.refresh

/-! ## Dimming (R51, R52, R121) -/

/-- What a change of the dimming state does to a channel (R121). -/
def Channel.dimChanged (c : Channel) : Channel :=
  if c.cfg.dimmable then { c with badStreak := 0, worst := none } else c

/-- The dimming state for an override and a scheduled dimming (R51). -/
def dimmingFor : DimOverride → Dimming → Dimming
  | .bright, _ => .bright
  | .dim, _ => .dim
  | .follow, d => d

/-- A change of the dimming state: DIM is switched, the dim settle starts at 50, and the dimmable channels change
their active part (R52, R121). -/
def State.changeDimming (s : State) (d : Dimming) : State :=
  let t := s.mapSched fun u => { u with dimState := d, dimSettle := 50, dimPin := d == .dim }
  { t with channels := t.channels.map Channel.dimChanged }

/-- The dimming state is worked out; one already held changes nothing (R51). -/
def State.workOutDimming (s : State) : State :=
  let d := dimmingFor s.sched.dimOverride s.sched.scheduledDimming
  if d = s.sched.dimState then s else s.changeDimming d

/-- The scheduled plan and the scheduled dimming are set and the requested plan is worked out again (R46, R49). -/
def State.schedulePlan (s : State) (p : Fin 8) (d : Dimming) : State :=
  (s.mapSched fun u => { u with scheduledPlan := p, scheduledDimming := d }).workOutRequested

/-- The scheduled plan and the scheduled dimming are set, and a change is passed on (R46): one event, and a change of the
dimming state at its own event (R164; log entry 7). -/
def State.setScheduled (s : State) (p : Fin 8) (d : Dimming) : State :=
  event State.workOutDimming (event (fun t => t.schedulePlan p d) s)

/-! ## Firing (R46) -/

/-- Whether a day set holds a day from 1 to 7. -/
def ScheduleConfig.onDay (e : ScheduleConfig) (day : Nat) : Bool := 1 ≤ day && e.days.getLsbD (day - 1)

/-- The entry is ENABLED and matches the day, the hour and the minute (R46). -/
def ScheduleConfig.matches (e : ScheduleConfig) (t : TimeOfDay) : Bool :=
  e.state == .enabled && e.onDay t.day && e.hour == t.hour && e.minute == t.minute

def allEntries : List (Fin 24) := List.finRange 24

/-- The minute-boundary event (R46): the firing of the lowest-numbered entry that matches. -/
def State.minuteBoundary (s : State) : State :=
  if s.base.timeValid then
    match allEntries.find? fun e => s.schedule[e].cfg.matches s.base.time with
    | none => s
    | some e =>
      let cfg := s.schedule[e].cfg
      if s.plans[cfg.plan].loaded then s.setScheduled cfg.plan cfg.dimming
      else s.post .notice .schedule e.val
  else s

/-! ## The entry in force (R47) -/

/-- Tenths in one minute and in one week. -/
def tenthsPerMinute : Nat := 600
def tenthsPerWeek : Nat := 7 * 24 * 60 * 600

/-- The instant of a time of day within the week, in tenths from day 1, 00:00:00.0. -/
def TimeOfDay.instant (t : TimeOfDay) : Nat :=
  ((((t.day - 1) * 24 + t.hour) * 60 + t.minute) * 60 + t.second) * 10 + t.tenth

/-- The age of an entry's instant on one day: the tenths since the most recent one not after now, less than a week. -/
def ageOn (now : TimeOfDay) (day hour minute : Nat) : Nat :=
  (now.instant + tenthsPerWeek - (((day - 1) * 24 + hour) * 60 + minute) * tenthsPerMinute) % tenthsPerWeek

/-- The shortest age among the entry's days; absent with an empty day set (R47). -/
def ScheduleConfig.age (e : ScheduleConfig) (now : TimeOfDay) : Option Nat :=
  (([1, 2, 3, 4, 5, 6, 7].filter e.onDay).map fun d => ageOn now d e.hour e.minute).min?

/-- An entry considered: ENABLED and naming a LOADED plan (R47), with its age. -/
def State.consideredAge (s : State) (e : Fin 24) : Option Nat :=
  let cfg := s.schedule[e].cfg
  if cfg.state = .enabled ∧ s.plans[cfg.plan].loaded then cfg.age s.base.time else none

/-- The entry of the smallest age, the lowest-numbered of equals (R47). -/
def State.youngest (s : State) : List (Fin 24) → Option (Fin 24 × Nat)
  | [] => none
  | e :: rest =>
    match s.consideredAge e, s.youngest rest with
    | none, r => r
    | some a, none => some (e, a)
    | some a, some (f, b) => if a ≤ b then some (e, a) else some (f, b)

/-- The entry in force; none with the time-valid flag clear (R47). -/
def State.entryInForce (s : State) : Option (Fin 24) :=
  if s.base.timeValid then (s.youngest allEntries).map Prod.fst else none

/-- The working-out of the entry in force (R47). -/
def State.workOutEntry (s : State) : State :=
  match s.entryInForce with
  | none => s.setScheduled 0 .bright
  | some e => s.setScheduled s.schedule[e].cfg.plan s.schedule[e].cfg.dimming

/-! ## The time of day (R29) -/

/-- One tenth later, carrying in the usual way (R29). -/
def TimeOfDay.advance (t : TimeOfDay) : TimeOfDay :=
  if t.tenth < 9 then { t with tenth := t.tenth + 1 }
  else if t.second < 59 then { t with tenth := 0, second := t.second + 1 }
  else if t.minute < 59 then { t with tenth := 0, second := 0, minute := t.minute + 1 }
  else if t.hour < 23 then { t with tenth := 0, second := 0, minute := 0, hour := t.hour + 1 }
  else { day := if t.day < 7 then t.day + 1 else 1, hour := 0, minute := 0, second := 0, tenth := 0 }

/-- An advance carried into the minute: the second and the tenth are both 0 (R29). -/
def TimeOfDay.onMinute (t : TimeOfDay) : Bool := t.second == 0 && t.tenth == 0

/-- The time base's own turn at a tenth tick: the time of day advances, and a minute boundary reaches the schedule
unit (R29, R46). -/
def State.clockTenth (s : State) : State :=
  let t := s.mapBase fun b => { b with time := b.time.advance }
  if t.base.time.onMinute then t.minuteBoundary else t

end Sys2Proof.Machine
end

