-- ==== Sys2Proof/Machine/Sequencer.lean ====
section
/-! DEFINITION. The stage sequencer (chapter 4): transitions, greens and their demand, plan changes, dark groups,
detectors, and the proposed lamp command set. -/

namespace Sys2Proof.Machine

def State.setSeqState (s : State) (q : SeqState) : State := s.mapSeq fun x => { x with state := q }

/-! ## Transitions (R63 to R66) -/

/-- The wait of a gainer: the larger of its prep time and, for each conflicting group, the intergreen less that
group's since-green counter, a term below 0 counting as 0 (R64). -/
def State.waitOf (s : State) (h : Fin 16) : Nat :=
  allGroups.foldl (fun w x =>
    if s.conflict x h then max w ((s.intergreen x h).getD 0 - s.groups[x].sinceGreen) else w)
    s.groups[h].cfg.prepTime

/-- The losers of a transition to B: the green groups B does not name (R63). -/
def State.losersOf (s : State) (b : Fin 96) : List (Fin 16) :=
  allGroups.filter fun g => s.groups[g].aspect == .green && !s.names b g

/-- The gainers of a transition to B: the groups B names that are neither GREEN nor DARK (R63). -/
def State.gainersOf (s : State) (b : Fin 96) : List (Fin 16) :=
  allGroups.filter fun g => s.names b g && s.groups[g].aspect != .green && s.groups[g].aspect != .dark

/-- A gainer's prep start and green start, in tenths from t0 (R64). -/
def State.gainerOf (s : State) (h : Fin 16) : Gainer :=
  { group := h, prepStart := s.waitOf h - s.groups[h].cfg.prepTime, greenStart := s.waitOf h }

/-- A loser in LEAVING has run its leaving time (R65). -/
def Group.leavingDone (g : Group) : Bool := g.aspect == .leaving && g.cfg.leavingTime ≤ g.stateTimer

/-- What step 2 of a tenth does to one group of the interstage (R65). -/
def Interstage.stepGroup (r : Interstage) (i : Fin 16) (g : Group) : Group :=
  if r.losers.contains i && g.leavingDone then g.enter .red
  else
    match r.gainers.find? fun x => x.group == i with
    | none => g
    | some x =>
      if x.greenStart = r.timer then g.enter .green
      else if x.prepStart = r.timer then g.enter .prep
      else g

/-- Every gainer on the list is GREEN and every loser on the list is RED (R65). -/
def State.interstageOver (s : State) (r : Interstage) : Bool :=
  (r.gainers.all fun x => s.groups[x.group].aspect == .green) && (r.losers.all fun g => s.groups[g].aspect == .red)

/-- A call latch is cleared at the green start of a stage that names its input, a faulty input's excepted (R66). -/
def Detector.served (d : Detector) : Detector := if d.faulty then d else { d with latch := false }

/-- The running stage context as loaded from a descriptor (R68). -/
def State.loadContext (s : State) (b : Fin 96) : Context :=
  { descriptor := b, timing := s.stages[b].timing, calls := s.stages[b].shape.calls,
    holders := s.stages[b].shape.holders, greenTimer := 0, extTimer := 0, maxTimer := none }

/-- The end of an interstage: the green of stage B begins (R66), step 3 of the tenth excepted. -/
def State.beginGreen (s : State) (b : Fin 96) : State :=
  let t := s.mapSeq fun q =>
    { q with interstage := none, context := some (s.loadContext b), state := .minGreen }
  { t with detectors := Vector.ofFn fun n =>
      if has s.stages[b].shape.calls n then s.detectors[n].served else s.detectors[n] }

/-- The end of the interstage is checked, and taken where it has come (R65, R66). -/
def State.endInterstage (s : State) : State :=
  match s.seq.state, s.seq.interstage with
  | .interstage, some r => if s.interstageOver r then s.beginGreen r.entering else s
  | _, _ => s

/-- Step 2 of a tenth (R62, R65). -/
def State.interstageStep (s : State) : State :=
  match s.seq.state, s.seq.interstage with
  | .interstage, some r =>
    ({ s with groups := Vector.ofFn fun i => r.stepGroup i s.groups[i] } : State).endInterstage
  | _, _ => s

/-! ## Greens (R68 to R72) -/

/-- An extend input of the context is active: enabled, not faulty, and ACTIVE (R70). -/
def State.extendActive (s : State) (c : Context) : Bool :=
  allGroups.any fun n => has c.holders n && s.detectors[n].cfg.enabled && !s.detectors[n].faulty && s.detectors[n].level

/-- The extension timer worked at a tenth (R70), and the demand arrival with its maximum timer (R69). -/
def Context.work (c : Context) (active waiting : Bool) : Context :=
  { c with
    extTimer := if active then c.timing.step else c.extTimer - 1
    maxTimer := if waiting then some (c.maxTimer.getD 0) else none }

/-- The first part of step 3: the extension timer is worked and waiting demand is evaluated (R62, R69, R70). -/
def State.workGreen (s : State) : State :=
  match s.seq.context with
  | none => s
  | some c =>
    s.mapSeq fun q => { q with context := some (c.work (s.extendActive c) (s.waitingDemand c.descriptor)) }

/-- The maximum timer has reached the maximum green (R72). -/
def Context.maxedOut (c : Context) : Bool :=
  match c.maxTimer with
  | none => false
  | some t => c.timing.maxGreen ≤ t

/-- The extension step is 0, or the extension timer is 0 (R72). -/
def Context.gappedOut (c : Context) : Bool := c.timing.step == 0 || c.extTimer == 0

/-- Step 3 in a green begun at this tenth: its minimum green of at least 30 tenths has not run, so it cannot be
left (R62, R66). -/
def State.freshGreen (s : State) : State :=
  if s.seq.state = .minGreen then s.workGreen else s

/-- A transition starts at this tenth (R63), and step 2 is applied to it at once for its offsets of 0 (R62). -/
def State.startTransition (s : State) (a : Option (Fin 96)) (b : Fin 96) : State :=
  let losers := s.losersOf b
  let t : State :=
    { s with
      groups := Vector.ofFn fun g => if losers.contains g then s.groups[g].enter .leaving else s.groups[g] }
  let r : Interstage :=
    { leaving := a, entering := b, timer := 0, losers := losers, gainers := (s.gainersOf b).map t.gainerOf }
  ((t.mapSeq fun q =>
    { q with state := .interstage, current := some b, context := none, interstage := some r }).interstageStep).freshGreen

/-! ## Leaving a stage (R73 to R75) -/

/-- The all-barred indication is worked out and handed to the supervisor (R75, R156). -/
def State.indicate (s : State) : State :=
  (s.mapSeq fun q => { q with allBarred := s.barredIndication }).refresh

/-- The plan change is taken: the pending plan runs, and the transition to its entry choice starts; with no entry
choice the stage is not left and rests (R74, R75). -/
def State.changePlan (s : State) (cur : Fin 96) (q : Fin 8) : State :=
  let t := ((s.mapSeq fun x => { x with running := some q }).workOutPending).post .plan .plan q.val
  match t.entryChoice q with
  | some d => (t.startTransition (some cur) d).indicate
  | none => (t.setSeqState .resting).indicate

/-- The change point of the running plan is the stage being left or is passed over by the walk (R74). -/
def State.changeDue (s : State) (p : Fin 8) (cur : Fin 96) : Bool :=
  let cp := s.plans[p].changePoint
  cp == cur || ((s.others cur).takeWhile s.barred).contains cp

/-- The stage is left (R73): to the first eligible stage of the walk, or by a plan change (R74). -/
def State.leaveStage (s : State) : State :=
  match s.seq.running, s.seq.context with
  | some p, some c =>
    match (s.others c.descriptor).find? s.eligible with
    | none => s
    | some d =>
      match s.seq.pending with
      | none => s.startTransition (some c.descriptor) d
      | some q =>
        if s.changeDue p c.descriptor then s.changePlan c.descriptor q
        else s.startTransition (some c.descriptor) d
  | _, _ => s

/-- The judgements of EXTENDING (the table of R72). -/
def State.judgeExtending (s : State) : State :=
  match s.seq.context with
  | none => s
  | some c =>
    if c.maxTimer = none then s.setSeqState .resting
    else if c.maxedOut then s.leaveStage
    else if c.gappedOut then s.leaveStage
    else s

/-- The minimum green has run (R69). -/
def State.minGreenRun (s : State) : Bool :=
  match s.seq.context with
  | none => false
  | some c => c.timing.minGreen ≤ c.greenTimer

/-- Waiting demand was found at this tenth: the demand arrival is present (R69). -/
def State.demandPresent (s : State) : Bool :=
  match s.seq.context with
  | none => false
  | some c => c.maxTimer.isSome

/-- The end of the minimum green (R69): EXTENDING with its judgements in the same tenth, or RESTING. -/
def State.endMinGreen (s : State) : State :=
  if s.demandPresent then (s.setSeqState .extending).judgeExtending else s.setSeqState .resting

/-- The last part of step 3: the green timers are judged (R69, R72). -/
def State.judgeGreen (s : State) : State :=
  match s.seq.state with
  | .minGreen => if s.minGreenRun then s.endMinGreen else s
  | .extending => s.judgeExtending
  | .resting => if s.demandPresent then (s.setSeqState .extending).judgeExtending else s
  | .stopped => s
  | .allRed => s
  | .interstage => s
  | .suspended => s

/-- The sequencer is in a green. -/
def SeqState.inGreen : SeqState → Bool
  | .minGreen => true
  | .extending => true
  | .resting => true
  | .stopped => false
  | .allRed => false
  | .interstage => false
  | .suspended => false

/-- Step 3 of a tenth (R62). -/
def State.greenStep (s : State) : State :=
  if s.seq.state.inGreen then s.workGreen.judgeGreen else s

/-! ## The entry (R57, R170) -/

/-- The directed entry: the requested plan runs, and the transition from all-red to its entry choice starts, which
makes the mode RUNNING and raises the causes it finds present (R158); with no entry choice the sequencer stays in ALL_RED (R57, R75, R170). -/
def State.enterPlan (s : State) : State :=
  let t := (s.mapSeq fun q => { q with running := s.sched.requested }).workOutPending
  match s.sched.requested with
  | none => t.indicate
  | some p =>
    match t.entryChoice p with
    | none => t.indicate
    | some d => (((t.startTransition none d).changeMode .running .plan).indicate).raisePresent

/-! ## Detectors (R78 to R80) -/

/-- The counters of tenths hold at 65,535 (R61, R68, R80). -/
def count16 (n : Nat) : Nat := min (n + 1) 65535

/-- The active-run counter rises while the level is ACTIVE (R80). -/
def Detector.tenth (d : Detector) : Detector :=
  if d.cfg.enabled && d.level then { d with activeRun := count16 d.activeRun } else d

/-- The input is not faulty, and its counter exceeds the stuck limit times 600 (R80). -/
def Detector.stuck (d : Detector) : Bool :=
  !d.faulty && 0 < d.cfg.stuckLimit && d.cfg.stuckLimit * 600 < d.activeRun

/-- Becoming faulty sets the latch (R80). -/
def Detector.makeFaulty (d : Detector) : Detector := Detector.moved d { d with faulty := true, latch := true }

/-- A detector becomes faulty and is posted to NOTICE (R80). -/
def State.detectorFaulty (s : State) (n : Fin 16) : State :=
  (s.setDetector n s.detectors[n].makeFaulty).post .notice .detector n.val

/-- One sample of an enabled input (R79); a faulty input whose level becomes INACTIVE returns to normal (R80). -/
def Detector.sample (d : Detector) (pin : Bool) : Detector :=
  if d.cfg.enabled then
    let now := pin != d.cfg.invert
    let level := if now && d.previous then true else if !now && !d.previous then false else d.level
    let fell := d.level && !level
    Detector.moved d
      { d with previous := now, level := level, latch := d.latch || level,
               activeRun := if fell then 0 else d.activeRun, faulty := d.faulty && !fell }
  else d

/-- The detector inputs are sampled at a measured tick (R79). -/
def State.sampleDetectors (s : State) (pins : Set16) : State :=
  { s with detectors := Vector.ofFn fun n => s.detectors[n].sample (has pins n) }

/-! ## The work at a tenth (R62) -/

/-- The since-green counter rises to 250 and the state timer to 65,535 (R28, R61). -/
def Group.tenth (g : Group) : Group :=
  { g with sinceGreen := min (g.sinceGreen + 1) 250, stateTimer := count16 g.stateTimer }

/-- The timers of the running stage context (R68). -/
def Context.tenth (c : Context) : Context :=
  { c with greenTimer := count16 c.greenTimer, maxTimer := c.maxTimer.map (· + 1) }

/-- Step 1 of a tenth (R62), the detectors' stuck check apart. -/
def State.raiseTimers (s : State) : State :=
  let t := s.mapSeq fun q =>
    { q with interstage := q.interstage.map fun r => { r with timer := r.timer + 1 }
             context := q.context.map Context.tenth }
  { t with groups := t.groups.map Group.tenth, detectors := t.detectors.map Detector.tenth }

/-- The detectors that have been ACTIVE too long become faulty (R80). -/
def State.stuckCheck (s : State) : State :=
  allGroups.foldl (fun t n => if t.detectors[n].stuck then t.detectorFaulty n else t) s

/-- The sequencer's work at a tenth tick (R62): step 1, then steps 2 and 3, each an event. -/
def State.sequencerTenth (s : State) : State :=
  event State.greenStep (event State.interstageStep s.raiseTimers.stuckCheck)

/-! ## Dark groups (R77) -/

/-- The group enters DARK at this tick (R77). -/
def Group.goesDark (g : Group) : Bool := g.hasCause && g.aspect != .dark

/-- A group with a dark cause enters DARK, a DARK group with none enters RED (R77). -/
def Group.darkStep (g : Group) : Group :=
  if g.goesDark then g.enter .dark else if g.aspect == .dark && !g.hasCause then g.enter .red else g

/-- Step 2 of a cycle tick (R60, R77): groups that go dark leave the interstage in flight (R67). -/
def State.darkStep (s : State) : State :=
  let stays (g : Fin 16) : Bool := !s.groups[g].goesDark
  let t := s.mapSeq fun q =>
    { q with interstage := q.interstage.map fun r =>
        { r with losers := r.losers.filter stays, gainers := r.gainers.filter fun x => stays x.group } }
  { t with groups := t.groups.map Group.darkStep }

/-! ## The proposed set (R56, R59, R60) -/

/-- How an aspect state commands a slot of a used group (R59). A PEDESTRIAN group never enters PREP. -/
def aspectLights (k : Kind) (a : Aspect) (slot : Fin 4) : Bool :=
  match k, a with
  | .unused, _ => false
  | _, .red => slot == 0 || slot == 1
  | .vehicle, .prep => slot == 0 || slot == 1 || slot == 2
  | .pedestrian, .prep => false
  | _, .green => slot == 3
  | .vehicle, .leaving => slot == 2
  | .pedestrian, .leaving => false
  | _, .dark => false

/-- What the sequencer state makes of a group's aspect (R56). -/
def SeqState.lights (q : SeqState) (k : Kind) (a : Aspect) (slot : Fin 4) : Bool :=
  match q with
  | .stopped => false
  | .suspended => false
  | .allRed => a != .dark && (slot == 0 || slot == 1)
  | .interstage => aspectLights k a slot
  | .minGreen => aspectLights k a slot
  | .extending => aspectLights k a slot
  | .resting => aspectLights k a slot

/-- The proposed set: unused channels, channels of DARK groups and channels of ISOLATED cables are held off (R60). -/
def State.proposed (s : State) : Vector Bool 64 :=
  Vector.ofFn fun c =>
    let g := s.groups[groupOf c]
    s.used c && g.aspect != .dark && !s.onIsolated c && s.seq.state.lights g.cfg.kind g.aspect (slotOf c)

end Sys2Proof.Machine
end

