-- ==== Sys2Proof/Machine/Sampler.lean ====
section
/-! DEFINITION. The sampler (section 6.1): sample positions, saturating sums of squares, and cycle readings. -/

namespace Sys2Proof.Machine

/-- The largest sum an accumulator holds (R103). -/
def sumLimit : Nat := 16777215

/-- Adds one square, saturating (R103). -/
def Accumulator.add (a : Accumulator) (square : Nat) : Accumulator :=
  if a.saturated then a
  else if sumLimit < a.sum + square then { sum := sumLimit, saturated := true }
  else { a with sum := a.sum + square }

/-- The square of a sample or a residual sample. -/
def squareOf (x : Int) : Nat := x.natAbs * x.natAbs

/-- The sample of channel c: input c (R101). -/
def channelSample (frame : Vector Sample 80) (c : Fin 64) : Int := (frame[c.val]).toInt

/-- The return sample of cable k: input 64 + k (R101). -/
def returnSample (frame : Vector Sample 80) (k : Fin 16) : Int := (frame[64 + k.val]).toInt

/-- The residual sample of cable k: its return sample less the samples of the channels it carries (R104). -/
def Sampler.residualSample (p : Sampler) (frame : Vector Sample 80) (k : Fin 16) : Int :=
  allChannels.foldl (fun sum c => if p.carriedBy[c] = some k then sum - channelSample frame c else sum)
    (returnSample frame k)

/-- One sample position: a frame of 80 samples is added to the 80 sums and the 16 residual sums (R103, R104). -/
def Sampler.takePosition (p : Sampler) (frame : Vector Sample 80) : Sampler :=
  match p.position with
  | none => p
  | some n =>
    { p with
      position := if h : n.val + 1 < 32 then some ⟨n.val + 1, h⟩ else none
      inputs := Vector.zipWith (fun (a : Accumulator) (x : Sample) => a.add (squareOf x.toInt)) p.inputs frame
      residuals := Vector.ofFn fun k => p.residuals[k].add (squareOf (p.residualSample frame k)) }

/-- A cycle opening: every accumulator is cleared, position 0 falls, and the channel assignment is taken (R102, R104). -/
def State.openCycle (s : State) : State :=
  { s with
    sampler :=
      { position := some 0
        spacing := s.base.frequency
        inputs := Vector.replicate 80 Accumulator.zero
        residuals := Vector.replicate 16 Accumulator.zero
        carriedBy := s.channels.map fun c => c.cfg.cable } }

/-- The integer square root, found bit by bit: the largest number below 2 ^ bits whose square is not above m. -/
def rootFrom (m : Nat) : Nat → Nat → Nat
  | 0, r => r
  | bits + 1, r => if (r + 2 ^ bits) * (r + 2 ^ bits) ≤ m then rootFrom m bits (r + 2 ^ bits) else rootFrom m bits r

/-- The integer square root of a mean square, which is at most 524,287 (R106). -/
def integerRoot (m : Nat) : Nat := rootFrom m 12 0

/-- The cycle reading of an accumulator (R106). -/
def Accumulator.reading (a : Accumulator) : Reading :=
  { mA := 2 * integerRoot (a.sum / 32), saturated := a.saturated }

/-- The readings a measured tick delivers (R105). -/
structure Readings where
  channels : Vector Reading 64
  returns : Vector Reading 16
  residuals : Vector Reading 16
deriving DecidableEq, Repr

def Sampler.readings (p : Sampler) : Readings :=
  { channels := Vector.ofFn fun (c : Fin 64) => (p.inputs[c.val]).reading
    returns := Vector.ofFn fun (k : Fin 16) => (p.inputs[64 + k.val]).reading
    residuals := p.residuals.map Accumulator.reading }

end Sys2Proof.Machine
end

