-- ==== Sys2Proof/Machine/Proving.lean ====
section
/-! DEFINITION. The proving unit: envelope phases (section 5.5), seen lit, learning, classification, tracking, the
off check, streaks and verdicts (chapter 6). -/

namespace Sys2Proof.Machine

/-! ## Durations and phases (R89 to R92) -/

/-- The duration code table (R89). -/
def durationOf : Nat → Nat
  | 0 => 0
  | 1 => 1
  | 2 => 2
  | 3 => 3
  | 4 => 4
  | 5 => 6
  | 6 => 8
  | 7 => 10
  | 8 => 12
  | 9 => 16
  | 10 => 20
  | 11 => 25
  | 12 => 32
  | 13 => 40
  | 14 => 50
  | _ => 64

def Channel.setPhase (c : Channel) (p : Phase) (n : Nat) : Channel := { c with phase := p, remaining := n }

/-- Entry to SETTLE; a duration of 0 skips it (R89, R91). -/
def Channel.enterSettle (c : Channel) (f : ProfileConfig) : Channel :=
  if durationOf f.settleCode = 0 then c.setPhase .steady 0 else c.setPhase .settle (durationOf f.settleCode)

/-- Entry to SURGE; a duration of 0 skips it (R92). -/
def Channel.enterSurge (c : Channel) (f : ProfileConfig) : Channel :=
  if durationOf f.surgeCode = 0 then c.enterSettle f else c.setPhase .surge (durationOf f.surgeCode)

/-- Entry to RELEASE; a duration of 0 skips it (R92). -/
def Channel.enterRelease (c : Channel) (f : ProfileConfig) : Channel :=
  if durationOf f.releaseCode = 0 then c.setPhase .off 0 else c.setPhase .release (durationOf f.releaseCode)

/-- The surge count runs out (R91). -/
def Channel.endSurge (c : Channel) (f : ProfileConfig) : Channel := c.enterSettle f

/-- The settle count runs out (R91). -/
def Channel.endSettle (c : Channel) : Channel := c.setPhase .steady 0

/-- The release count runs out (R91). -/
def Channel.endRelease (c : Channel) : Channel := c.setPhase .off 0

/-- The effect of counting the ended cycle (the table of R91). -/
def Channel.countCycle (c : Channel) (f : ProfileConfig) : Channel :=
  match c.phase with
  | .off => c
  | .steady => c
  | .surge => if c.remaining ≤ 1 then c.endSurge f else { c with remaining := c.remaining - 1 }
  | .settle => if c.remaining ≤ 1 then c.endSettle else { c with remaining := c.remaining - 1 }
  | .release => if c.remaining ≤ 1 then c.endRelease else { c with remaining := c.remaining - 1 }

/-- A change of the command in force sets the phase of the opening cycle (R92). -/
def Channel.switch (c : Channel) (f : ProfileConfig) (on : Bool) : Channel :=
  if on then c.enterSurge f else c.enterRelease f

/-- The phase machine at a cycle tick, and the command in force of the opening cycle (R90, R91, R92). -/
def Channel.advance (c : Channel) (f : ProfileConfig) (opening : Bool) : Channel :=
  { (if c.command = opening then c.countCycle f else c.switch f opening) with command := opening }

/-! ## The active part (R83) -/

/-- Whether the dim part is the active one. -/
def Channel.dimActive (c : Channel) (d : Dimming) : Bool := d == .dim && c.cfg.dimmable && c.dim.isSome

def Channel.active (c : Channel) (d : Dimming) : Part :=
  if c.dimActive d then c.dim.getD c.bright else c.bright

def Channel.setActive (c : Channel) (d : Dimming) (p : Part) : Channel :=
  if c.dimActive d then { c with dim := some p } else { c with bright := p }

/-! ## Readings (R94, R108) -/

/-- Seen lit: saturated, or above the off limit (R108). -/
def seenLitBy (f : ProfileConfig) (r : Reading) : Bool := r.saturated || f.offLimit < r.mA

/-- Steps 1 and 2 of R109: the reading is recorded and seen lit is worked out. -/
def Channel.take (c : Channel) (f : ProfileConfig) (r : Reading) : Channel :=
  { c with lastReading := r, seenLit := seenLitBy f r }

/-! ## Results (R109 to R116) -/

inductive Result where
  | good
  | bad (k : BadKind)
deriving DecidableEq, Repr

/-- The thresholds of a learned part (R113). -/
structure Thresholds where
  b : Nat
  o : Nat
  l : Nat
  u : Nat
deriving DecidableEq, Repr

def thresholdsOf (f : ProfileConfig) (p : Part) : Thresholds :=
  let b := p.baseline / 16
  { b := b, o := b * f.out / 100, l := b * (100 - f.bandLow) / 100, u := b * (100 + f.bandHigh) / 100 }

/-- The result of a learning reading (R110). -/
def learnResult (f : ProfileConfig) (r : Reading) : Result :=
  if r.saturated then .bad .over else if r.mA ≤ f.offLimit then .bad .out else .good

/-- A good learning reading joins the learn sum (R110). -/
def Part.learn (p : Part) (f : ProfileConfig) (r : Reading) : Part :=
  if learnResult f r = .good then { p with learnSum := p.learnSum + r.mA, learnCount := p.learnCount + 1 } else p

/-- The result of a classification reading (R114). -/
def classResult (f : ProfileConfig) (p : Part) (r : Reading) : Result :=
  let t := thresholdsOf f p
  if r.saturated then .bad .over
  else if r.mA < t.o then .bad .out
  else if r.mA < t.l then .bad .partialLoss
  else if r.mA ≤ t.u then .good
  else .bad .over

/-- The clamp range of a part: floor(reference × 75 / 100) to floor(reference × 125 / 100) (R83, R115). -/
def Part.clampLow (p : Part) : Nat := p.reference * 75 / 100
def Part.clampHigh (p : Part) : Nat := p.reference * 125 / 100

/-- The step of tracking, truncated toward zero (R115). -/
def Part.trackStep (p : Part) (mA : Nat) : Int := Int.tdiv ((mA : Int) * 16 - (p.baseline : Int)) 64

/-- The baseline after a good classification reading with tracking enabled (R115). -/
def Part.tracked (p : Part) (mA : Nat) : Nat :=
  let sum := ((p.baseline : Int) + p.trackStep mA).toNat
  if sum < p.clampLow then p.clampLow else if p.clampHigh < sum then p.clampHigh else sum

/-- What a classification reading does to the active part (R114, R115). -/
def Part.classify (p : Part) (f : ProfileConfig) (r : Reading) : Part :=
  if f.tracking && classResult f p r = .good then { p with baseline := p.tracked r.mA } else p

/-- The off check (R116). -/
def offResult (f : ProfileConfig) (r : Reading) : Result :=
  if r.saturated || f.offLimit < r.mA then .bad .stuckOn else .good

/-! ## Streaks and verdicts (R117 to R119) -/

/-- The severity order; a kind or verdict of none is below every kind (R118). -/
def severity : Option BadKind → Nat
  | none => 0
  | some .partialLoss => 1
  | some .over => 2
  | some .out => 3
  | some .stuckOn => 4

/-- A result is applied to the streak (R117, R118). -/
def Channel.applyResult (c : Channel) : Result → Channel
  | .good => { c with badStreak := 0, worst := none }
  | .bad k =>
    { c with badStreak := c.badStreak + 1, worst := if severity c.worst < severity (some k) then some k else c.worst }

/-- The streak has reached the confirm count (R119). -/
def Channel.confirmDue (c : Channel) (f : ProfileConfig) : Bool := 0 < c.badStreak && f.confirmCount ≤ c.badStreak

/-- The worst kind is more severe than the latched verdict (R119). -/
def Channel.verdictRises (c : Channel) : Bool := severity c.verdict < severity c.worst

/-- The confirmation of a streak (R119). -/
def Channel.confirm (c : Channel) : Channel :=
  { c with verdict := if c.verdictRises then c.worst else c.verdict, badStreak := 0, worst := none }

/-! ## Learning completes (R111) -/

/-- The active part is UNLEARNED and holds sixteen good readings (R111). -/
def Channel.learnDue (c : Channel) (d : Dimming) : Bool :=
  !(c.active d).learned && 16 ≤ (c.active d).learnCount

/-- The mean is below twice the off limit: learning fails (R111). -/
def Channel.learningFails (c : Channel) (f : ProfileConfig) (d : Dimming) : Bool :=
  (c.active d).learnSum / 16 < 2 * f.offLimit

/-- The completion of learning (R111). -/
def Channel.completeLearning (c : Channel) (f : ProfileConfig) (d : Dimming) : Channel :=
  let p := c.active d
  let mean := p.learnSum / 16
  if c.learningFails f d then
    { c.setActive d { p with learnSum := 0, learnCount := 0 } with learnFailed := true }
  else
    { c.setActive d { learned := true, learnSum := 0, learnCount := 0, reference := mean * 16, baseline := mean * 16 } with
      learnFailed := false }

/-! ## One reading judged (R109) -/

/-- What the judgement of a reading leaves: the channel, and what is posted to LAMP. -/
structure Judged where
  channel : Channel
  /-- learning failed at this reading (R111) -/
  failed : Bool
  /-- the latched verdict was raised at this reading (R119) -/
  raised : Bool
deriving DecidableEq, Repr

/-- The confirmation, where the streak has reached the confirm count (R119). -/
def Channel.settleStreak (c : Channel) (f : ProfileConfig) (failed : Bool) : Judged :=
  if c.confirmDue f then { channel := c.confirm, failed := failed, raised := c.verdictRises }
  else { channel := c, failed := failed, raised := false }

/-- A reading judged in STEADY against an UNLEARNED part (R110, R111). -/
def Channel.judgeLearning (c : Channel) (f : ProfileConfig) (d : Dimming) (r : Reading) : Judged :=
  let t := (c.setActive d ((c.active d).learn f r)).applyResult (learnResult f r)
  if t.learnDue d then (t.completeLearning f d).settleStreak f (t.learningFails f d) else t.settleStreak f false

/-- A reading judged in STEADY against a LEARNED part (R113 to R115). -/
def Channel.judgeClass (c : Channel) (f : ProfileConfig) (d : Dimming) (r : Reading) : Judged :=
  ((c.setActive d ((c.active d).classify f r)).applyResult (classResult f (c.active d) r)).settleStreak f false

/-- A reading given the off check (R116). -/
def Channel.judgeOff (c : Channel) (f : ProfileConfig) (r : Reading) : Judged :=
  (c.applyResult (offResult f r)).settleStreak f false

/-- The judgement a reading receives, by the phase held for the measured cycle and the learn state (R109). -/
def Channel.judge (c : Channel) (f : ProfileConfig) (d : Dimming) (r : Reading) : Judged :=
  match c.phase with
  | .steady => if (c.active d).learned then c.judgeClass f d r else c.judgeLearning f d r
  | .off => c.judgeOff f r
  | .surge => { channel := c, failed := false, raised := false }
  | .settle => { channel := c, failed := false, raised := false }
  | .release => { channel := c, failed := false, raised := false }

/-- The profile a channel names, as it stands (R88). -/
def State.profileOf (s : State) (c : Fin 64) : ProfileConfig := s.profiles[s.channels[c].cfg.profile].cfg

/-- A reading of the channel may be judged (the table of R95). -/
def State.mayJudge (s : State) (c : Fin 64) : Bool :=
  s.sup.mode.judges && s.used c && !s.onIsolated c &&
    match s.channels[c].phase with
    | .steady => s.sched.dimSettle == 0
    | .off => true
    | .surge => false
    | .settle => false
    | .release => false

/-- Steps 1 to 4 of R109 at one channel of a measured tick. -/
def State.judgeChannel (s : State) (c : Fin 64) (r : Reading) : Judged :=
  let t := s.channels[c].take (s.profileOf c) r
  if s.mayJudge c then t.judge (s.profileOf c) s.sched.dimState r else { channel := t, failed := false, raised := false }

/-- The whole of the tick's work at one channel (R94, R109): the reading where the tick is measured, then the phase. -/
def State.proveChannel (s : State) (readings : Option Readings) (opening : Vector Bool 64) (c : Fin 64) : Judged :=
  let j : Judged := match readings with
    | none => { channel := s.channels[c], failed := false, raised := false }
    | some r => s.judgeChannel c r.channels[c]
  { j with channel := Channel.moved s.channels[c] (j.channel.advance (s.profileOf c) opening[c]) }

/-- The supervisor works the red availability out at a change of a latched verdict (R155). -/
def State.verdictChanged (s : State) : State := s.redCauses.refresh

/-- The proving unit's work at a cycle tick. The 64 channels are taken under the state the tick found (R95), then the
posts to LAMP. -/
def State.proveTick (s : State) (readings : Option Readings) (opening : Vector Bool 64) : State :=
  let js : Vector Judged 64 := Vector.ofFn (s.proveChannel readings opening)
  let t : State := { s with channels := js.map Judged.channel }
  allChannels.foldl (fun v c => v.postIf (js[c].failed || js[c].raised) .lamp .channel c.val) t

/-- The proving unit's work at a cycle tick raises a latched verdict (R119). -/
def State.raisesVerdict (s : State) (readings : Option Readings) (opening : Vector Bool 64) : Bool :=
  allChannels.any fun c => (s.proveChannel readings opening c).raised

/-- The supervisor's working-out of the red availability at a cycle tick that raised a verdict (R155). -/
def State.verdictTick (s : State) (raised : Bool) : State := if raised then event State.verdictChanged s else s

/-- The dim settle remaining falls by one at each cycle tick (R52). -/
def State.settleTick (s : State) : State := s.mapSched fun u => { u with dimSettle := u.dimSettle - 1 }

/-- Learning completes at channel c, with its post (R111). -/
def State.completeLearning (s : State) (c : Fin 64) : State :=
  (s.putChannel c (s.channels[c].completeLearning (s.profileOf c) s.sched.dimState)).postIf
    (s.channels[c].learningFails (s.profileOf c) s.sched.dimState) .lamp .channel c.val

/-- The streak of channel c is confirmed, with its post and the red availability (R119, R155). -/
def State.confirmStreak (s : State) (c : Fin 64) : State :=
  let t := (s.putChannel c s.channels[c].confirm).postIf s.channels[c].verdictRises .lamp .channel c.val
  if s.channels[c].verdictRises then t.verdictChanged else t

end Sys2Proof.Machine
end

