-- ==== Sys2Proof/Machine/Layout.lean ====
section
/-! DEFINITION. What the part shifts out: the READ layout of every record (R188), the PROBE payload (R98, R188), the
status codes (R187), and the bytes of a response (R181). -/

namespace Sys2Proof.Machine

/-! ## Enumerations that are read only, numbered from 0 in the order listed (R188; log entry 8) -/

def Aspect.byte : Aspect → Byte
  | .red => 0
  | .prep => 1
  | .green => 2
  | .leaving => 3
  | .dark => 4

def Phase.byte : Phase → Byte
  | .off => 0
  | .surge => 1
  | .settle => 2
  | .steady => 3
  | .release => 4

/-- Verdicts and worst kinds (R188). -/
def kindByte : Option BadKind → Byte
  | none => 0
  | some .partialLoss => 1
  | some .over => 2
  | some .out => 3
  | some .stuckOn => 4

def TestStatus.byte : TestStatus → Byte
  | .none => 0
  | .pending => 1
  | .testing => 2
  | .passed => 3
  | .failed => 4
  | .timedOut => 5
  | .abandoned => 6

/-- The result mark; 0 is kept for an absent result (R188). -/
def RangeMark.byte : RangeMark → Byte
  | .aboveRange => 1
  | .belowRange => 2
  | .inRange => 3

def TestClass.byte : TestClass → Byte
  | .startup => 0
  | .retest => 1
  | .host => 2

def Mode.byte : Mode → Byte
  | .unconfigured => 0
  | .standby => 1
  | .starting => 2
  | .running => 3
  | .dark => 4
  | .failsafe => 5
  | .mainsOut => 6

def Origin.byte : Origin → Byte
  | .dark => 0
  | .other => 1

def MainsState.byte : MainsState → Byte
  | .locked => 0
  | .slip1 => 1
  | .mainsLost => 2
  | .acquiring => 3

def PlanSource.byte : PlanSource → Byte
  | .schedule => 0
  | .override => 1

def SeqState.byte : SeqState → Byte
  | .stopped => 0
  | .allRed => 1
  | .interstage => 2
  | .minGreen => 3
  | .extending => 4
  | .resting => 5
  | .suspended => 6

/-- None is one of the named values of the start phase, and is coded 0 (R188). -/
def phaseByte : Option StartPhase → Byte
  | none => 0
  | some .darkTest => 1
  | some .allRed => 2

def DimOverride.byte : DimOverride → Byte
  | .follow => 0
  | .bright => 1
  | .dim => 2

def BridgeState.byte : BridgeState → Byte
  | .idle => 0
  | .charging => 1
  | .measuring => 2
  | .bridgeFault => 3

/-- Causes are coded 1 to 6, 0 for none (R188). -/
def causeByte : Option Cause → Byte
  | none => 0
  | some c => b8 c.code

/-- A set of three flags in bits 0, 1 and 2 (R188). -/
def bits3 (x y z : Bool) : Byte := b8 (x.toNat + 2 * y.toNat + 4 * z.toNat)

/-! ## The layouts (R188) -/

def Group.layout (g : Group) : List Byte :=
  g.cfg.bytes ++ [g.aspect.byte, bits3 g.isolatedCable g.redOut false] ++ be16 g.stateTimer ++ [b8 g.sinceGreen]

def ConflictRow.layout (r : ConflictRow) : List Byte := rowBytes r.entry

/-- The eight bytes of a brightness part. -/
def Part.bytes (p : Part) : List Byte :=
  [yesNo p.learned] ++ be16 p.learnSum ++ [b8 p.learnCount] ++ be16 p.reference ++ be16 p.baseline

def Reading.bytes (r : Reading) : List Byte := be16 r.mA ++ [yesNo r.saturated]

/-- CHANNEL: an absent dim part ends the payload at its presence byte. The command in force is listed on, off. -/
def Channel.layout (c : Channel) : List Byte :=
  c.cfg.bytes ++ [kindByte c.verdict, yesNo c.learnFailed, firstOf c.command, c.phase.byte, b8 c.remaining] ++
    c.lastReading.bytes ++ [yesNo c.seenLit, b8 c.badStreak, kindByte c.worst] ++ c.bright.bytes ++
    (match c.dim with
      | none => [yesNo false]
      | some p => yesNo true :: p.bytes)

def Profile.layout (f : Profile) : List Byte := f.cfg.bytes

/-- The fields of a queue entry that READ of its cable returns (R126). -/
def QueueEntry.bytes (e : QueueEntry) : List Byte :=
  [e.cls.byte, bits3 e.origins.startup e.origins.retest e.origins.host] ++ be32 (e.override.getD 0) ++
    be16 e.waiting ++ be16 e.notBefore ++ [yesNo e.underTest]

/-- The mark and the four resistance bytes of the last insulation result; with no result the mark is 0 and the four
bytes are left open (log entry 9). -/
def resultBytes (k : Fin 16) : Option InsulationResult → List Byte
  | none => (0 : Byte) :: be32 (Config.absentResistance k.val).toNat
  | some r => r.mark.byte :: be32 r.kOhm

/-- The written part of a CABLE record as it stands. -/
def Cable.config (c : Cable) : CableConfig :=
  { state := c.state, action := c.action, route := c.route, tolerance := c.tolerance, limit := c.limit }

/-- CABLE k with its queue entry, which ends the payload at its presence byte where it is absent. -/
def Cable.layout (k : Fin 16) (c : Cable) (e : Option QueueEntry) : List Byte :=
  c.config.bytes ++
    [bits3 c.faults.balance c.faults.openReturn c.faults.insulation, yesNo c.suspect, c.status.byte] ++
    resultBytes k c.result ++ c.lastResidual.bytes ++ c.lastReturn.bytes ++
    [b8 c.balanceStreak, b8 c.openStreak] ++
    (match e with
      | none => [yesNo false]
      | some x => yesNo true :: x.bytes)

/-- PLAN: EMPTY is listed before LOADED. -/
def Plan.layout (p : Plan) : List Byte :=
  PlanConfig.bytes { entry := p.entry, changePoint := p.changePoint } ++ [yesNo p.loaded, b8 p.length]

/-- STAGE: EMPTY is listed before DEFINED. -/
def Stage.layout (d : Stage) : List Byte :=
  StageConfig.bytes { shape := d.shape, timing := d.timing } ++ [yesNo d.isDefined, optByte 8 d.owner]

def ScheduleEntry.layout (e : ScheduleEntry) : List Byte := e.cfg.bytes

/-- DETECTOR: the previous sample is listed active, inactive; the level ACTIVE, INACTIVE; the latch set, clear. -/
def Detector.layout (d : Detector) : List Byte :=
  d.cfg.bytes ++ [yesNo d.faulty, firstOf d.previous, firstOf d.level, firstOf d.latch] ++ be16 d.activeRun

/-- The written part of JUNCTION 0 as it stands. -/
def State.junctionConfig (s : State) : JunctionConfig :=
  { startRed := s.sup.startRed, sweep := s.sup.sweep, frequency := s.base.frequency }

def State.junctionLayout (s : State) : List Byte :=
  s.junctionConfig.bytes ++
    [s.sup.mode.byte, s.sup.origin.byte, causeByte s.sup.firstCause, b8 s.sup.furtherCauses.toNat,
     b8 s.sup.presentCauses.toNat, s.base.tracker.byte, yesNo s.base.timeValid] ++
    s.base.time.bytes ++
    [s.sched.source.byte, b8 s.sched.overridePlan.val, optByte 8 s.seq.running, optByte 8 s.seq.pending,
     optByte 96 s.seq.current, s.seq.state.byte, phaseByte s.sup.phase,
     s.sched.dimOverride.byte, s.sched.dimState.byte, b8 s.sched.dimSettle, s.bridge.state.byte]

/-- A number below `n`, as an index. -/
def indexOf (n i : Nat) : Option (Fin n) := if h : i < n then some ⟨i, h⟩ else none

/-- The READ layout of a record; empty for a name that is no record. -/
def State.layout (s : State) (r : RecordName) : List Byte :=
  match r.table with
  | .group => ((indexOf 16 r.index).map fun i => s.groups[i].layout).getD []
  | .conflict => ((indexOf 16 r.index).map fun i => s.conflicts[i].layout).getD []
  | .channel => ((indexOf 64 r.index).map fun i => s.channels[i].layout).getD []
  | .profile => ((indexOf 8 r.index).map fun i => s.profiles[i].layout).getD []
  | .cable => ((indexOf 16 r.index).map fun i => Cable.layout i s.cables[i] (s.bridge.entryOf i)).getD []
  | .plan => ((indexOf 8 r.index).map fun i => s.plans[i].layout).getD []
  | .stage => ((indexOf 96 r.index).map fun i => s.stages[i].layout).getD []
  | .schedule => ((indexOf 24 r.index).map fun i => s.schedule[i].layout).getD []
  | .detector => ((indexOf 16 r.index).map fun i => s.detectors[i].layout).getD []
  | .junction => s.junctionLayout

/-- The revision of a record; 0 for a name that is no record. -/
def State.recordRev (s : State) (r : RecordName) : Byte :=
  match r.table with
  | .group => ((indexOf 16 r.index).map fun i => s.groups[i].rev).getD 0
  | .conflict => ((indexOf 16 r.index).map fun i => s.conflicts[i].rev).getD 0
  | .channel => ((indexOf 64 r.index).map fun i => s.channels[i].rev).getD 0
  | .profile => ((indexOf 8 r.index).map fun i => s.profiles[i].rev).getD 0
  | .cable => ((indexOf 16 r.index).map fun i => s.cables[i].rev).getD 0
  | .plan => ((indexOf 8 r.index).map fun i => s.plans[i].rev).getD 0
  | .stage => ((indexOf 96 r.index).map fun i => s.stages[i].rev).getD 0
  | .schedule => ((indexOf 24 r.index).map fun i => s.schedule[i].rev).getD 0
  | .detector => ((indexOf 16 r.index).map fun i => s.detectors[i].rev).getD 0
  | .junction => s.junctionRev

/-! ## PROBE (R98) -/

/-- What a PROBE returns of the active part: the learn count, or the thresholds in force (R98). -/
def probePart (f : ProfileConfig) (p : Part) : List Byte :=
  if p.learned then
    be16 (thresholdsOf f p).b ++ be16 (thresholdsOf f p).o ++ be16 (thresholdsOf f p).l ++ be16 (thresholdsOf f p).u
  else [b8 p.learnCount]

/-- The PROBE payload of a channel (R98, R188). -/
def State.probeLayout (s : State) (c : Fin 64) : List Byte :=
  let x := s.channels[c]
  let p := x.active s.sched.dimState
  [firstOf x.command, x.phase.byte, b8 x.remaining] ++ x.lastReading.bytes ++
    [yesNo x.seenLit, b8 x.badStreak, kindByte x.worst,
     (if x.dimActive s.sched.dimState then Dimming.byte .dim else Dimming.byte .bright), yesNo p.learned] ++
    probePart (s.profileOf c) p

/-! ## Responses (R181, R187) -/

/-- The status codes (R187). -/
def Status.code : Status → Byte
  | .ok => 0
  | .clamped => 1
  | .notReady => 2
  | .none => 3
  | .reset => 4
  | .linkError => 16
  | .busy => 17
  | .unknown => 18
  | .noTable => 19
  | .noRecord => 20
  | .authority => 21
  | .mode => 22
  | .stale => 23
  | .range => 24
  | .owned => 25
  | .inUse => 26
  | .invalid => 27
  | .causePresent => 28
  | .notPending => 29

/-- The response before its CRC (R181). -/
def Response.body (r : Response) : List Byte :=
  [r.status.code, r.command, r.table, r.index, r.revision] ++ be16 r.payload.length ++ r.payload

/-- The bytes of a response, its CRC included (R181). -/
def Response.bytes (r : Response) : List Byte := r.body ++ crcBytes r.body

/-- What `n` clocked bytes shift out of a response: cut off where the frame is shorter, 0 beyond its end (R181). -/
def Response.shifted (r : Response) (n : Nat) : List Byte :=
  r.bytes.take n ++ List.replicate (n - r.bytes.length) 0

/-- The check codes of an INVALID response (R187). -/
inductive Check where
  | redsWithoutSecond | prepNotAllowed | leavingForKind | diagonal | unusedGroup | asymmetric
  | shortOfLeaving | shortOfPrep | notDefined | ownedElsewhere | conflictingGroups | tooShort | repeated | tooLong
  | changePointOffChain | cableUnused | noPlanLoaded | planEmpty
deriving DecidableEq, Repr

def Check.code : Check → Byte
  | .redsWithoutSecond => 1
  | .prepNotAllowed => 2
  | .leavingForKind => 3
  | .diagonal => 4
  | .unusedGroup => 5
  | .asymmetric => 6
  | .shortOfLeaving => 7
  | .shortOfPrep => 8
  | .notDefined => 9
  | .ownedElsewhere => 10
  | .conflictingGroups => 11
  | .tooShort => 12
  | .repeated => 13
  | .tooLong => 14
  | .changePointOffChain => 15
  | .cableUnused => 16
  | .noPlanLoaded => 17
  | .planEmpty => 18

end Sys2Proof.Machine
end

