-- ==== Sys2Proof/Machine/Link.lean ====
section
/-! DEFINITION. The command link: how a frame is decided and answered (R180 to R187). A command of the link is written
as its own work over the shared steps of R182, which are here. -/

namespace Sys2Proof.Machine

/-- What a command leaves and the response it makes, which then replaces the slot (R181). -/
structure Reply where
  state : State
  response : Response
deriving DecidableEq, Repr

/-- The frame of a command whose code is known: what its response echoes (R181). -/
structure Call where
  code : Byte
  header : Header
deriving DecidableEq, Repr

/-- A response to a call, echoing its code, table and index bytes (R181). -/
def Call.answer (c : Call) (st : Status) (revision : Byte) (payload : List Byte) : Response :=
  { status := st, command := c.code, table := c.header.table, index := c.header.index, revision := revision,
    payload := payload }

/-- The record a header names in a given table, absent where it names none (R182 step 3). -/
def namedIn (t : Table) (h : Header) : Option RecordName :=
  if h.table.toNat = t.code ∧ h.index.toNat < t.capacity then some { table := t, index := h.index.toNat } else none

/-- The record a header names in any of the ten tables; the BUSY refusal of a command on records carries its revision,
whatever table the command takes (log entry 10). -/
def namedAny (h : Header) : Option RecordName :=
  match Table.ofCode h.table.toNat with
  | none => none
  | some t => namedIn t h

/-- Byte 4 of a response: the revision of the record named, 0 where none is named (R181; log entry 10). -/
def State.namedRev (s : State) : Option RecordName → Byte
  | none => 0
  | some r => s.recordRev r

/-- A refusal changes nothing; its response carries no payload (R182; log entry 10). -/
def State.refuse (s : State) (c : Call) (named : Option RecordName) (st : Status) : Reply :=
  { state := s, response := c.answer st (s.namedRev named) [] }

/-- An INVALID answer names the failing record, and carries the check code and a column or plan number (R187). -/
def State.invalid (s : State) (c : Call) (r : RecordName) (k : Check) (extra : Nat) : Reply :=
  { state := s
    response := { status := .invalid, command := c.code, table := b8 r.table.code, index := b8 r.index,
                  revision := s.recordRev r, payload := [k.code, b8 extra] } }

/-- The answer of a command that returns a record (R185). -/
def State.returns (s : State) (c : Call) (st : Status) (r : RecordName) : Reply :=
  { state := s, response := c.answer st (s.recordRev r) (s.layout r) }

/-- The answer of a junction command: the JUNCTION READ layout (R186). It names no record. -/
def State.returnsJunction (s : State) (c : Call) : Reply :=
  { state := s, response := c.answer .ok 0 s.junctionLayout }

/-- The slot is replaced (R181). -/
def State.setSlot (s : State) (r : Response) : State := s.mapLink fun l => { l with slot := r }

/-- The slot is shifted out over the bytes clocked (R181). -/
def State.shiftOut (s : State) (n : Nat) : State := s.mapLink fun l => { l with sdo := l.slot.shifted n }

/-- The part is supplied: no block but the retention domain works while main power is absent (log entry 4). -/
def State.whenPowered (s : State) (f : State → State) : State := if s.base.mainPower then f s else s

/-- The close of a frame that passed its check: the slot is shifted out, a command in flight refuses every command but
POLL (R182 step 1, R183), and the response of the command replaces the slot. -/
def State.runFrame (s : State) (c : Call) (named : Option RecordName) (work : State → Reply) : State :=
  s.whenPowered fun s0 =>
    let s1 := s0.shiftOut c.header.clocked
    let r := if s1.link.inFlight.isSome then s1.refuse c named .busy else work s1
    r.state.setSlot r.response

/-- Step 3 of R182 for a command that takes one table. -/
def State.forRecord (s : State) (c : Call) (t : Table) (n : Nat) (work : Fin n → Reply) : Reply :=
  if c.header.table.toNat = t.code then
    match finOf n c.header.index with
    | none => s.refuse c none .noRecord
    | some i => work i
  else s.refuse c none .noTable

/-- Steps 4 and 5 of R182: authority, then the junction mode. -/
def State.gated (s : State) (c : Call) (named : Option RecordName) (maintenance : Bool) (modes : Mode → Bool)
    (work : Reply) : Reply :=
  if maintenance && !s.link.mkey then s.refuse c named .authority
  else if modes s.sup.mode then work
  else s.refuse c named .mode

/-- Step 6 of R182: a conditional write whose expected revision differs answers STALE with the record's present
revision and its full READ payload (R185). -/
def State.unlessStale (s : State) (c : Call) (r : RecordName) (work : Reply) : Reply :=
  match c.header.expected with
  | none => work
  | some e => if e = s.recordRev r then work else s.returns c .stale r

/-- A payload that the command does not take is refused RANGE (R182 step 7). -/
def State.noPayload (s : State) (c : Call) (named : Option RecordName) (payload : List Byte) (work : Reply) : Reply :=
  if payload = [] then work else s.refuse c named .range

/-- The name of a record by its table and index. -/
def nameOf (t : Table) (i : Nat) : RecordName := { table := t, index := i }

/-- Every junction mode. -/
def Mode.every (_ : Mode) : Bool := true

/-- UNCONFIGURED and STANDBY, the modes in which the safety records are written (R186). -/
def Mode.commissioning : Mode → Bool
  | .unconfigured => true
  | .standby => true
  | .starting => false
  | .running => false
  | .dark => false
  | .failsafe => false
  | .mainsOut => false

/-- The modes in which a CHANNEL is written (R84). -/
def Mode.channelWrite (m : Mode) : Bool := m.commissioning || m == .dark

/-- A WRITE to a table of `n` records (R182, R185): the work receives the state and the index. -/
def State.write (s : State) (h : Header) (t : Table) (n : Nat) (maintenance : Bool) (modes : Mode → Bool)
    (work : State → Fin n → Call → Reply) : State :=
  s.runFrame { code := 2, header := h } (namedAny h) fun u =>
    u.forRecord { code := 2, header := h } t n fun i =>
      u.gated { code := 2, header := h } (some (nameOf t i.val)) maintenance modes
        (u.unlessStale { code := 2, header := h } (nameOf t i.val) (work u i { code := 2, header := h }))

/-- A command on a record of one table that carries no payload (R182, R186). -/
def State.onRecord (s : State) (code : Byte) (h : Header) (payload : List Byte) (t : Table) (n : Nat)
    (maintenance : Bool) (work : State → Fin n → Call → Reply) : State :=
  s.runFrame { code := code, header := h } (namedAny h) fun u =>
    u.forRecord { code := code, header := h } t n fun i =>
      u.gated { code := code, header := h } (some (nameOf t i.val)) maintenance Mode.every
        (u.noPayload { code := code, header := h } (some (nameOf t i.val)) payload
          (work u i { code := code, header := h }))

/-- A command that names no record (R182, R186). -/
def State.onJunction (s : State) (code : Byte) (h : Header) (maintenance : Bool) (modes : Mode → Bool)
    (work : State → Call → Reply) : State :=
  s.runFrame { code := code, header := h } none fun u =>
    u.gated { code := code, header := h } none maintenance modes (work u { code := code, header := h })

end Sys2Proof.Machine
end

