-- ==== Sys2Proof/Machine/CableChecks.lean ====
section
/-! DEFINITION. The cable monitor's checks in a measured cycle: open return and balance (section 7.3). -/

namespace Sys2Proof.Machine

/-- The readings of a measured cycle are recorded for every cable (R126). -/
def State.recordCables (s : State) (r : Readings) : State :=
  { s with cables := Vector.ofFn fun k =>
      { s.cables[k] with lastReturn := r.returns[k], lastResidual := r.residuals[k] } }

/-- The sum of the readings of the seen-lit channels counted on the cable, used or unused (R128, R85). -/
def State.seenLitSum (s : State) (k : Fin 16) : Nat :=
  allChannels.foldl (fun sum c =>
    if s.countedOn k c && s.channels[c].seenLit then
      sum + (if s.channels[c].lastReading.saturated then 1448 else s.channels[c].lastReading.mA)
    else sum) 0

/-- Open return is indicated in the measured cycle (R128). -/
def State.openIndicated (s : State) (k : Fin 16) : Bool :=
  s.cables[k].lastReturn.mA < 10 && !s.cables[k].lastReturn.saturated && 50 ≤ s.seenLitSum k

/-- The residual is out of balance (R129). -/
def Cable.unbalanced (c : Cable) : Bool := c.tolerance < c.lastResidual.mA || c.lastResidual.saturated

/-- OPEN_RETURN is confirmed and the streak becomes 0 (R128). -/
def State.confirmOpen (s : State) (k : Fin 16) : State :=
  (s.setCable k { s.cables[k] with openStreak := 0 }).confirmFault k .openReturn

/-- BALANCE is confirmed and the streak becomes 0 (R129). -/
def State.confirmBalance (s : State) (k : Fin 16) : State :=
  (s.setCable k { s.cables[k] with balanceStreak := 0 }).confirmFault k .balance

/-- Open return, indicated: the streak rises, balance is not judged (R128, R129). -/
def State.openBad (s : State) (k : Fin 16) : State :=
  let t := s.setCable k { s.cables[k] with openStreak := s.cables[k].openStreak + 1 }
  if 10 ≤ t.cables[k].openStreak then event (fun u => u.confirmOpen k) t else t

/-- Balance is judged, open return not being indicated (R128, R129). -/
def State.judgeBalance (s : State) (k : Fin 16) : State :=
  let c := s.cables[k]
  let t := s.setCable k
    { c with openStreak := 0, balanceStreak := if c.unbalanced then c.balanceStreak + 1 else 0 }
  if 10 ≤ t.cables[k].balanceStreak then event (fun u => u.confirmBalance k) t else t

/-- The evaluation of one cable in a measured cycle (R127). -/
def State.evaluateCable (s : State) (k : Fin 16) : State :=
  if s.cables[k].state = .monitored && s.sup.mode.judges then
    if s.openIndicated k then s.openBad k else s.judgeBalance k
  else s

/-- The cable monitor's work at a cycle tick: nothing at a no-measurement tick (R126, R127). -/
def State.cableTick (s : State) : Option Readings → State
  | none => s
  | some r => allGroups.foldl State.evaluateCable (s.recordCables r)

end Sys2Proof.Machine
end

