-- ==== Sys2Proof/Machine/Supervisor.lean ====
section
/-! DEFINITION. The supervisor's work at ticks: the examination of each command set (R153), the proven-conflict count
(R154), and the phases of the start sequence (R166 to R170). -/

namespace Sys2Proof.Machine

/-! ## Examination (R153) -/

/-- The set is a violation for the pair x, h: both greens on, or h's green sooner than the intergreen after x's. -/
def State.violates (s : State) (set : Vector Bool 64) (x h : Fin 16) : Bool :=
  s.conflict x h && set[greenOf h] &&
    (set[greenOf x] || s.groups[x].sinceGreen < (s.intergreen x h).getD 0)

def State.violation (s : State) (set : Vector Bool 64) : Bool :=
  allGroups.any fun h => allGroups.any fun x => s.violates set x h

/-- A channel of the cable is on in the set. -/
def State.lights (s : State) (set : Vector Bool 64) (k : Fin 16) : Bool :=
  allChannels.any fun c => s.carries k c && set[c]

/-- The set is withheld: the port holds every channel off, FSR is released, COMMAND_CONFLICT is raised (R153). -/
def State.withhold (s : State) : State :=
  ({ s with port := Machine.allOff }.mapSup fun u => { u with fsr := false }).raiseAck .commandConflict

/-- A test under way on a cable with a channel on in the set is abandoned (R143). -/
def State.yieldBridge (s : State) (set : Vector Bool 64) : State :=
  match s.bridge.underTest with
  | none => s
  | some k => if s.lights set k then s.abandonTest else s

/-- The set is accepted; in the all-off modes the port is handed every channel off whatever is proposed (R149, R153). -/
def State.accept (s : State) (set : Vector Bool 64) : State :=
  let handed := if s.sup.mode.allOff then Machine.allOff else set
  ({ s with port := handed } : State).yieldBridge handed

/-- The supervisor examines a proposed set (R153). -/
def State.examine (s : State) (set : Vector Bool 64) : State :=
  if s.violation set then s.withhold else s.accept set

/-- The sequencer's work at a cycle tick and the examination of the set it proposes (R60, R75, R77, R153). -/
def State.sequencerCycle (s : State) (measured : Bool) (det : Set16) : State :=
  let t := if measured then s.sampleDetectors det else s
  let u := event (fun v => v.darkStep.indicate) t
  event (fun v => v.examine v.proposed) u

/-! ## Proven conflict (R154) -/

/-- The pair's condition for the cycle the tick ends, with the command in force of that cycle (R154). -/
def State.litTogether (s : State) (ended : Vector Bool 64) (i j : Fin 16) : Bool :=
  let litI := s.channels[greenOf i].seenLit
  let litJ := s.channels[greenOf j].seenLit
  (litI && (ended[greenOf j] || litJ)) || (litJ && ended[greenOf i])

/-- The evidence counts after a measured tick that found the counts `before` (R154). -/
def State.countedEvidence (s : State) (before : Vector (Vector Nat 16) 16) (ended : Vector Bool 64) :
    Vector (Vector Nat 16) 16 :=
  Vector.ofFn fun i => Vector.ofFn fun j =>
    if i < j && s.conflict i j then
      if s.litTogether ended i j then before[i][j] + 1 else 0
    else before[i][j]

/-- The unordered pairs of groups. -/
def allPairs : List (Fin 16 × Fin 16) :=
  allGroups.flatMap fun i => (allGroups.filter fun j => decide (i < j)).map fun j => (i, j)

/-- The pair's count has reached 2: PROVEN_CONFLICT is raised and the count becomes 0 (R154). -/
def State.provenConflict (s : State) (i j : Fin 16) : State :=
  (s.mapSup fun u => { u with evidence := u.evidence.set i ((u.evidence[i]).set j 0) }).raiseAck .provenConflict

/-- The supervisor's evidence at a cycle tick, measured, and found in STARTING or RUNNING (R154). Where another raise of the
tick has taken the mode to FAILSAFE, every count stays 0, and a pair that reached 2 raises PROVEN_CONFLICT there, which
joins the further causes (R158). -/
def State.evidenceTick (s : State) (found : Supervisor) (measured : Bool) (ended : Vector Bool 64) : State :=
  if measured && found.mode.countsEvidence then
    let counts := s.countedEvidence found.evidence ended
    let t := if s.sup.mode.countsEvidence then s.mapSup fun u => { u with evidence := counts } else s
    match allPairs.find? fun p => decide (2 ≤ counts[p.1][p.2]) with
    | none => t
    | some p => event (fun u => u.provenConflict p.1 p.2) t
  else s

/-! ## The start sequence at a tenth (R168, R169) -/

/-- The queue holds an entry of class STARTUP (R168). -/
def Bridge.startupQueued (b : Bridge) : Bool := b.queue.any fun e => e.cls == .startup

def Supervisor.timerAt (u : Supervisor) (n : Nat) : Bool :=
  match u.phaseTimer with
  | none => false
  | some t => n ≤ t

/-- DARK_TEST may end: 20 tenths, and no entry of class STARTUP (R168). -/
def State.darkTestOver (s : State) : Bool :=
  s.sup.phase == some .darkTest && s.sup.timerAt 20 && !s.bridge.startupQueued

/-- The limit is reached: 1200 tenths, and an entry of class STARTUP (R168). -/
def State.darkTestAtLimit (s : State) : Bool :=
  s.sup.phase == some .darkTest && s.sup.timerAt 1200 && s.bridge.startupQueued

/-- ALL_RED has run the start red time in use (R169). -/
def State.allRedOver (s : State) : Bool :=
  s.sup.phase == some .allRed &&
    match s.sup.redInUse with
    | none => false
    | some n => s.sup.timerAt n

/-- The limit of DARK_TEST: the STARTUP entries are removed ABANDONED, NOTICE is told, ALL_RED begins (R168). -/
def State.limitDarkTest (s : State) : State :=
  ((((s.bridge.queue.filter fun e => e.cls == .startup).foldl (fun t e => t.removeEntry e.cable .abandoned) s).post
    .notice .junction 0).beginAllRed)

/-- The judgement of the phase under way. -/
def State.judgePhase (s : State) : State :=
  if s.darkTestOver then event State.beginAllRed s
  else if s.darkTestAtLimit then event State.limitDarkTest s
  else if s.allRedOver then event State.enterPlan s
  else s

/-- The supervisor's work at a tenth tick: the phase timer, then the judgement (R166, R168, R169). -/
def State.supervisorTenth (s : State) : State :=
  (s.mapSup fun u => { u with phaseTimer := u.phaseTimer.map (· + 1) }).judgePhase

end Sys2Proof.Machine
end

