-- ==== Sys2Proof/Machine/TimeBase.lean ====
section
/-! DEFINITION. The time base (chapter 2): the mains tracker, cycle ticks, the tenth cascade, and the work of one cycle
tick and one tenth tick over all blocks. -/

namespace Sys2Proof.Machine

/-! ## Windows (R18) -/

def Frequency.hz : Frequency → Nat
  | .hz50 => 50
  | .hz60 => 60

inductive CrossingClass where
  | early | good | late | overdue
deriving DecidableEq, Repr

/-- An interval of `ns` nanoseconds in ten-thousand-millionths of the nominal period P: P is 10,000,000,000. -/
def inPeriods (f : Frequency) (ns : Nat) : Nat := ns * f.hz * 10

/-- The class of a crossing by its interval from the reference (R18): below 0.9 P, to 1.1 P, to 1.5 P, above. -/
def classOf (f : Frequency) (ns : Nat) : CrossingClass :=
  if inPeriods f ns < 9000000000 then .early
  else if inPeriods f ns ≤ 11000000000 then .good
  else if inPeriods f ns ≤ 15000000000 then .late
  else .overdue

/-- The instant lies after the second-window expiry, 2.5 P from the reference (R18). -/
def pastSecond (f : Frequency) (ns : Nat) : Bool := 25000000000 < inPeriods f ns

/-! ## The work of one tenth tick (R28) -/

/-- The cable monitor's and the supervisor's work, either of which may be first (R168). -/
def State.queueAndPhase (s : State) (i : TenthInput) : State :=
  if i.queueFirst then (s.queueTenth i).supervisorTenth else s.supervisorTenth.queueTenth i

/-- A tenth tick goes to every block that counts tenths (R28). -/
def State.tenth (s : State) (i : TenthInput) : State :=
  match i.clock with
  | .beforeAll => (s.clockTenth.sequencerTenth).queueAndPhase i
  | .afterSequencer => (s.sequencerTenth.clockTenth).queueAndPhase i
  | .afterAll => (s.sequencerTenth.queueAndPhase i).clockTenth

/-! ## The work of one cycle tick (R23) -/

/-- The three works that follow the proving unit's, in the order given. -/
def tickWorks (o : TickOrder) (verdicts cables evidence : State → State) : List (State → State) :=
  let others := if o.cablesFirst then [cables, evidence] else [evidence, cables]
  others.take o.verdictTurn.val ++ verdicts :: others.drop o.verdictTurn.val

/-- The sequencer's proposal and its examination, where their turn has come. -/
def State.atTurn (s : State) (measured : Bool) (i : TickInput) (n : Nat) : State :=
  if i.order.sequencerTurn.val = n then s.sequencerCycle measured i.det else s

/-- The proving unit, then the red availability, the cable monitor and the proven-conflict count in the order given, with
the sequencer's proposal and its examination at its turn (R94, R127, R131, R154, R155, R158). The proven-conflict count
judges by the supervisor as the tick found it, so that a raise that another work took first does not undo it (R158). -/
def State.tickBlocks (s : State) (measured : Bool) (i : TickInput) (opening ended : Vector Bool 64) : State :=
  let readings := if measured then some s.sampler.readings else none
  let s0 := s.atTurn measured i 0
  let raised := s0.raisesVerdict readings opening
  let works := tickWorks i.order (fun t => t.verdictTick raised) (fun t => t.cableTick readings)
    (fun t => t.evidenceTick s.sup measured ended)
  let start := (s0.proveTick readings opening).atTurn measured i 1
  (works.foldl (fun (p : Nat × State) work => (p.1 + 1, (work p.2).atTurn measured i (p.1 + 1))) (1, start)).2

/-- A cycle tick, measured or not (R23): the sampler closes the cycle and opens the next, and every block that uses the
tick takes it. -/
def State.cycleTick (s : State) (measured : Bool) (i : TickInput) : State :=
  let opening := s.port
  let ended := s.channels.map Channel.command
  if i.order.settleFirst then (s.countChannels.settleTick.tickBlocks measured i opening ended).openCycle
  else (s.countChannels.tickBlocks measured i opening ended).settleTick.openCycle

/-! ## The tenth cascade (R26, R27) -/

/-- The top value of the divider count (R26). -/
def Frequency.top : Frequency → Nat
  | .hz50 => 4
  | .hz60 => 5

/-- A cycle tick raises the divider count; the first one after the crystal was the source starts it at 0 (R26, R27). -/
def TimeBase.cascade (b : TimeBase) : TimeBase :=
  match b.source with
  | .crystal => { b with source := .cycles, divider := 1 }
  | .cycles => { b with divider := if b.divider < b.frequency.top then b.divider + 1 else 0 }

/-- The cycle tick makes the count pass its top value: one tenth tick is issued (R26). -/
def TimeBase.tenthDue (b : TimeBase) : Bool := b.source == .cycles && !(b.divider < b.frequency.top)

/-- The source becomes the crystal: the cycle divider is discarded and the crystal divider restarts its count of the
pattern tenth under way (R27). -/
def TimeBase.toCrystal (b : TimeBase) : TimeBase :=
  { b with source := .crystal, divider := 0, crystalCount := 0 }

/-- The crystal completes a tenth of its five-tenth pattern (R27). -/
def TimeBase.crystalStep (b : TimeBase) : TimeBase :=
  { b with crystalCount := 0, crystalTenth := (b.crystalTenth + 1) % 5 }

/-- The crystal periods of each tenth of the pattern: 3277 four times, then 3276 (R27). -/
def crystalPeriods (position : Nat) : Nat := if position < 4 then 3277 else 3276

/-! ## The tracker (R19 to R22, R24) -/

/-- A change of the tracker state, mirrored into JUNCTION 0 at the moment of the change (R17, R24). -/
def State.setTracker (s : State) (m : MainsState) : State :=
  event (fun t => t.mapBase fun b => { b with tracker := m }) s

/-- The tick of a cycle that ends now, with the cascade; the tenth tick it may cause comes after it (R23, R26). -/
def State.endCycle (s : State) (measured : Bool) (i : TickInput) : State :=
  (s.cycleTick measured i).mapBase TimeBase.cascade

/-- The tenth tick that the cycle tick taken at `before` gave rise to, if any (R23). -/
def State.causedTenth (s : State) (before : TimeBase) (i : TickInput) : State :=
  if before.tenthDue then s.tenth i.tenth else s

/-- The mains-return event, to the schedule unit and to the supervisor (R24, R47, R150). -/
def State.takeReturn (s : State) (o : TickOrder) : State :=
  if o.scheduleFirst then s.workOutEntry.mainsReturn else s.mainsReturn.workOutEntry

/-- The tracker leaves ACQUIRING for LOCKED with a mains-return event (R22, R24). -/
def State.lock (s : State) (o : TickOrder) : State :=
  (((s.mapBase fun b => { b with goodCount := 0 }).setTracker .locked).takeReturn o)

/-- The tracker enters MAINS_LOST with a mains-lost event (R20, R22, R24); the tenths come from the crystal (R27). -/
def State.loseMains (s : State) : State :=
  let t := event (fun u => u.mapBase fun b =>
    { b.toCrystal with tracker := .mainsLost, reference := none, goodCount := 0 }) s
  event State.mainsLost t

/-- The substitute tick and the slip (R19). -/
def State.slip (s : State) (i : TickInput) : State :=
  let t := (s.endCycle false i).mapBase fun b => { b with opening := .substitute }
  ((t.setTracker .slip1).causedTenth s.base i)

/-- The first-window expiry, 1.5 P after the reference crossing (R19, R22). -/
def State.firstWindow (s : State) (i : TickInput) : State :=
  match s.base.tracker, s.base.reference with
  | .locked, some _ => s.slip i
  | .acquiring, some _ => s.mapBase fun b => { b with goodCount := 0 }
  | _, _ => s

/-- The second-window expiry, 2.5 P after the reference crossing (R20, R22). -/
def State.secondWindow (s : State) : State :=
  match s.base.tracker, s.base.reference with
  | .slip1, some _ => s.loseMains
  | .acquiring, some _ => s.loseMains
  | _, _ => s

/-- The crossing becomes the reference and opens a cycle with cycle opening CROSSING (R19 to R22). -/
def State.refer (s : State) (instant : Nat) : State :=
  s.mapBase fun b => { b with reference := some instant, opening := .crossing }

/-- The cycle that ends at an accepted crossing was measured (R23). -/
def TimeBase.measured (b : TimeBase) : Bool := b.opening == .crossing

/-- An accepted crossing: its cycle tick, the new reference, what the tracker then does, and the tenth tick the cycle
tick caused, which comes after the cycle tick (R19, R20, R22, R23). -/
def State.acceptCrossing (s : State) (x : CrossingInput) (after : State → State) : State :=
  let t := (s.endCycle s.base.measured x.tick).refer x.instant
  if x.tick.order.returnFirst then (after t).causedTenth s.base x.tick else after (t.causedTenth s.base x.tick)

/-- A crossing taken as the reference without a cycle tick: the first one, or an overdue one (R21, R22, R102). -/
def State.openAt (s : State) (instant : Nat) : State :=
  ((s.refer instant).mapBase fun b => { b with goodCount := 0 }).openCycle

/-- The good count rises; at 8 the tracker locks (R22). -/
def State.countGood (s : State) (o : TickOrder) : State :=
  let t := s.mapBase fun b => { b with goodCount := b.goodCount + 1 }
  if 8 ≤ t.base.goodCount then t.lock o else t

/-- A crossing in ACQUIRING (the table of R22). A crossing at exactly 1.5 P is late, with its cycle tick, also where the
first-window expiry was taken first, a crossing R22's text may be read to call overdue (log entry 13: DESIGN CHOICE). -/
def State.acquire (s : State) (x : CrossingInput) : State :=
  match s.base.reference with
  | none => s.openAt x.instant
  | some r =>
    match classOf s.base.frequency (x.instant - r) with
    | .early => s.mapBase fun b => { b with goodCount := 0 }
    | .good => s.acceptCrossing x fun t => t.countGood x.tick.order
    | .late => s.acceptCrossing x fun t => t.mapBase fun b => { b with goodCount := 0 }
    | .overdue => s.openAt x.instant

/-- A crossing in LOCKED (the table of R19); with the reference absent it has no class and becomes the reference. -/
def State.crossLocked (s : State) (x : CrossingInput) : State :=
  match s.base.reference with
  | none => s.openAt x.instant
  | some r =>
    match classOf s.base.frequency (x.instant - r) with
    | .early => s
    | .good => s.acceptCrossing x id
    | .late => s.acceptCrossing x id
    | .overdue => s.acceptCrossing x id

/-- The expiries that fall before the crossing's instant have been taken by then (R18). -/
def State.expireBefore (s : State) (x : CrossingInput) : State :=
  match s.base.reference with
  | none => s
  | some r =>
    let ns := x.instant - r
    let t := if classOf s.base.frequency ns = .overdue ∧ s.base.tracker = .locked then s.firstWindow x.tick else s
    if pastSecond s.base.frequency ns then t.secondWindow else t

/-- A crossing in the state the expiries have left (R19 to R22). -/
def State.cross (s : State) (x : CrossingInput) : State :=
  match s.base.tracker with
  | .locked => s.crossLocked x
  | .slip1 => s.acceptCrossing x fun t => t.setTracker .locked
  | .mainsLost => (s.setTracker .acquiring).openAt x.instant
  | .acquiring => s.acquire x

/-- An edge on ZX (R18). -/
def State.zeroCrossing (s : State) (x : CrossingInput) : State := (s.expireBefore x).cross x

/-- The crossing is the eighth consecutive good one in ACQUIRING (R22). -/
def State.eighthGood (s : State) (x : CrossingInput) : Bool :=
  s.base.tracker == .acquiring && s.base.goodCount == 7 &&
    match s.base.reference with
    | none => false
    | some r => classOf s.base.frequency (x.instant - r) == .good

/-! ## A change of the nominal frequency (R25) -/

/-- A taken write that changes the nominal frequency acts on the time base at once (R25). -/
def TimeBase.setFrequency (b : TimeBase) (f : Frequency) : TimeBase :=
  if f = b.frequency then b
  else
    match b.tracker with
    | .locked => { b.toCrystal with frequency := f, tracker := .acquiring, reference := none, goodCount := 0 }
    | .slip1 => { b.toCrystal with frequency := f, tracker := .acquiring, reference := none, goodCount := 0 }
    | .acquiring => { b.toCrystal with frequency := f, reference := none, goodCount := 0 }
    | .mainsLost => { b with frequency := f }

end Sys2Proof.Machine
end

