-- ==== Sys2Proof/Machine/Records.lean ====
section
/-! DEFINITION. READ and the WRITE of each table (R7, R11, R36, R37, R45, R78, R84, R87, R124, R147, R185). -/

namespace Sys2Proof.Machine

/-! ## READ (R14, R44, R86, R126, R146, R186) -/

/-- READ of a record that its header names. -/
def State.readReply (s : State) (c : Call) (payload : List Byte) : Reply :=
  match Table.ofCode c.header.table.toNat with
  | none => s.refuse c none .noTable
  | some t =>
    if c.header.index.toNat < t.capacity then
      s.noPayload c (some (nameOf t c.header.index.toNat)) payload (s.returns c .ok (nameOf t c.header.index.toNat))
    else s.refuse c none .noRecord

def execRead (h : Header) (payload : List Byte) (s : State) : Host.Outcome State Fault Refusal :=
  .next (s.runFrame { code := 1, header := h } (namedAny h) fun u => u.readReply { code := 1, header := h } payload)

/-! ## The return to UNCONFIGURED (R148) -/

/-- A taken write of a safety record returns STANDBY to UNCONFIGURED (R7, R148). -/
def State.decommission (s : State) : State :=
  if s.sup.mode = .standby then s.changeMode .unconfigured .plan else s

/-! ## GROUP (R7, R76, R155, R156) -/

def State.writeGroup (s : State) (g : Fin 16) (cfg : GroupConfig) : State :=
  (s.setGroup g { s.groups[g] with cfg := cfg }).decommission.darkCauses.redCauses.refresh

def execWriteGroup (h : Header) (payload : List Byte) (s : State) : Host.Outcome State Fault Refusal :=
  .next (s.write h .group 16 true Mode.commissioning fun u g c =>
    match GroupConfig.parse payload with
    | none => u.refuse c (some (nameOf .group g.val)) .range
    | some cfg => (event (fun v => v.writeGroup g cfg) u).returns c .ok (nameOf .group g.val))

/-! ## CONFLICT (R11) -/

/-- The row's revision moves where at least one entry changed (R9). -/
def ConflictRow.replace (r : ConflictRow) (entry : Vector (Option Nat) 16) : ConflictRow :=
  { entry := entry, rev := if r.entry = entry then r.rev else nextRev r.rev }

def State.writeConflict (s : State) (i : Fin 16) (entry : Vector (Option Nat) 16) : State :=
  ({ s with conflicts := s.conflicts.set i (s.conflicts[i].replace entry) } : State).decommission

def execWriteConflict (h : Header) (payload : List Byte) (s : State) : Host.Outcome State Fault Refusal :=
  .next (s.write h .conflict 16 true Mode.commissioning fun u i c =>
    match parseRow payload with
    | none => u.refuse c (some (nameOf .conflict i.val)) .range
    | some entry => (event (fun v => v.writeConflict i entry) u).returns c .ok (nameOf .conflict i.val))

/-! ## CHANNEL (R84, R85) -/

/-- The effects of R85, field by field: a changed profile or dimmable field ends the streak; a dim part is made or
discarded with a change of dimmable. -/
def Channel.configure (x : Channel) (cfg : ChannelConfig) : Channel :=
  let resets := x.cfg.profile != cfg.profile || x.cfg.dimmable != cfg.dimmable
  { x with
    cfg := cfg
    dim := if x.cfg.dimmable = cfg.dimmable then x.dim else if cfg.dimmable then some Part.empty else none
    badStreak := if resets then 0 else x.badStreak
    worst := if resets then none else x.worst }

/-- The write names an UNUSED cable in a mode that refuses it (R84). -/
def State.namesUnusedCable (s : State) (cfg : ChannelConfig) : Bool :=
  match cfg.cable with
  | none => false
  | some k => s.sup.mode != .unconfigured && s.cables[k].state == .unused

def State.writeChannel (s : State) (c : Fin 64) (cfg : ChannelConfig) : State :=
  (s.putChannel c (s.channels[c].configure cfg)).darkCauses

def execWriteChannel (h : Header) (payload : List Byte) (s : State) : Host.Outcome State Fault Refusal :=
  .next (s.write h .channel 64 true Mode.channelWrite fun u x c =>
    match ChannelConfig.parse payload with
    | none => u.refuse c (some (nameOf .channel x.val)) .range
    | some cfg =>
      if u.namesUnusedCable cfg then u.invalid c (nameOf .channel x.val) .cableUnused 0
      else (event (fun v => v.writeChannel x cfg) u).returns c .ok (nameOf .channel x.val))

/-! ## PROFILE (R87, R88) -/

/-- The streak of a channel that names a changed profile ends (R88). -/
def Channel.profileChanged (x : Channel) (f : Fin 8) : Channel :=
  if x.cfg.profile = f then { x with badStreak := 0, worst := none } else x

def State.writeProfile (s : State) (f : Fin 8) (cfg : ProfileConfig) : State :=
  if s.profiles[f].cfg = cfg then s.decommission
  else
    ({ s with
        profiles := s.profiles.set f { cfg := cfg, rev := nextRev s.profiles[f].rev }
        channels := s.channels.map fun x => x.profileChanged f } : State).decommission

def execWriteProfile (h : Header) (payload : List Byte) (s : State) : Host.Outcome State Fault Refusal :=
  .next (s.write h .profile 8 true Mode.commissioning fun u f c =>
    match ProfileConfig.parse payload with
    | none => u.refuse c (some (nameOf .profile f.val)) .range
    | some cfg => (event (fun v => v.writeProfile f cfg) u).returns c .ok (nameOf .profile f.val))

/-! ## CABLE (R124, R125) -/

/-- The record after a write that carries MONITORED (the first four lines of R125). -/
def Cable.configure (x : Cable) (cfg : CableConfig) : Cable :=
  let y : Cable :=
    { x with action := cfg.action, route := cfg.route, tolerance := cfg.tolerance, limit := cfg.limit }
  match x.state with
  | .unused => { y with state := .monitored, balanceStreak := 0, openStreak := 0 }
  | .monitored => y
  | .isolated => y

/-- The record made UNUSED (the last line of R125). -/
def Cable.release (x : Cable) (cfg : CableConfig) : Cable :=
  { x with
    state := .unused, action := cfg.action, route := cfg.route, tolerance := cfg.tolerance, limit := cfg.limit
    faults := FaultSet.empty, suspect := false, balanceStreak := 0, openStreak := 0 }

/-- A cable made UNUSED loses its queue entry, and leaves ISOLATED with the dark causes worked out afresh (R125). -/
def State.releaseCable (s : State) (k : Fin 16) (cfg : CableConfig) : State :=
  let t := s.removeEntry k .abandoned
  let u := t.setCable k (t.cables[k].release cfg)
  if s.cables[k].state = .isolated then u.darkCauses else u

def State.writeCable (s : State) (k : Fin 16) (cfg : CableConfig) : State :=
  match cfg.state, s.cables[k].state with
  | .unused, .unused =>
    (s.setCable k { s.cables[k] with
      action := cfg.action, route := cfg.route, tolerance := cfg.tolerance, limit := cfg.limit }).decommission
  | .unused, .monitored => (s.releaseCable k cfg).decommission
  | .unused, .isolated => (s.releaseCable k cfg).decommission
  | .monitored, _ => (s.setCable k (s.cables[k].configure cfg)).decommission
  | .isolated, _ => s

def execWriteCable (h : Header) (payload : List Byte) (s : State) : Host.Outcome State Fault Refusal :=
  .next (s.write h .cable 16 true Mode.commissioning fun u k c =>
    match CableConfig.parse payload with
    | none => u.refuse c (some (nameOf .cable k.val)) .range
    | some cfg => (event (fun v => v.writeCable k cfg) u).returns c .ok (nameOf .cable k.val))

/-! ## PLAN (R36) -/

def State.writePlan (s : State) (p : Fin 8) (cfg : PlanConfig) : State :=
  s.setPlan p (Plan.moved s.plans[p] { s.plans[p] with entry := cfg.entry, changePoint := cfg.changePoint })

/-- A write to a LOADED plan is refused IN_USE before its payload is looked at, whatever its length; every other condition
of a command's own comes after the length (log entry 10: DESIGN CHOICE). -/
def execWritePlan (h : Header) (payload : List Byte) (s : State) : Host.Outcome State Fault Refusal :=
  .next (s.write h .plan 8 false Mode.every fun u p c =>
    if u.plans[p].loaded then u.refuse c (some (nameOf .plan p.val)) .inUse
    else
      match PlanConfig.parse payload with
      | none => u.refuse c (some (nameOf .plan p.val)) .range
      | some cfg => (u.writePlan p cfg).returns c .ok (nameOf .plan p.val))

/-! ## STAGE (R37, R38) -/

def State.writeStage (s : State) (d : Fin 96) (cfg : StageConfig) : State :=
  s.setStage d (Stage.moved s.stages[d]
    { s.stages[d] with isDefined := true, shape := cfg.shape, timing := cfg.timing.clamp })

def execWriteStage (h : Header) (payload : List Byte) (s : State) : Host.Outcome State Fault Refusal :=
  .next (s.write h .stage 96 false Mode.every fun u d c =>
    match StageConfig.parse payload with
    | none => u.refuse c (some (nameOf .stage d.val)) .range
    | some cfg =>
      if u.stages[d].owner.isSome ∧ u.stages[d].shape ≠ cfg.shape then
        u.refuse c (some (nameOf .stage d.val)) .owned
      else
        (u.writeStage d cfg).returns c (if cfg.timing.clamp = cfg.timing then .ok else .clamped) (nameOf .stage d.val))

/-! ## SCHEDULE (R45) -/

/-- Every field of SCHEDULE e is settled (R45). -/
def ScheduleEntry.replace (e : ScheduleEntry) (cfg : ScheduleConfig) : ScheduleEntry :=
  { cfg := cfg, rev := if e.cfg = cfg then e.rev else nextRev e.rev }

def State.writeSchedule (s : State) (e : Fin 24) (cfg : ScheduleConfig) : State :=
  { s with schedule := s.schedule.set e (s.schedule[e].replace cfg) }

def execWriteSchedule (h : Header) (payload : List Byte) (s : State) : Host.Outcome State Fault Refusal :=
  .next (s.write h .schedule 24 false Mode.every fun u e c =>
    match ScheduleConfig.parse payload with
    | none => u.refuse c (some (nameOf .schedule e.val)) .range
    | some cfg => (u.writeSchedule e cfg).returns c .ok (nameOf .schedule e.val))

/-! ## DETECTOR (R78) -/

/-- A change of enabled, either way, leaves the input at the cleared values (R78). -/
def Detector.configure (d : Detector) (cfg : DetectorConfig) : Detector :=
  Detector.moved d
    (if d.cfg.enabled = cfg.enabled then { d with cfg := cfg }
     else { d with cfg := cfg, faulty := false, previous := false, level := false, latch := false, activeRun := 0 })

def State.writeDetector (s : State) (d : Fin 16) (cfg : DetectorConfig) : State :=
  s.setDetector d (s.detectors[d].configure cfg)

def execWriteDetector (h : Header) (payload : List Byte) (s : State) : Host.Outcome State Fault Refusal :=
  .next (s.write h .detector 16 false Mode.every fun u d c =>
    match DetectorConfig.parse payload with
    | none => u.refuse c (some (nameOf .detector d.val)) .range
    | some cfg => (u.writeDetector d cfg).returns c .ok (nameOf .detector d.val))

/-! ## JUNCTION (R147, R25) -/

def State.writeJunction (s : State) (cfg : JunctionConfig) : State :=
  (s.mapSup fun u => { u with startRed := clampRed cfg.startRed, sweep := cfg.sweep }).mapBase fun b =>
    b.setFrequency cfg.frequency

def execWriteJunction (h : Header) (payload : List Byte) (s : State) : Host.Outcome State Fault Refusal :=
  .next (s.write h .junction 1 true Mode.commissioning fun u _ c =>
    match JunctionConfig.parse payload with
    | none => u.refuse c (some (nameOf .junction 0)) .range
    | some cfg =>
      (event (fun v => v.writeJunction cfg) u).returns c
        (if clampRed cfg.startRed = cfg.startRed then .ok else .clamped) (nameOf .junction 0))

end Sys2Proof.Machine
end

