-- ==== Sys2Proof/Machine/Plans.lean ====
section
/-! DEFINITION. RETIRE (R42, R43, R45), LOAD_PLAN with its chain check (R39 to R41), and SELECT_PLAN (R48). -/

namespace Sys2Proof.Machine

/-! ## The chain check (R40) -/

/-- A failure of a configuration check: the record it names, the check, and a column or a plan number (R13, R187). -/
structure Failure where
  record : RecordName
  check : Check
  extra : Nat
deriving DecidableEq, Repr

/-- The descriptor names an UNUSED group (R40, check 3). -/
def State.namesUnused (s : State) (d : Fin 96) : Bool :=
  allGroups.any fun g => s.names d g && s.groups[g].cfg.kind == .unused

/-- The descriptor names two groups that conflict (R40, check 4). -/
def State.namesConflict (s : State) (d : Fin 96) : Bool :=
  allGroups.any fun g => allGroups.any fun h => s.names d g && s.names d h && s.conflict g h

/-- Checks 1 to 4 of R40 at one descriptor. -/
def State.descriptorFails (s : State) (p : Fin 8) (d : Fin 96) : Option Check :=
  if !s.stages[d].isDefined then some .notDefined
  else if s.stages[d].owner.isSome && s.stages[d].owner != some p then some .ownedElsewhere
  else if s.namesUnused d then some .unusedGroup
  else if s.namesConflict d then some .conflictingGroups
  else none

/-- What a walk of a chain finds: its length and the descriptors passed, or the failing descriptor and check. -/
inductive WalkResult where
  | closed (length : Nat) (passed : List (Fin 96))
  | failed (d : Fin 96) (k : Check)
deriving DecidableEq, Repr

/-- The walk of R40 from position k at descriptor d, `passed` being the descriptors at positions 1 to k − 1. The fuel
is the number of positions left, so that position 12 is the last. -/
def State.checkWalk (s : State) (p : Fin 8) (entry : Fin 96) : Nat → Nat → List (Fin 96) → Fin 96 → WalkResult
  | 0, _, _, d => .failed d .tooLong
  | fuel + 1, k, passed, d =>
    match s.descriptorFails p d with
    | some c => .failed d c
    | none =>
      let next := s.stages[d].shape.next
      if next = entry then
        if k = 1 then .failed d .tooShort else .closed k (passed ++ [d])
      else if (passed ++ [d]).contains next then .failed d .repeated
      else if fuel = 0 then .failed d .tooLong
      else s.checkWalk p entry fuel (k + 1) (passed ++ [d]) next

/-- The chain check of plan p (R40): the length of the chain, or the failing descriptor and check. -/
def State.chainCheck (s : State) (p : Fin 8) : WalkResult :=
  match s.checkWalk p s.plans[p].entry 12 1 [] s.plans[p].entry with
  | .closed n passed =>
    if passed.contains s.plans[p].changePoint then .closed n passed
    else .failed s.plans[p].changePoint .changePointOffChain
  | .failed d k => .failed d k

/-! ## RETIRE -/

/-- The plan is the running plan or the pending plan. -/
def State.planInUse (s : State) (p : Fin 8) : Bool := s.seq.running == some p || s.seq.pending == some p

/-- No other plan is LOADED. -/
def State.lastLoaded (s : State) (p : Fin 8) : Bool :=
  s.plans[p].loaded && allPlans.all fun q => q == p || !s.plans[q].loaded

/-- Every descriptor whose owner is p takes owner none (R42). -/
def Stage.disown (d : Stage) (p : Fin 8) : Stage :=
  if d.owner = some p then Stage.moved d { d with owner := none } else d

/-- Retiring a LOADED plan, at one event (R42). -/
def State.retirePlan (s : State) (p : Fin 8) : State :=
  let t := s.setPlan p (Plan.moved s.plans[p] { s.plans[p] with loaded := false, length := 0 })
  ({ t with stages := t.stages.map fun d => d.disown p } : State).workOutRequested

def execRetirePlan (h : Header) (payload : List Byte) (s : State) : Host.Outcome State Fault Refusal :=
  .next (s.onRecord 3 h payload .plan 8 false fun u p c =>
    if u.planInUse p then u.refuse c (some (nameOf .plan p.val)) .inUse
    else if u.sup.mode ≠ .unconfigured ∧ u.lastLoaded p then u.refuse c (some (nameOf .plan p.val)) .inUse
    else if u.plans[p].loaded then (event (fun v => v.retirePlan p) u).returns c .ok (nameOf .plan p.val)
    else u.returns c .ok (nameOf .plan p.val))

/-- The descriptor becomes EMPTY, every other field at its value after a main reset (R43). -/
def State.retireStage (s : State) (d : Fin 96) : State :=
  s.setStage d (Stage.moved s.stages[d] { Stage.reset with rev := s.stages[d].rev })

def execRetireStage (h : Header) (payload : List Byte) (s : State) : Host.Outcome State Fault Refusal :=
  .next (s.onRecord 3 h payload .stage 96 false fun u d c =>
    if u.stages[d].owner.isSome then u.refuse c (some (nameOf .stage d.val)) .owned
    else (u.retireStage d).returns c .ok (nameOf .stage d.val))

/-- The entry takes its values after a main reset (R45). -/
def State.retireSchedule (s : State) (e : Fin 24) : State := s.writeSchedule e ScheduleEntry.reset.cfg

def execRetireSchedule (h : Header) (payload : List Byte) (s : State) : Host.Outcome State Fault Refusal :=
  .next (s.onRecord 3 h payload .schedule 24 false fun u e c =>
    (u.retireSchedule e).returns c .ok (nameOf .schedule e.val))

/-! ## LOAD_PLAN (R39 to R41, R183) -/

/-- A command goes in flight and its acceptance answers NOT_READY (R183). -/
def State.inFlightReply (s : State) (c : Call) (named : Option RecordName) (w : Work) : Reply :=
  { state := s.mapLink fun l =>
      { l with inFlight := some { work := w, table := c.header.table, index := c.header.index } }
    response := c.answer .notReady (s.namedRev named) [] }

def execLoadPlan (h : Header) (payload : List Byte) (s : State) : Host.Outcome State Fault Refusal :=
  .next (s.onRecord 17 h payload .plan 8 false fun u p c =>
    if u.plans[p].loaded && u.planInUse p then u.refuse c (some (nameOf .plan p.val)) .inUse
    else u.inFlightReply c (some (nameOf .plan p.val)) (.loadPlan p))

/-- Every descriptor on the chain takes owner p (R40). -/
def Stage.own (d : Stage) (p : Fin 8) : Stage := Stage.moved d { d with owner := some p }

/-- PLAN p becomes LOADED with the chain found (R40); a plan entering LOADED has the requested plan worked out again
(R49). A reload changes nothing (R41). -/
def State.loadChain (s : State) (p : Fin 8) (n : Nat) (passed : List (Fin 96)) : State :=
  let t := s.setPlan p (Plan.moved s.plans[p] { s.plans[p] with loaded := true, length := n })
  let u : State :=
    { t with stages := Vector.ofFn fun d => if passed.contains d then t.stages[d].own p else t.stages[d] }
  if s.plans[p].loaded then u else u.workOutRequested

/-- The end of an in-flight command: it is in flight no longer, and its outcome replaces the slot (R183). -/
def State.land (s : State) (r : Response) : State := s.mapLink fun l => { l with inFlight := none, slot := r }

/-- The call an outcome echoes (R183). -/
def InFlight.call (f : InFlight) (code : Byte) : Call :=
  { code := code, header := { table := f.table, index := f.index, expected := none, clocked := 0 } }

/-- The INVALID outcome of a failed check (R13, R40, R163, R187). -/
def State.landInvalid (s : State) (c : Call) (f : Failure) : State :=
  s.land (s.invalid c f.record f.check f.extra).response

/-- The end of the chain check of a LOAD_PLAN in flight (R40, R41, R183). -/
def State.finishLoad (s : State) (f : InFlight) (p : Fin 8) : State :=
  match s.chainCheck p with
  | .failed d k => s.landInvalid (f.call 17) { record := nameOf .stage d.val, check := k, extra := 0 }
  | .closed n passed =>
    let t := event (fun u => u.loadChain p n passed) s
    t.land (t.returns (f.call 17) .ok (nameOf .plan p.val)).response

def execLoadPlanComplete (s : State) : Host.Outcome State Fault Refusal :=
  .next (s.whenPowered fun u =>
    match u.link.inFlight with
    | none => u
    | some f =>
      match f.work with
      | .commit => u
      | .loadPlan p => u.finishLoad f p)

/-! ## SELECT_PLAN (R48) -/

/-- The plan source and the override plan are set, and the requested plan is worked out again (R48, R49). -/
def State.selectOverride (s : State) (p : Fin 8) : State :=
  (s.mapSched fun u => { u with source := .override, overridePlan := p }).workOutRequested

def State.selectFollow (s : State) : State :=
  (s.mapSched fun u => { u with source := .schedule }).workOutRequested

def execSelectPlanOverride (h : Header) (payload : List Byte) (s : State) : Host.Outcome State Fault Refusal :=
  .next (s.onJunction 23 h false Mode.every fun u c =>
    match payload with
    | [1, plan] =>
      match finOf 8 plan with
      | none => u.refuse c none .range
      | some p =>
        if u.plans[p].loaded then (event (fun v => v.selectOverride p) u).returnsJunction c
        else u.invalid c (nameOf .plan p.val) .planEmpty 0
    | _ => u.refuse c none .range)

def execSelectPlanFollow (h : Header) (payload : List Byte) (s : State) : Host.Outcome State Fault Refusal :=
  .next (s.onJunction 23 h false Mode.every fun u c =>
    match payload with
    | [0, _] => (event State.selectFollow u).returnsJunction c
    | _ => u.refuse c none .range)

end Sys2Proof.Machine
end

