-- ==== Sys2Proof/Machine/Commit.lean ====
section
/-! DEFINITION. COMMIT and its checks (R8, R12, R13, R161 to R164). -/

namespace Sys2Proof.Machine

/-! ## Step 1: the group checks (R8) -/

def GroupConfig.fails (g : GroupConfig) : Option Check :=
  match g.kind with
  | .unused => none
  | .vehicle =>
    if g.redsRequired = 2 ∧ !g.secondRed then some .redsWithoutSecond
    else if g.leavingTime < 30 ∨ 60 < g.leavingTime then some .leavingForKind
    else none
  | .pedestrian =>
    if g.redsRequired = 2 ∧ !g.secondRed then some .redsWithoutSecond
    else if g.prepTime ≠ 0 then some .prepNotAllowed
    else none

def State.groupFailure (s : State) : Option Failure :=
  allGroups.findSome? fun g =>
    (s.groups[g].cfg.fails).map fun k => { record := nameOf .group g.val, check := k, extra := 0 }

/-! ## Step 2: the conflict checks (R12) -/

/-- The conditions of R12 on entry (i, j), in their order. -/
def State.entryFails (s : State) (i j : Fin 16) : Option Check :=
  match s.intergreen i j with
  | none => if (s.intergreen j i).isSome then some .asymmetric else none
  | some n =>
    if i = j then some .diagonal
    else if s.groups[i].cfg.kind = .unused ∨ s.groups[j].cfg.kind = .unused then some .unusedGroup
    else if (s.intergreen j i).isNone then some .asymmetric
    else if n < s.groups[i].cfg.leavingTime then some .shortOfLeaving
    else if n < s.groups[j].cfg.prepTime then some .shortOfPrep
    else none

def State.conflictFailure (s : State) : Option Failure :=
  allGroups.findSome? fun i => allGroups.findSome? fun j =>
    (s.entryFails i j).map fun k => { record := nameOf .conflict i.val, check := k, extra := j.val }

/-! ## Step 3: the channel checks (R162) -/

/-- A used channel names a cable whose state is UNUSED (R162). -/
def State.cableMissing (s : State) (c : Fin 64) : Bool :=
  s.used c &&
    match s.channels[c].cfg.cable with
    | none => false
    | some k => s.cables[k].state == .unused

def State.channelFailure (s : State) : Option Failure :=
  (allChannels.find? s.cableMissing).map fun c =>
    { record := nameOf .channel c.val, check := .cableUnused, extra := 0 }

/-! ## Steps 4 and 5: the plan checks (R163) -/

def State.noPlan (s : State) : Option Failure :=
  if allPlans.any fun p => s.plans[p].loaded then none
  else some { record := nameOf .plan 0, check := .noPlanLoaded, extra := 0 }

/-- The failure of one plan's chain, as COMMIT reports it. -/
def WalkResult.failure (p : Fin 8) : WalkResult → Option Failure
  | .closed _ _ => none
  | .failed d k => some { record := nameOf .stage d.val, check := k, extra := p.val }

def State.planFailure (s : State) : Option Failure :=
  allPlans.findSome? fun p => if s.plans[p].loaded then (s.chainCheck p).failure p else none

/-- The checks of COMMIT in their five steps; the first failure ends them (R162). -/
def State.commitFailure (s : State) : Option Failure :=
  s.groupFailure <|> s.conflictFailure <|> s.channelFailure <|> s.noPlan <|> s.planFailure

/-! ## The command -/

/-- COMMIT is taken in UNCONFIGURED (R161). -/
def Mode.isUnconfigured (m : Mode) : Bool := m == .unconfigured

def execCommit (h : Header) (payload : List Byte) (s : State) : Host.Outcome State Fault Refusal :=
  .next (s.onJunction 16 h true Mode.isUnconfigured fun u c =>
    u.noPayload c none payload (u.inFlightReply c none .commit))

/-- The mode becomes STANDBY (R148, R164). -/
def State.commission (s : State) : State :=
  if s.sup.mode = .unconfigured then s.changeMode .standby .plan else s

/-- The end of the checks of a COMMIT in flight (R164, R183): INVALID, or STANDBY and the entry in force. -/
def State.finishCommit (s : State) (f : InFlight) : State :=
  match s.commitFailure with
  | some x => s.landInvalid (f.call 16) x
  | none => ((event State.commission s).workOutEntry).land ((f.call 16).answer .ok 0 [])

def execCommitComplete (s : State) : Host.Outcome State Fault Refusal :=
  .next (s.whenPowered fun u =>
    match u.link.inFlight with
    | none => u
    | some f =>
      match f.work with
      | .commit => u.finishCommit f
      | .loadPlan _ => u)

end Sys2Proof.Machine
end

