-- ==== Sys2Proof/Machine/Junction.lean ====
section
/-! DEFINITION. The junction commands (R30, R51, R151, R152, R165). -/

namespace Sys2Proof.Machine

/-- The modes START is taken in (R165). -/
def Mode.startable : Mode → Bool
  | .standby => true
  | .dark => true
  | .unconfigured => false
  | .starting => false
  | .running => false
  | .failsafe => false
  | .mainsOut => false

/-- The modes STOP is taken in (R151). -/
def Mode.stoppable : Mode → Bool
  | .starting => true
  | .running => true
  | .dark => true
  | .unconfigured => false
  | .standby => false
  | .failsafe => false
  | .mainsOut => false

/-- The modes DARK is taken in (R151). -/
def Mode.darkenable : Mode → Bool
  | .standby => true
  | .starting => true
  | .running => true
  | .unconfigured => false
  | .dark => false
  | .failsafe => false
  | .mainsOut => false

def Mode.isFailsafe (m : Mode) : Bool := m == .failsafe

/-- Every mode but UNCONFIGURED (R152). -/
def Mode.forcible (m : Mode) : Bool := m != .unconfigured

/-- The mains state refuses a start (R24, R151, R165). -/
def MainsState.refusesStart : MainsState → Bool
  | .mainsLost => true
  | .acquiring => true
  | .locked => false
  | .slip1 => false

/-- A taken START or RESTART: STARTING at DARK_TEST, then the causes that this brings (R165, R156, R158). -/
def State.takeStart (s : State) : State := event State.refresh (event State.beginStart s)

/-- The conditions START and RESTART share (R151, R165). -/
def State.startReply (s : State) (c : Call) (payload : List Byte) : Reply :=
  if s.base.tracker.refusesStart then s.refuse c none .mode
  else s.noPayload c none payload
    (if s.sup.presentCauses = 0 then s.takeStart.returnsJunction c else s.refuse c none .causePresent)

def execStart (h : Header) (payload : List Byte) (s : State) : Host.Outcome State Fault Refusal :=
  .next (s.onJunction 18 h false Mode.startable fun u c => u.startReply c payload)

/-- STOP (R151). -/
def State.takeStop (s : State) : State := (s.changeMode .standby .plan).refresh

def execStop (h : Header) (payload : List Byte) (s : State) : Host.Outcome State Fault Refusal :=
  .next (s.onJunction 19 h true Mode.stoppable fun u c =>
    u.noPayload c none payload ((event State.takeStop u).returnsJunction c))

/-- DARK (R151). -/
def State.takeDark (s : State) : State := (s.changeMode .dark .plan).refresh

def execDark (h : Header) (payload : List Byte) (s : State) : Host.Outcome State Fault Refusal :=
  .next (s.onJunction 20 h true Mode.darkenable fun u c =>
    u.noPayload c none payload ((event State.takeDark u).returnsJunction c))

def execRestart (h : Header) (payload : List Byte) (s : State) : Host.Outcome State Fault Refusal :=
  .next (s.onJunction 21 h true Mode.isFailsafe fun u c => u.startReply c payload)

def execForceFailsafe (h : Header) (payload : List Byte) (s : State) : Host.Outcome State Fault Refusal :=
  .next (s.onJunction 22 h false Mode.forcible fun u c =>
    u.noPayload c none payload ((event State.forceRaise u).returnsJunction c))

/-- SET_TIME replaces the time of day and sets the time-valid flag; the time-set event then has the entry in force
worked out (R30, R47). -/
def State.setTime (s : State) (t : TimeOfDay) : State :=
  (event (fun u => u.mapBase fun b => { b with time := t, timeValid := true }) s).workOutEntry

def execSetTime (h : Header) (payload : List Byte) (s : State) : Host.Outcome State Fault Refusal :=
  .next (s.onJunction 24 h false Mode.every fun u c =>
    match TimeOfDay.parse payload with
    | none => u.refuse c none .range
    | some t => (u.setTime t).returnsJunction c)

/-- The dimming override is set, and the dimming state is worked out (R51). -/
def State.setDim (s : State) (d : DimOverride) : State :=
  (s.mapSched fun u => { u with dimOverride := d }).workOutDimming

/-- A SET_DIM whose payload is its one code byte (R186). -/
def State.setDimReply (s : State) (c : Call) (payload : List Byte) (d : DimOverride) : Reply :=
  if payload = [d.byte] then (event (fun u => u.setDim d) s).returnsJunction c else s.refuse c none .range

def execSetDimFollow (h : Header) (payload : List Byte) (s : State) : Host.Outcome State Fault Refusal :=
  .next (s.onJunction 25 h false Mode.every fun u c => u.setDimReply c payload .follow)

def execSetDimBright (h : Header) (payload : List Byte) (s : State) : Host.Outcome State Fault Refusal :=
  .next (s.onJunction 25 h false Mode.every fun u c => u.setDimReply c payload .bright)

def execSetDimDim (h : Header) (payload : List Byte) (s : State) : Host.Outcome State Fault Refusal :=
  .next (s.onJunction 25 h false Mode.every fun u c => u.setDimReply c payload .dim)

end Sys2Proof.Machine
end

