-- ==== Sys2Proof/Machine/Lamps.lean ====
section
/-! DEFINITION. The commands on channels and cables: TEST_CABLES (R136), RELEARN (R96), CLEAR_FAULT (R97, R132, R159)
and PROBE (R98). -/

namespace Sys2Proof.Machine

/-! ## TEST_CABLES (R136) -/

/-- The cables of a TEST_CABLES list with their overrides, absent where a cable number is above 15. -/
def hostRequests : List TestItem → Option (List TestRequest)
  | [] => some []
  | i :: rest =>
    match indexOf 16 i.cable, hostRequests rest with
    | some k, some l => some ({ cable := k, cls := .host, notBefore := 0, override := i.override } :: l)
    | _, _ => none

/-- No cable appears twice. -/
def distinctCables : List TestRequest → Bool
  | [] => true
  | r :: rest => (rest.all fun x => x.cable != r.cable) && distinctCables rest

/-- The requests of a TEST_CABLES payload; absent where R136 refuses RANGE. -/
def State.testList (s : State) (payload : List Byte) : Option (List TestRequest) :=
  match parseItems payload with
  | none => none
  | some items =>
    if 1 ≤ items.length && items.length ≤ 16 && items.all TestItem.overrideInRange then
      match hostRequests items with
      | none => none
      | some rs => if distinctCables rs && rs.all fun r => s.cables[r.cable].state != .unused then some rs else none
    else none

/-- A HOST request for each cable, in list order (R136). -/
def State.requestAll (s : State) (rs : List TestRequest) : State := rs.foldl State.request s

def execTestCables (h : Header) (payload : List Byte) (s : State) : Host.Outcome State Fault Refusal :=
  .next (s.onJunction 26 h false Mode.every fun u c =>
    match u.testList payload with
    | none => u.refuse c none .range
    | some rs => { state := event (fun v => v.requestAll rs) u, response := c.answer .ok 0 [] })

/-! ## RELEARN (R96) -/

def Channel.relearn (x : Channel) : Channel :=
  { x with
    bright := Part.empty, dim := x.dim.map fun _ => Part.empty
    badStreak := 0, worst := none, learnFailed := false }

def execRelearn (h : Header) (payload : List Byte) (s : State) : Host.Outcome State Fault Refusal :=
  .next (s.onRecord 27 h payload .channel 64 true fun u x c =>
    (u.putChannel x u.channels[x].relearn).returns c .ok (nameOf .channel x.val))

/-! ## CLEAR_FAULT -/

/-- CLEAR_FAULT on a channel; the red availability follows a change of the verdict (R97, R155). -/
def State.clearChannel (s : State) (x : Fin 64) : State :=
  let t := s.putChannel x { s.channels[x] with verdict := none, badStreak := 0, worst := none }
  if s.channels[x].verdict = none then t else t.verdictChanged

def execClearFaultChannel (h : Header) (payload : List Byte) (s : State) : Host.Outcome State Fault Refusal :=
  .next (s.onRecord 28 h payload .channel 64 true fun u x c =>
    (event (fun v => v.clearChannel x) u).returns c .ok (nameOf .channel x.val))

/-- CLEAR_FAULT on a cable: steps 1 to 3 of R132 at one event. Both streaks become 0 whether the cable was ISOLATED or
not, so that a fault still present is found again after ten more measured cycles. -/
def State.clearCable (s : State) (k : Fin 16) : State :=
  let x : Cable :=
    { s.cables[k] with faults := FaultSet.empty, suspect := false, balanceStreak := 0, openStreak := 0 }
  let again : TestRequest := { cable := k, cls := .retest, notBefore := 0, override := none }
  match x.state with
  | .unused => s
  | .monitored => (s.setCable k x).request again
  | .isolated => ((s.setCable k { x with state := .monitored }).darkCauses).request again

def execClearFaultCable (h : Header) (payload : List Byte) (s : State) : Host.Outcome State Fault Refusal :=
  .next (s.onRecord 28 h payload .cable 16 true fun u k c =>
    (event (fun v => v.clearCable k) u).returns c .ok (nameOf .cable k.val))

/-- CLEAR_FAULT on JUNCTION 0 (R159, R140). -/
def State.clearJunction (s : State) : State :=
  (s.mapSup fun u => { u with presentCauses := without u.presentCauses ackCauses }).mapBridge fun b =>
    { b with state := if b.state = .bridgeFault then .idle else b.state }

def execClearFaultJunction (h : Header) (payload : List Byte) (s : State) : Host.Outcome State Fault Refusal :=
  .next (s.onRecord 28 h payload .junction 1 true fun u _ c =>
    (event State.clearJunction u).returns c .ok (nameOf .junction 0))

/-! ## PROBE (R98) -/

def execProbe (h : Header) (payload : List Byte) (s : State) : Host.Outcome State Fault Refusal :=
  .next (s.onRecord 29 h payload .channel 64 false fun u x c =>
    { state := u, response := c.answer .ok (u.recordRev (nameOf .channel x.val)) (u.probeLayout x) })

end Sys2Proof.Machine
end

