-- ==== Sys2Proof/Machine/Serving.lean ====
section
/-! DEFINITION. The attention commands (R174, R176 to R178) and the frames that are no command of a record or of the
junction: POLL, LINK_ERROR and UNKNOWN (R180, R182, R183). -/

namespace Sys2Proof.Machine

/-! ## ATTEND (R176) -/

/-- The highest-ranked qualifying class (R176). -/
def Attention.top (a : Attention) : Option AClass := AClass.all.find? a.qualifies

/-- ATTEND pushes the served class onto the end of the chain (R176). -/
def Attention.push (a : Attention) (c : AClass) : Attention :=
  ({ a with chain := a.chain ++ [c] } : Attention).withLine

/-- The number of pairs in each of the five sets (R176), in the order of the class codes, one byte each: R176 and R186 say
only that there are five counts, and their width is the model's (log entry 24: DESIGN CHOICE). -/
def Attention.counts (a : Attention) : List Byte := AClass.all.map fun c => b8 (a.sets[c.rank]).length

/-- The answer of an ATTEND: the class and the lowest pair of its set, or NONE, with the counts (R176, R186). -/
def State.attendReply (s : State) (c : Call) : Reply :=
  match s.attn.top with
  | none =>
    { state := s
      response := { status := .none, command := c.code, table := 0, index := 0, revision := 0,
                    payload := 0 :: s.attn.counts } }
  | some x =>
    let r : RecordName := (s.attn.sets[x.rank]).headD { table := .group, index := 0 }
    { state := s.mapAttn fun a => a.push x
      response := { status := .ok, command := c.code, table := b8 r.table.code, index := b8 r.index, revision := 0,
                    payload := b8 x.code :: s.attn.counts } }

def execAttend (h : Header) (payload : List Byte) (s : State) : Host.Outcome State Fault Refusal :=
  .next (s.onJunction 32 h false Mode.every fun u c => u.noPayload c none payload (u.attendReply c))

/-! ## ACK (R177) -/

/-- The pair is removed from the class's set (R177). -/
def Attention.ack (a : Attention) (c : AClass) (r : RecordName) : Attention :=
  ({ a with sets := a.sets.set c.rank ((a.sets[c.rank]).filter fun x => x != r) } : Attention).withLine

/-- The decision of an ACK, in the order of R177: the class code, the table, the index, the pair. -/
def State.ackReply (s : State) (c : Call) (payload : List Byte) : Reply :=
  match payload with
  | [k] =>
    match AClass.ofCode k.toNat with
    | none => s.refuse c (namedAny c.header) .range
    | some cls =>
      match Table.ofCode c.header.table.toNat with
      | none => s.refuse c none .noTable
      | some t =>
        if c.header.index.toNat < t.capacity then
          let r := nameOf t c.header.index.toNat
          if (s.attn.sets[cls.rank]).contains r then
            { state := s.mapAttn fun a => a.ack cls r, response := c.answer .ok (s.recordRev r) [] }
          else s.refuse c (some r) .notPending
        else s.refuse c none .noRecord
  | _ => s.refuse c (namedAny c.header) .range

def execAck (h : Header) (payload : List Byte) (s : State) : Host.Outcome State Fault Refusal :=
  .next (s.runFrame { code := 33, header := h } (namedAny h) fun u => u.ackReply { code := 33, header := h } payload)

/-! ## RELEASE (R178) -/

/-- The last class is removed from the chain (R178). -/
def Attention.release (a : Attention) : Attention := ({ a with chain := a.chain.dropLast } : Attention).withLine

def State.releaseReply (s : State) (c : Call) : Reply :=
  match s.attn.chain.getLast? with
  | none => s.refuse c none .notPending
  | some x => { state := s.mapAttn Attention.release, response := c.answer .ok 0 [b8 x.code] }

def execRelease (h : Header) (payload : List Byte) (s : State) : Host.Outcome State Fault Refusal :=
  .next (s.onJunction 34 h false Mode.every fun u c => u.noPayload c none payload (u.releaseReply c))

/-! ## MASK (R174) -/

/-- Each class named takes the mask given; the others keep theirs (R174). -/
def Attention.setMasks (a : Attention) (classes : BitVec 5) (m : Bool) : Attention :=
  ({ a with masked := Vector.ofFn fun k => if classes.getLsbD k.val then m else a.masked[k] } : Attention).withLine

/-- The five masks as MASK returns them, 1 for masked (R186). -/
def Attention.maskBytes (a : Attention) : List Byte := AClass.all.map fun c => yesNo a.masked[c.rank]

/-- A MASK of one form: 0 for SET, 1 for CLEAR (R186). -/
def State.maskReply (s : State) (c : Call) (payload : List Byte) (form : Byte) (m : Bool) : Reply :=
  match payload with
  | [f, x] =>
    match parseClasses x with
    | none => s.refuse c none .range
    | some classes =>
      if f = form then
        let t := s.mapAttn fun a => a.setMasks classes m
        { state := t, response := c.answer .ok 0 t.attn.maskBytes }
      else s.refuse c none .range
  | _ => s.refuse c none .range

def execMaskSet (h : Header) (payload : List Byte) (s : State) : Host.Outcome State Fault Refusal :=
  .next (s.onJunction 35 h false Mode.every fun u c => u.maskReply c payload 0 true)

def execMaskClear (h : Header) (payload : List Byte) (s : State) : Host.Outcome State Fault Refusal :=
  .next (s.onJunction 35 h false Mode.every fun u c => u.maskReply c payload 1 false)

/-! ## POLL, LINK_ERROR and UNKNOWN -/

/-- POLL shifts the slot out and leaves it as it stands, in flight or not (R183); one that carries a payload is refused
RANGE (R182; log entry 15). -/
def execPoll (h : Header) (payload : List Byte) (s : State) : Host.Outcome State Fault Refusal :=
  .next (s.whenPowered fun u =>
    if payload = [] then u.shiftOut h.clocked
    else (u.shiftOut h.clocked).setSlot ({ code := 4, header := h : Call }.answer .range 0 []))

/-- The LINK_ERROR response echoes bytes 0 to 2 as received, 0 for those not received (R180). Its revision byte is 0
whatever record the echoed bytes name, since the frame was not executed (log entry 10: DESIGN CHOICE). -/
def linkErrorResponse (received : List Byte) : Response :=
  { status := .linkError, command := received.getD 0 0, table := received.getD 1 0, index := received.getD 2 0,
    revision := 0, payload := [] }

/-- A frame that fails its check is not executed (R180). -/
def execLinkError (received : List Byte) (s : State) : Host.Outcome State Fault Refusal :=
  .next (s.whenPowered fun u => (u.shiftOut received.length).setSlot (linkErrorResponse received))

/-- A command code that is not in the table (R182 step 2). -/
def execUnknown (code : Byte) (h : Header) (_payload : List Byte) (s : State) : Host.Outcome State Fault Refusal :=
  .next (s.runFrame { code := code, header := h } none fun u => u.refuse { code := code, header := h } none .unknown)

end Sys2Proof.Machine
end

