-- ==== Sys2Proof/Machine/Supplies.lean ====
section
/-! DEFINITION. The pins and the supplies: MKEY (R184), the main reset (section "Resets"), the retention domain (R27,
R29, R33), and the edges and expiries of the mains (R18 to R22). -/

namespace Sys2Proof.Machine

/-- The level of MKEY is what the next command is judged by (R184). -/
def execMkeyChange (active : Bool) (s : State) : Host.Outcome State Fault Refusal :=
  .next (s.mapLink fun l => { l with mkey := active })

/-- The time base after a main reset: the time of day, the time-valid flag and the crystal's pattern go on where the
retention domain is valid, and are restarted where it is not (R32, R33). -/
def TimeBase.afterReset (b : TimeBase) : TimeBase :=
  if b.retentionValid then
    { TimeBase.reset with
      time := b.time, timeValid := b.timeValid, crystalTenth := b.crystalTenth, crystalCount := b.crystalCount }
  else TimeBase.reset

/-- A main reset, by RSTn or by main power-up. The level of MKEY is the cabinet's and stays. -/
def State.mainReset (s : State) : State :=
  { State.reset with
    pending := s.pending
    link := { Link.reset with mkey := s.link.mkey }
    base := s.base.afterReset }

def execMainReset (s : State) : Host.Outcome State Fault Refusal := .next s.mainReset

/-- VBAK falls below its hold level: the indicator is cleared while main power is absent, and stays as it is while main
power is present (R33). -/
def execRetentionLoss (s : State) : Host.Outcome State Fault Refusal :=
  .next (if s.base.mainPower then s else s.mapBase fun b => { b with retentionValid := false })

/-- Main power is lost: with tenths from cycles the divider count is discarded and the crystal divider restarts; with
tenths from the crystal the tenth under way runs on (R27). -/
def TimeBase.losePower (b : TimeBase) : TimeBase :=
  match b.source with
  | .cycles => { b.toCrystal with mainPower := false }
  | .crystal => { b with mainPower := false }

def execMainPowerLoss (s : State) : Host.Outcome State Fault Refusal :=
  .next (s.whenPowered fun u => u.mapBase TimeBase.losePower)

/-- A crystal tenth with main power absent: the time of day advances and no event is issued (R29). -/
def TimeBase.retentionTenth (b : TimeBase) : TimeBase := { b.crystalStep with time := b.time.advance }

def execRetentionTenth (s : State) : Host.Outcome State Fault Refusal :=
  .next (if s.base.mainPower then s else s.mapBase TimeBase.retentionTenth)

/-- An edge on ZX (R18). -/
def execZeroCrossing (x : CrossingInput) (s : State) : Host.Outcome State Fault Refusal :=
  .next (s.whenPowered fun u => u.zeroCrossing x)

/-- The eighth consecutive good crossing in ACQUIRING (R22); a crossing that is not the eighth is a ZERO_CROSSING, and
does nothing here. -/
def execLockAcquired (x : CrossingInput) (s : State) : Host.Outcome State Fault Refusal :=
  .next (s.whenPowered fun u => if u.eighthGood x then u.zeroCrossing x else u)

/-- The first-window expiry (R19, R22). -/
def execFirstWindowExpiry (i : TickInput) (s : State) : Host.Outcome State Fault Refusal :=
  .next (s.whenPowered fun u => u.firstWindow i)

/-- The second-window expiry (R20, R22). -/
def execSecondWindowExpiry (s : State) : Host.Outcome State Fault Refusal :=
  .next (s.whenPowered State.secondWindow)

/-- A tenth that the crystal completes: a tenth tick while the tenths come from it, none while they come from cycles
(R27). -/
def State.crystalTenth (s : State) (i : TenthInput) : State :=
  let t := s.mapBase TimeBase.crystalStep
  if s.base.source = .crystal then t.tenth i else t

/-- A tenth tick that the cycle cascade issues, where the tenths come from cycles (R26, R28; log entry 6). -/
def State.cascadeTenth (s : State) (i : TenthInput) : State :=
  if s.base.source = .cycles then s.tenth i else s

/-- A tenth tick (R28). -/
def execTenthTick (source : TenthSource) (i : TenthInput) (s : State) : Host.Outcome State Fault Refusal :=
  .next (s.whenPowered fun u =>
    match source with
    | .crystal => u.crystalTenth i
    | .cycles => u.cascadeTenth i)

/-- One of the 32 sample positions of a cycle (R101 to R104). -/
def execSamplePosition (frame : Vector Sample 80) (s : State) : Host.Outcome State Fault Refusal :=
  .next (s.whenPowered fun u => { u with sampler := u.sampler.takePosition frame })

end Sys2Proof.Machine
end

