-- ==== Sys2Proof/Machine/Steps.lean ====
section
/-! DEFINITION. The steps inside a cycle tick and a tenth tick that the table lists as rows of their own. Each is the
operation that the whole tick performs, taken at one event where the state calls for it as its rule says, and nothing
where it does not (log entry 5). -/

namespace Sys2Proof.Machine

/-- A step that is due is taken at one event; one that is not due changes nothing (log entry 5). -/
def State.stepWhen (s : State) (due : State → Bool) (f : State → State) : State :=
  s.whenPowered fun u => if due u then event f u else u

/-! ## The proving unit and the cable monitor -/

/-- Learning completes (R111). -/
def execLearnComplete (c : Fin 64) (s : State) : Host.Outcome State Fault Refusal :=
  .next (s.stepWhen (fun u => u.channels[c].learnDue u.sched.dimState) fun u => u.completeLearning c)

/-- A streak is confirmed (R119). -/
def execStreakConfirm (c : Fin 64) (s : State) : Host.Outcome State Fault Refusal :=
  .next (s.stepWhen (fun u => u.channels[c].confirmDue (u.profileOf c)) fun u => u.confirmStreak c)

/-- The channel is at the last cycle of a timed phase (R91). -/
def Channel.lastCycle (x : Channel) (p : Phase) : Bool := x.phase == p && x.remaining == 1

/-- The surge count runs out (R91). -/
def execSurgeEnd (c : Fin 64) (s : State) : Host.Outcome State Fault Refusal :=
  .next (s.stepWhen (fun u => u.channels[c].lastCycle .surge) fun u =>
    u.setChannel c (u.channels[c].endSurge (u.profileOf c)))

/-- The settle count runs out (R91). -/
def execSettleEnd (c : Fin 64) (s : State) : Host.Outcome State Fault Refusal :=
  .next (s.stepWhen (fun u => u.channels[c].lastCycle .settle) fun u => u.setChannel c u.channels[c].endSettle)

/-- The release count runs out (R91). -/
def execReleaseEnd (c : Fin 64) (s : State) : Host.Outcome State Fault Refusal :=
  .next (s.stepWhen (fun u => u.channels[c].lastCycle .release) fun u => u.setChannel c u.channels[c].endRelease)

/-- The dim settle remaining reaches 0 (R52). -/
def execDimSettleEnd (s : State) : Host.Outcome State Fault Refusal :=
  .next (s.stepWhen (fun u => u.sched.dimSettle == 1) State.settleTick)

/-- The open-return streak has reached 10 (R128). -/
def execOpenReturnConfirm (k : Fin 16) (s : State) : Host.Outcome State Fault Refusal :=
  .next (s.stepWhen (fun u => 10 ≤ u.cables[k].openStreak) fun u => u.confirmOpen k)

/-- The balance streak has reached 10 (R129). -/
def execBalanceConfirm (k : Fin 16) (s : State) : Host.Outcome State Fault Refusal :=
  .next (s.stepWhen (fun u => 10 ≤ u.cables[k].balanceStreak) fun u => u.confirmBalance k)

/-- The evidence count of a pair has reached 2 (R154). The pair is named in rising order. -/
def execProvenConflict (i j : Fin 16) (s : State) : Host.Outcome State Fault Refusal :=
  .next (s.stepWhen (fun u => i < j && 2 ≤ u.sup.evidence[i][j]) fun u => u.provenConflict i j)

/-! ## The stage sequencer -/

/-- The interstage record in INTERSTAGE. -/
def State.inTransition (s : State) : Option Interstage :=
  match s.seq.state with
  | .interstage => s.seq.interstage
  | .stopped => none
  | .allRed => none
  | .minGreen => none
  | .extending => none
  | .resting => none
  | .suspended => none

/-- Step 2 of a tenth at one group, with the end of the interstage (R65, R66). -/
def State.stepOne (s : State) (g : Fin 16) : State :=
  match s.inTransition with
  | none => s
  | some r => ((s.setGroup g (r.stepGroup g s.groups[g])).endInterstage).freshGreen

/-- The loser has run its leaving time (R65). -/
def State.leavingDue (s : State) (g : Fin 16) : Bool :=
  match s.inTransition with
  | none => false
  | some r => r.losers.contains g && s.groups[g].leavingDone

def execLeavingEnd (g : Fin 16) (s : State) : Host.Outcome State Fault Refusal :=
  .next (s.stepWhen (fun u => u.leavingDue g) fun u => u.stepOne g)

/-- The gainer entry of a group, where it is on the gainer list and is no loser that is due. -/
def State.gainerEntry (s : State) (g : Fin 16) : Option (Gainer × Nat) :=
  match s.inTransition with
  | none => none
  | some r =>
    if r.losers.contains g then none
    else (r.gainers.find? fun x => x.group == g).map fun x => (x, r.timer)

/-- The gainer's prep start equals the interstage timer, and its green start does not (R65). -/
def State.prepDue (s : State) (g : Fin 16) : Bool :=
  match s.gainerEntry g with
  | none => false
  | some (x, t) => x.prepStart == t && x.greenStart != t

def execPrepStart (g : Fin 16) (s : State) : Host.Outcome State Fault Refusal :=
  .next (s.stepWhen (fun u => u.prepDue g) fun u => u.stepOne g)

/-- The gainer's green start equals the interstage timer (R65). -/
def State.greenDue (s : State) (g : Fin 16) : Bool :=
  match s.gainerEntry g with
  | none => false
  | some (x, t) => x.greenStart == t

def execGreenStart (g : Fin 16) (s : State) : Host.Outcome State Fault Refusal :=
  .next (s.stepWhen (fun u => u.greenDue g) fun u => u.stepOne g)

/-- The green timer has reached the minimum green in MIN_GREEN (R69). -/
def execMinGreenEnd (s : State) : Host.Outcome State Fault Refusal :=
  .next (s.stepWhen (fun u => u.seq.state == .minGreen && u.minGreenRun) State.endMinGreen)

/-- EXTENDING with waiting demand found, and the maximum timer at the maximum green (R72). -/
def State.maxOutDue (s : State) : Bool :=
  s.seq.state == .extending &&
    match s.seq.context with
    | none => false
    | some c => c.maxTimer.isSome && c.maxedOut

def execMaxOut (s : State) : Host.Outcome State Fault Refusal :=
  .next (s.stepWhen State.maxOutDue State.leaveStage)

/-- EXTENDING with waiting demand found, no max-out, and the extension timer run out (R72). -/
def State.gapOutDue (s : State) : Bool :=
  s.seq.state == .extending &&
    match s.seq.context with
    | none => false
    | some c => c.maxTimer.isSome && !c.maxedOut && c.gappedOut

def execGapOut (s : State) : Host.Outcome State Fault Refusal :=
  .next (s.stepWhen State.gapOutDue State.leaveStage)

/-- The active-run counter exceeds the stuck limit (R80). -/
def execDetectorFaulty (d : Fin 16) (s : State) : Host.Outcome State Fault Refusal :=
  .next (s.stepWhen (fun u => u.detectors[d].stuck) fun u => u.detectorFaulty d)

/-! ## The insulation bridge -/

/-- The idle bridge arbitrates (R139). -/
def execTestStart (bref : Microamps) (s : State) : Host.Outcome State Fault Refusal :=
  .next (s.stepWhen (fun u => u.bridge.state == .idle) fun u => u.arbitrate bref)

/-- The test timer has reached 20 (R141). -/
def execChargeEnd (s : State) : Host.Outcome State Fault Refusal :=
  .next (s.stepWhen (fun u => u.bridge.state == .charging && u.bridge.timerAt 20) State.chargeEnd)

/-- The test timer has reached 30 (R141, R142). -/
def execTestComplete (bmeas : Microamps) (s : State) : Host.Outcome State Fault Refusal :=
  .next (s.stepWhen (fun u => u.bridge.state == .measuring && u.bridge.timerAt 30) fun u => u.completeTest bmeas)

/-- The cable's entry has waited longer than 6000 tenths (R138). -/
def State.timeoutDue (s : State) (k : Fin 16) : Bool :=
  match s.bridge.entryOf k with
  | none => false
  | some e => e.timedOut

def execTestTimeout (k : Fin 16) (s : State) : Host.Outcome State Fault Refusal :=
  .next (s.stepWhen (fun u => u.timeoutDue k) fun u => u.removeEntry k .timedOut)

/-! ## The start sequence -/

/-- DARK_TEST ends (R168). -/
def execDarkTestEnd (s : State) : Host.Outcome State Fault Refusal :=
  .next (s.stepWhen State.darkTestOver State.beginAllRed)

/-- DARK_TEST reaches its limit (R168). -/
def execDarkTestLimit (s : State) : Host.Outcome State Fault Refusal :=
  .next (s.stepWhen State.darkTestAtLimit State.limitDarkTest)

/-- The start red time in use has run (R169, R170). -/
def execAllRedEnd (s : State) : Host.Outcome State Fault Refusal :=
  .next (s.stepWhen State.allRedOver State.enterPlan)

end Sys2Proof.Machine
end

