-- ==== Sys2Proof/Machine/Dispatch.lean ====
section
/-! DEFINITION. The dispatch of commands to their meanings: one arm for each constructor of `Instr`. -/

namespace Sys2Proof.Machine

def exec (i : Instr) (s : State) : Host.Outcome State Fault Refusal :=
  match i with
  | .read h payload => Sys2Proof.Machine.execRead h payload s
  | .writeGroup h payload => Sys2Proof.Machine.execWriteGroup h payload s
  | .writeConflict h payload => Sys2Proof.Machine.execWriteConflict h payload s
  | .writeChannel h payload => Sys2Proof.Machine.execWriteChannel h payload s
  | .writeProfile h payload => Sys2Proof.Machine.execWriteProfile h payload s
  | .writeCable h payload => Sys2Proof.Machine.execWriteCable h payload s
  | .writePlan h payload => Sys2Proof.Machine.execWritePlan h payload s
  | .writeStage h payload => Sys2Proof.Machine.execWriteStage h payload s
  | .writeSchedule h payload => Sys2Proof.Machine.execWriteSchedule h payload s
  | .writeDetector h payload => Sys2Proof.Machine.execWriteDetector h payload s
  | .writeJunction h payload => Sys2Proof.Machine.execWriteJunction h payload s
  | .retirePlan h payload => Sys2Proof.Machine.execRetirePlan h payload s
  | .retireStage h payload => Sys2Proof.Machine.execRetireStage h payload s
  | .retireSchedule h payload => Sys2Proof.Machine.execRetireSchedule h payload s
  | .poll h payload => Sys2Proof.Machine.execPoll h payload s
  | .linkError received => Sys2Proof.Machine.execLinkError received s
  | .unknown code h payload => Sys2Proof.Machine.execUnknown code h payload s
  | .commit h payload => Sys2Proof.Machine.execCommit h payload s
  | .commitComplete => Sys2Proof.Machine.execCommitComplete s
  | .loadPlan h payload => Sys2Proof.Machine.execLoadPlan h payload s
  | .loadPlanComplete => Sys2Proof.Machine.execLoadPlanComplete s
  | .start h payload => Sys2Proof.Machine.execStart h payload s
  | .stop h payload => Sys2Proof.Machine.execStop h payload s
  | .dark h payload => Sys2Proof.Machine.execDark h payload s
  | .restart h payload => Sys2Proof.Machine.execRestart h payload s
  | .forceFailsafe h payload => Sys2Proof.Machine.execForceFailsafe h payload s
  | .selectPlanOverride h payload => Sys2Proof.Machine.execSelectPlanOverride h payload s
  | .selectPlanFollow h payload => Sys2Proof.Machine.execSelectPlanFollow h payload s
  | .setTime h payload => Sys2Proof.Machine.execSetTime h payload s
  | .setDimFollow h payload => Sys2Proof.Machine.execSetDimFollow h payload s
  | .setDimBright h payload => Sys2Proof.Machine.execSetDimBright h payload s
  | .setDimDim h payload => Sys2Proof.Machine.execSetDimDim h payload s
  | .testCables h payload => Sys2Proof.Machine.execTestCables h payload s
  | .relearn h payload => Sys2Proof.Machine.execRelearn h payload s
  | .clearFaultChannel h payload => Sys2Proof.Machine.execClearFaultChannel h payload s
  | .clearFaultCable h payload => Sys2Proof.Machine.execClearFaultCable h payload s
  | .clearFaultJunction h payload => Sys2Proof.Machine.execClearFaultJunction h payload s
  | .probe h payload => Sys2Proof.Machine.execProbe h payload s
  | .attend h payload => Sys2Proof.Machine.execAttend h payload s
  | .ack h payload => Sys2Proof.Machine.execAck h payload s
  | .release h payload => Sys2Proof.Machine.execRelease h payload s
  | .maskSet h payload => Sys2Proof.Machine.execMaskSet h payload s
  | .maskClear h payload => Sys2Proof.Machine.execMaskClear h payload s
  | .mkeyChange active => Sys2Proof.Machine.execMkeyChange active s
  | .mainReset => Sys2Proof.Machine.execMainReset s
  | .retentionLoss => Sys2Proof.Machine.execRetentionLoss s
  | .mainPowerLoss => Sys2Proof.Machine.execMainPowerLoss s
  | .retentionTenth => Sys2Proof.Machine.execRetentionTenth s
  | .zeroCrossing x => Sys2Proof.Machine.execZeroCrossing x s
  | .lockAcquired x => Sys2Proof.Machine.execLockAcquired x s
  | .firstWindowExpiry input => Sys2Proof.Machine.execFirstWindowExpiry input s
  | .secondWindowExpiry => Sys2Proof.Machine.execSecondWindowExpiry s
  | .learnComplete c => Sys2Proof.Machine.execLearnComplete c s
  | .streakConfirm c => Sys2Proof.Machine.execStreakConfirm c s
  | .surgeEnd c => Sys2Proof.Machine.execSurgeEnd c s
  | .settleEnd c => Sys2Proof.Machine.execSettleEnd c s
  | .releaseEnd c => Sys2Proof.Machine.execReleaseEnd c s
  | .dimSettleEnd => Sys2Proof.Machine.execDimSettleEnd s
  | .openReturnConfirm k => Sys2Proof.Machine.execOpenReturnConfirm k s
  | .balanceConfirm k => Sys2Proof.Machine.execBalanceConfirm k s
  | .provenConflict a b => Sys2Proof.Machine.execProvenConflict a b s
  | .tenthTick source input => Sys2Proof.Machine.execTenthTick source input s
  | .leavingEnd g => Sys2Proof.Machine.execLeavingEnd g s
  | .prepStart g => Sys2Proof.Machine.execPrepStart g s
  | .greenStart g => Sys2Proof.Machine.execGreenStart g s
  | .minGreenEnd => Sys2Proof.Machine.execMinGreenEnd s
  | .maxOut => Sys2Proof.Machine.execMaxOut s
  | .gapOut => Sys2Proof.Machine.execGapOut s
  | .detectorFaulty d => Sys2Proof.Machine.execDetectorFaulty d s
  | .testStart bref => Sys2Proof.Machine.execTestStart bref s
  | .chargeEnd => Sys2Proof.Machine.execChargeEnd s
  | .testComplete bmeas => Sys2Proof.Machine.execTestComplete bmeas s
  | .testTimeout k => Sys2Proof.Machine.execTestTimeout k s
  | .darkTestEnd => Sys2Proof.Machine.execDarkTestEnd s
  | .darkTestLimit => Sys2Proof.Machine.execDarkTestLimit s
  | .allRedEnd => Sys2Proof.Machine.execAllRedEnd s
  | .samplePosition frame => Sys2Proof.Machine.execSamplePosition frame s

end Sys2Proof.Machine
end

