-- ==== Sys2Proof/Safety.lean ====
section
/-! DEFINITION. What the model promises of a state: the conditions the manual states of the whole machine. -/

namespace Sys2Proof.Machine

/-- FSR is engaged only while the mode is STARTING, RUNNING or DARK (R149). -/
def State.fsrSafe (s : State) : Prop := s.sup.fsr = true → s.sup.mode.engagesFsr = true

/-- While the mode is UNCONFIGURED, STANDBY, FAILSAFE or MAINS_OUT, the port holds every channel off (R149). -/
def State.portSafe (s : State) : Prop := s.sup.mode.allOff = true → s.port = Machine.allOff

/-- ATTNn is asserted exactly when some class qualifies (R175). -/
def Attention.lineRight (a : Attention) : Prop := a.line = AClass.all.any a.qualifies

/-- Each class on the under-service chain ranks above every class pushed before it (R175). -/
def Attention.chainRight (a : Attention) : Prop := a.chain.Pairwise fun earlier later => later.above earlier = true

/-- The DIM output is driven exactly while the dimming state is DIM (R52). -/
def State.dimRight (s : State) : Prop := s.sched.dimPin = (s.sched.dimState == .dim)

/-- The test queue holds at most one entry for each cable (R135). -/
def State.queueRight (s : State) : Prop := (s.bridge.queue.map QueueEntry.cable).Nodup

/-- The start phase is none in every mode but STARTING, and with it the phase timer is absent (R166). -/
def State.phaseRight (s : State) : Prop :=
  (s.sup.mode ≠ .starting → s.sup.phase = none) ∧ (s.sup.phase = none → s.sup.phaseTimer = none)

/-- No two groups that conflict are commanded green together by the set the port holds (R153). -/
def State.greensApart (s : State) : Prop :=
  ∀ x h : Fin 16, s.conflict x h = true → ¬(s.port[greenOf x] = true ∧ s.port[greenOf h] = true)

/-- At every channel the worst kind is none exactly while the bad streak is 0 (R82). -/
def State.streaksRight (s : State) : Prop := ∀ c : Fin 64, s.channels[c].badStreak = 0 ↔ s.channels[c].worst = none

/-- At every channel the dim part is present exactly while dimmable is yes (R82). -/
def State.dimPartsRight (s : State) : Prop := ∀ c : Fin 64, s.channels[c].dim.isSome = s.channels[c].cfg.dimmable

/-- A disabled detector input holds no call, no level, no fault and no count (R78, R79). -/
def State.detectorsRight (s : State) : Prop :=
  ∀ d : Fin 16, s.detectors[d].cfg.enabled = false →
    s.detectors[d].latch = false ∧ s.detectors[d].level = false ∧ s.detectors[d].previous = false ∧
      s.detectors[d].faulty = false ∧ s.detectors[d].activeRun = 0

/-- The bridge tests one cable while it is CHARGING or MEASURING and none otherwise; the test timer, the selection and the
mark of the queue entry under test go with it (R133, R134, R139). -/
def State.bridgeRight (s : State) : Prop :=
  (s.bridge.underTest.isSome = true ↔ s.bridge.state = .charging ∨ s.bridge.state = .measuring) ∧
  s.bridge.timer.isSome = s.bridge.underTest.isSome ∧
  s.bridge.selection = (match s.bridge.underTest with
    | none => .nothing
    | some k => .cable k) ∧
  (∀ e ∈ s.bridge.queue, e.underTest = true ↔ s.bridge.underTest = some e.cable) ∧
  (∀ k, s.bridge.underTest = some k → ∃ e ∈ s.bridge.queue, e.cable = k)

/-- A stage context is held exactly in a green, and an interstage record exactly in INTERSTAGE; each is of the current
stage, and of a plan that runs; in the start phase ALL_RED the sequencer is in ALL_RED; the pending plan is as the table
of R50 gives it (R50, R55, R57, R64, R68, R166). -/
def State.sequencerRight (s : State) : Prop :=
  s.seq.context.isSome = s.seq.state.inGreen ∧
  (s.seq.interstage.isSome = true ↔ s.seq.state = .interstage) ∧
  (∀ c, s.seq.context = some c → s.seq.current = some c.descriptor) ∧
  (∀ r, s.seq.interstage = some r → s.seq.current = some r.entering) ∧
  (s.seq.running = none → s.seq.context = none ∧ s.seq.interstage = none) ∧
  (s.sup.phase = some .allRed → s.seq.state = .allRed) ∧
  s.seq.pending =
    (if s.seq.running = none ∨ s.sched.requested = none ∨ s.sched.requested = s.seq.running then none
      else s.sched.requested)

/-- The plan that owns a descriptor, the running plan and the requested plan are LOADED (R40, R42, R49). -/
def State.plansRight (s : State) : Prop :=
  (∀ (d : Fin 96) (p : Fin 8), s.stages[d].owner = some p → s.plans[p].loaded = true) ∧
  (∀ p : Fin 8, s.seq.running = some p → s.plans[p].loaded = true) ∧
  (∀ p : Fin 8, s.sched.requested = some p → s.plans[p].loaded = true)

/-! ## What the configuration checks ask (R8, R12, R40, R162) -/

/-- A group record passes the conditions of R8. -/
def GroupConfig.passes (g : GroupConfig) : Prop :=
  (g.kind ≠ .unused → g.redsRequired = 2 → g.secondRed = true) ∧
  (g.kind = .pedestrian → g.prepTime = 0) ∧
  (g.kind = .vehicle → 30 ≤ g.leavingTime ∧ g.leavingTime ≤ 60)

/-- The condition of R8 that a group record fails first. -/
def GroupConfig.failsAt (g : GroupConfig) : Check → Prop
  | .redsWithoutSecond => g.kind ≠ .unused ∧ g.redsRequired = 2 ∧ g.secondRed = false
  | .prepNotAllowed => g.kind = .pedestrian ∧ (g.redsRequired = 2 → g.secondRed = true) ∧ g.prepTime ≠ 0
  | .leavingForKind =>
    g.kind = .vehicle ∧ (g.redsRequired = 2 → g.secondRed = true) ∧ (g.leavingTime < 30 ∨ 60 < g.leavingTime)
  | _ => False

/-- Neither group of a conflict entry is UNUSED, and the entry is not on the diagonal (R12). -/
def State.properPair (s : State) (i j : Fin 16) : Prop :=
  i ≠ j ∧ s.groups[i].cfg.kind ≠ .unused ∧ s.groups[j].cfg.kind ≠ .unused

/-- An entry of the conflict table passes the conditions of R12. -/
def State.entryPasses (s : State) (i j : Fin 16) : Prop :=
  (s.intergreen i j).isSome = (s.intergreen j i).isSome ∧
  ∀ n, s.intergreen i j = some n →
    s.properPair i j ∧ s.groups[i].cfg.leavingTime ≤ n ∧ s.groups[j].cfg.prepTime ≤ n

/-- The condition of R12 that an entry fails first. -/
def State.entryFailsAt (s : State) (i j : Fin 16) : Check → Prop
  | .diagonal => s.intergreen i j ≠ none ∧ i = j
  | .unusedGroup =>
    s.intergreen i j ≠ none ∧ i ≠ j ∧ (s.groups[i].cfg.kind = .unused ∨ s.groups[j].cfg.kind = .unused)
  | .asymmetric =>
    (s.intergreen i j = none ∧ s.intergreen j i ≠ none) ∨
      (s.intergreen i j ≠ none ∧ s.intergreen j i = none ∧ s.properPair i j)
  | .shortOfLeaving =>
    ∃ n, s.intergreen i j = some n ∧ s.intergreen j i ≠ none ∧ s.properPair i j ∧ n < s.groups[i].cfg.leavingTime
  | .shortOfPrep =>
    ∃ n, s.intergreen i j = some n ∧ s.intergreen j i ≠ none ∧ s.properPair i j ∧
      s.groups[i].cfg.leavingTime ≤ n ∧ n < s.groups[j].cfg.prepTime
  | _ => False

/-- A used channel names an UNUSED cable (R162, step 3). -/
def State.channelFails (s : State) (c : Fin 64) : Prop :=
  s.used c = true ∧ ∃ k, s.channels[c].cfg.cable = some k ∧ s.cables[k].state = .unused

/-- A descriptor passes checks 1 to 4 of R40 for plan p. -/
def State.stagePasses (s : State) (p : Fin 8) (d : Fin 96) : Prop :=
  s.stages[d].isDefined = true ∧ (s.stages[d].owner = none ∨ s.stages[d].owner = some p) ∧
  (∀ g : Fin 16, has s.stages[d].shape.groups g = true → s.groups[g].cfg.kind ≠ .unused) ∧
  (∀ g j : Fin 16, has s.stages[d].shape.groups g = true → has s.stages[d].shape.groups j = true →
    s.conflict g j = false)

/-- The check of R40, among the first four, that a descriptor fails first. -/
def State.stageFailsAt (s : State) (p : Fin 8) (d : Fin 96) : Check → Prop
  | .notDefined => s.stages[d].isDefined = false
  | .ownedElsewhere => s.stages[d].isDefined = true ∧ s.stages[d].owner ≠ none ∧ s.stages[d].owner ≠ some p
  | .unusedGroup =>
    s.stages[d].isDefined = true ∧ (s.stages[d].owner = none ∨ s.stages[d].owner = some p) ∧
    ∃ g : Fin 16, has s.stages[d].shape.groups g = true ∧ s.groups[g].cfg.kind = .unused
  | .conflictingGroups =>
    s.stages[d].isDefined = true ∧ (s.stages[d].owner = none ∨ s.stages[d].owner = some p) ∧
    (∀ g : Fin 16, has s.stages[d].shape.groups g = true → s.groups[g].cfg.kind ≠ .unused) ∧
    ∃ g j : Fin 16, has s.stages[d].shape.groups g = true ∧ has s.stages[d].shape.groups j = true ∧
      s.conflict g j = true
  | _ => False

/-- The descriptors a walk of plan p has passed: all different, from the entry descriptor along the next links, each
passing checks 1 to 4 (R40). -/
def State.walked (s : State) (p : Fin 8) (passed : List (Fin 96)) : Prop :=
  passed.Nodup ∧ (∀ d, passed.head? = some d → d = s.plans[p].entry) ∧
  (∀ (k : Nat) (d e : Fin 96), passed[k]? = some d → passed[k + 1]? = some e → s.stages[d].shape.next = e) ∧
  ∀ d ∈ passed, s.stagePasses p d

/-- The walk closes: 2 to 12 descriptors, the last of which leads back to the entry (R40). -/
def State.closes (s : State) (p : Fin 8) (passed : List (Fin 96)) : Prop :=
  s.walked p passed ∧ 2 ≤ passed.length ∧ passed.length ≤ 12 ∧
  ∀ d, passed.getLast? = some d → s.stages[d].shape.next = s.plans[p].entry

/-! ## What a frame finds and leaves (R181, R182) -/

/-- The link executes a frame's command: main power is present and no command is in flight (R182 step 1). -/
def State.ready (s : State) : Prop := s.base.mainPower = true ∧ s.link.inFlight = none

/-- The expected revision, where present, is the record's (R182 step 6). -/
def State.revisionMatches (s : State) (h : Header) (r : RecordName) : Prop :=
  ∀ e, h.expected = some e → e = s.recordRev r

/-- The link after a frame: the slot has been shifted out, and the response has replaced it (R181). -/
def Link.answered (l : Link) (h : Header) (r : Response) : Link :=
  { l with slot := r, sdo := l.slot.shifted h.clocked }

/-- A group directed red (R56): PREP, GREEN and LEAVING become RED; RED and DARK stay as they are. -/
def Group.turnedRed (g : Group) : Group :=
  if g.aspect = .red ∨ g.aspect = .dark then g
  else
    { g with
      aspect := .red, stateTimer := 0, sinceGreen := if g.aspect = .green then 0 else g.sinceGreen, rev := g.rev + 1 }

/-- A sequencer directed to a state in which nothing runs (R56, R57). -/
def Sequencer.emptied (q : Sequencer) (state : SeqState) : Sequencer :=
  { q with
    state := state, running := none, pending := none, current := none, context := none, interstage := none,
    allBarred := false }

/-- A sequencer suspended: the running plan, the pending plan and the current stage stay (R56). -/
def Sequencer.suspended (q : Sequencer) : Sequencer :=
  { q with state := .suspended, context := none, interstage := none, allBarred := false }

/-- The supervisor's fields in a mode outside STARTING and RUNNING (R149, R154, R166). -/
def Supervisor.idledIn (u : Supervisor) (m : Mode) (fsr : Bool) : Supervisor :=
  { u with mode := m, fsr := fsr, phase := none, phaseTimer := none, redInUse := none, evidence := noEvidence }

/-- The statuses of a command that was not taken (R187). -/
def Status.refusal (st : Status) : Bool := 16 ≤ st.code.toNat

end Sys2Proof.Machine

namespace Sys2Proof

open Machine in
/-- The header names record `i` of a table. -/
def Header.names (h : Header) (t : Table) (i : Nat) : Prop := h.table.toNat = t.code ∧ h.index.toNat = i

open Machine in
/-- The response to a frame of a given code, echoing its table and index (R181). -/
def Header.reply (h : Header) (code : Byte) (st : Status) (revision : Byte) (payload : List Byte) : Response :=
  { status := st, command := code, table := h.table, index := h.index, revision := revision, payload := payload }

namespace Machine

/-- The state a taken frame leaves: its response has replaced the slot (R181). -/
def State.answering (u : State) (h : Header) (code : Byte) (st : Status) (revision : Byte) (payload : List Byte) :
    State := u.setSlot (h.reply code st revision payload)

/-- The state after a frame answered with a record, as the command left it (R181, R185). -/
def State.returning (u : State) (h : Header) (code : Byte) (st : Status) (r : RecordName) : State :=
  u.answering h code st (u.recordRev r) (u.layout r)

/-- The state after a junction command answered with the JUNCTION layout (R186). -/
def State.returningJunction (u : State) (h : Header) (code : Byte) : State :=
  u.answering h code .ok 0 u.junctionLayout

/-- The state after a frame refused: the slot was shifted out, and the refusal has replaced it (R181, R182); it
carries no payload (log entry 10). -/
def State.refusing (s : State) (h : Header) (code : Byte) (st : Status) (revision : Byte) : State :=
  (s.shiftOut h.clocked).answering h code st revision []

end Machine

/-- The rows that need maintenance authority (R184). -/
def Instr.maintenance : Instr → Bool
  | .writeGroup _ _ => true
  | .writeConflict _ _ => true
  | .writeChannel _ _ => true
  | .writeProfile _ _ => true
  | .writeCable _ _ => true
  | .writeJunction _ _ => true
  | .commit _ _ => true
  | .stop _ _ => true
  | .dark _ _ => true
  | .restart _ _ => true
  | .relearn _ _ => true
  | .clearFaultChannel _ _ => true
  | .clearFaultCable _ _ => true
  | .clearFaultJunction _ _ => true
  | _ => false

end Sys2Proof
end

