-- ==== Sys2Proof/WellFormed.lean ====
section
/-! DEFINITION. Which commands can arise: a frame is one that its own row's decoding reads, with a payload of at most
256 bytes and enough bytes clocked; a failed frame fails the check of R180; a pair of groups is given in rising order. -/

namespace Sys2Proof

/-- The frame's payload fits its length field, and the bytes clocked hold the whole frame (R180). -/
def Frame.fits (f : Frame) : Bool := f.payload.length ≤ 256 && 9 + f.payload.length ≤ f.header.clocked

/-- A command is well-formed. -/
def Instr.wf (i : Instr) : Bool :=
  match frameOf i with
  | some f => f.fits && decide (commandOf f = i)
  | none =>
    match i with
    | .linkError received => (checkFrame received).isNone
    | .provenConflict a b => a < b
    | _ => true

end Sys2Proof
end

