-- ==== Sys2Proof/Certificates/Slice0/Obligations.lean ====
section
/-! DEFINITION. The statements about the model, one definition each. Every statement reads "for every state", whether a
run reaches it or not; what it supposes of the state stands in it as a hypothesis. In a statement about a frame,
`s.shiftOut h.clocked` is the state with the slot shifted out over the bytes clocked (R181), and `returning`,
`returningJunction`, `answering` and `refusing` put the response into the slot; that a refusal carries no payload is the
model's reading (log entry 10). -/

section

open Sys2Proof Sys2Proof.Machine

/-! ## The command link -/

/-- STEP TAKES THE FRONT. The step of a state with command c at the front of its queue is exec of c on the state with
the queue's rest; with an empty queue the step changes nothing (the idling is the model's choice, log entry 1). -/
def Obligations.StepTakesFront : Prop :=
  (∀ (s : State) (c : Instr) (rest : List Instr), step (s.withPending (c :: rest)) = exec c (s.withPending rest)) ∧
  (∀ s : State, step (s.withPending []) = .next (s.withPending []))

/-- EVERY COMMAND ANSWERS. On every state every command answers a next state, and leaves the queue as it stands (the
model has no fault and no refusal; that a command does not touch the queue is the model's choice, log entry 1). -/
def Obligations.EveryCommandAnswers : Prop :=
  ∀ (c : Instr) (s : State), ∃ t, exec c s = .next t ∧ t.pending = s.pending

/-- FRAMES READ BACK. The bytes of the frame of any well-formed command of the link, its CRC and its fill included,
are read as that command, with every field at every value that the encoding admits. Each command code of R186 is read
as its row: WRITE by the table number 1 to 10, RETIRE by PLAN, STAGE and SCHEDULE, CLEAR_FAULT by CHANNEL, CABLE and
JUNCTION, SELECT_PLAN, SET_DIM and MASK by the first payload byte; every other code is UNKNOWN (R180, R182, R186). -/
def Obligations.FramesReadBack : Prop :=
  (∀ (i : Instr) (f : Frame), i.wf = true → frameOf i = some f → decodeFrame (encodeFrame f) = i) ∧
  (∀ (h : Header) (p : List Byte),
    commandOf ⟨1, h, p⟩ = .read h p ∧ commandOf ⟨4, h, p⟩ = .poll h p ∧ commandOf ⟨16, h, p⟩ = .commit h p ∧
    commandOf ⟨17, h, p⟩ = .loadPlan h p ∧ commandOf ⟨18, h, p⟩ = .start h p ∧ commandOf ⟨19, h, p⟩ = .stop h p ∧
    commandOf ⟨20, h, p⟩ = .dark h p ∧ commandOf ⟨21, h, p⟩ = .restart h p ∧
    commandOf ⟨22, h, p⟩ = .forceFailsafe h p ∧ commandOf ⟨24, h, p⟩ = .setTime h p ∧
    commandOf ⟨26, h, p⟩ = .testCables h p ∧ commandOf ⟨27, h, p⟩ = .relearn h p ∧
    commandOf ⟨29, h, p⟩ = .probe h p ∧ commandOf ⟨32, h, p⟩ = .attend h p ∧ commandOf ⟨33, h, p⟩ = .ack h p ∧
    commandOf ⟨34, h, p⟩ = .release h p ∧
    (h.table = 1 → commandOf ⟨2, h, p⟩ = .writeGroup h p) ∧ (h.table = 2 → commandOf ⟨2, h, p⟩ = .writeConflict h p) ∧
    (h.table = 3 → commandOf ⟨2, h, p⟩ = .writeChannel h p) ∧ (h.table = 4 → commandOf ⟨2, h, p⟩ = .writeProfile h p) ∧
    (h.table = 5 → commandOf ⟨2, h, p⟩ = .writeCable h p) ∧ (h.table = 6 → commandOf ⟨2, h, p⟩ = .writePlan h p) ∧
    (h.table = 7 → commandOf ⟨2, h, p⟩ = .writeStage h p) ∧ (h.table = 8 → commandOf ⟨2, h, p⟩ = .writeSchedule h p) ∧
    (h.table = 9 → commandOf ⟨2, h, p⟩ = .writeDetector h p) ∧
    (h.table = 10 → commandOf ⟨2, h, p⟩ = .writeJunction h p) ∧
    (h.table = 6 → commandOf ⟨3, h, p⟩ = .retirePlan h p) ∧ (h.table = 7 → commandOf ⟨3, h, p⟩ = .retireStage h p) ∧
    (h.table = 8 → commandOf ⟨3, h, p⟩ = .retireSchedule h p) ∧
    (h.table = 3 → commandOf ⟨28, h, p⟩ = .clearFaultChannel h p) ∧
    (h.table = 5 → commandOf ⟨28, h, p⟩ = .clearFaultCable h p) ∧
    (h.table = 10 → commandOf ⟨28, h, p⟩ = .clearFaultJunction h p) ∧
    commandOf ⟨23, h, 0 :: p⟩ = .selectPlanFollow h (0 :: p) ∧
    commandOf ⟨23, h, 1 :: p⟩ = .selectPlanOverride h (1 :: p) ∧
    commandOf ⟨25, h, 0 :: p⟩ = .setDimFollow h (0 :: p) ∧ commandOf ⟨25, h, 1 :: p⟩ = .setDimBright h (1 :: p) ∧
    commandOf ⟨25, h, 2 :: p⟩ = .setDimDim h (2 :: p) ∧
    commandOf ⟨35, h, 0 :: p⟩ = .maskSet h (0 :: p) ∧ commandOf ⟨35, h, 1 :: p⟩ = .maskClear h (1 :: p) ∧
    (∀ code : Byte,
      code.toNat ∉ [1, 2, 3, 4, 16, 17, 18, 19, 20, 21, 22, 23, 24, 25, 26, 27, 28, 29, 32, 33, 34, 35] →
      commandOf ⟨code, h, p⟩ = .unknown code h p))

/-- FRAME CHECK. The frame is the whole bytes clocked, most significant bit first, and the bits of an incomplete last
byte are discarded; a frame of fewer than 7 bytes fails; one with a header passes exactly where its payload length n
is at most 256, it holds at least 9 + n bytes, the CRC of bytes 0 to 6 + n stands after the payload, and flags is 0 or
1; the expected revision is read only where flags is 1; a frame that fails is a LINK_ERROR. The CRC starts at all
ones, takes each byte's bits from the most significant, shifts left by one at each, and adds x^12 + x^5 + 1 where the
bit it shifts out differs from the bit taken; it is not inverted, and stands most significant byte first (R180). -/
def Obligations.FrameCheck : Prop :=
  (∀ (bytes : List Byte) (extra : List Bool), extra.length < 8 →
    frameBytes (bytes.flatMap byteBits ++ extra) = bytes) ∧
  (∀ bytes : List Byte, bytes.length < 7 → checkFrame bytes = none) ∧
  (∀ (code table index flags rev n1 n0 : Byte) (rest : List Byte) (f : Frame),
    checkFrame (code :: table :: index :: flags :: rev :: n1 :: n0 :: rest) = some f ↔
      n1.toNat * 256 + n0.toNat ≤ 256 ∧
      9 + (n1.toNat * 256 + n0.toNat) ≤ 7 + rest.length ∧
      (rest.drop (n1.toNat * 256 + n0.toNat)).take 2 =
        crcBytes (code :: table :: index :: flags :: rev :: n1 :: n0 :: rest.take (n1.toNat * 256 + n0.toNat)) ∧
      (flags = 0 ∨ flags = 1) ∧
      f = { code := code
            header :=
              { table := table, index := index, expected := if flags = 1 then some rev else none
                clocked := 7 + rest.length }
            payload := rest.take (n1.toNat * 256 + n0.toNat) }) ∧
  (∀ bytes : List Byte, checkFrame bytes = none → decodeFrame bytes = .linkError bytes) ∧
  (∀ bytes : List Byte,
    crc16 bytes =
      (bytes.flatMap fun b => [7, 6, 5, 4, 3, 2, 1, 0].map fun n => decide (b.toNat / 2 ^ n % 2 = 1)).foldl
        (fun crc bit =>
          if decide (32768 ≤ crc.toNat) = bit then BitVec.ofNat 16 (2 * crc.toNat)
          else BitVec.ofNat 16 (2 * crc.toNat) ^^^ BitVec.ofNat 16 (2 ^ 12 + 2 ^ 5 + 1))
        (BitVec.ofNat 16 65535) ∧
    crcBytes bytes = [BitVec.ofNat 8 ((crc16 bytes).toNat / 256), BitVec.ofNat 8 ((crc16 bytes).toNat % 256)]) ∧
  (∀ (b : Byte) (n : Nat), n < 8 → (byteBits b)[n]? = some (b.getLsbD (7 - n)))

/-- LINK FRAMES. With main power present: POLL without a payload shifts the slot out and changes nothing else, a
command in flight or not; a failed frame puts LINK_ERROR into the slot, echoing bytes 0 to 2 or 0 for those not
received, and changes nothing else. With no command in flight besides, a command code that is not in the table answers
UNKNOWN and changes nothing else (R180 to R183). That a POLL with a payload answers RANGE and leaves the rest (log
entry 15), and that the revision byte of LINK_ERROR and UNKNOWN is 0 (log entry 10), is the model's reading. -/
def Obligations.LinkFrames : Prop :=
  ∀ s : State, s.base.mainPower = true →
    (∀ h : Header, exec (.poll h []) s =
      .next { s with link := { s.link with sdo := s.link.slot.shifted h.clocked } }) ∧
    (∀ (h : Header) (payload : List Byte), payload ≠ [] → exec (.poll h payload) s = .next (s.refusing h 4 .range 0)) ∧
    (∀ received : List Byte, exec (.linkError received) s =
      .next { s with link :=
        { s.link with
          sdo := s.link.slot.shifted received.length
          slot :=
            { status := .linkError, command := received.getD 0 0, table := received.getD 1 0
              index := received.getD 2 0, revision := 0, payload := [] } } }) ∧
    (s.link.inFlight = none → ∀ (code : Byte) (h : Header) (payload : List Byte),
      exec (.unknown code h payload) s = .next (s.refusing h code .unknown 0))

/-- BUSY. While a command is in flight every frame but POLL is refused BUSY: the slot is shifted out, the BUSY
response echoing the refused command replaces it, and nothing else changes (R182 step 1, R183). That a command on
records carries there the revision of any record its header names, whatever table the command takes, and 0 where it
names none, and that a command that names no record carries 0, is the model's reading (log entry 10). -/
def Obligations.BusyRefusals : Prop :=
  ∀ (i : Instr) (f : Frame) (s : State), frameOf i = some f → (∀ h p, i ≠ .poll h p) →
    s.base.mainPower = true → s.link.inFlight ≠ none →
    ∃ rev, exec i s = .next (s.refusing f.header f.code .busy rev) ∧
      ((∀ code h p, i ≠ .unknown code h p) → f.code.toNat ∈ [1, 2, 3, 17, 27, 28, 29, 33] →
        (∀ (t : Table) (n : Nat), f.header.names t n → n < t.capacity → rev = s.recordRev (nameOf t n)) ∧
        ((∀ (t : Table) (n : Nat), f.header.names t n → t.capacity ≤ n) → rev = 0)) ∧
      (f.code.toNat ∉ [1, 2, 3, 17, 27, 28, 29, 33] → rev = 0)

/-- AUTHORITY AND MODE. With MKEY not active, no command that needs maintenance authority does anything but put a
refusal into the slot: BUSY, NO_TABLE, NO_RECORD or AUTHORITY. COMMIT, STOP, DARK and RESTART, made with nothing in
flight, are refused AUTHORITY, and so is a WRITE, RELEARN or CLEAR_FAULT that names a record of its table, whatever
the mode. With the key turned, a WRITE of a GROUP, CONFLICT, PROFILE, CABLE or JUNCTION record is refused MODE outside
UNCONFIGURED and STANDBY, and a WRITE of a CHANNEL outside UNCONFIGURED, STANDBY and DARK, whatever the expected
revision and the payload (R7, R11, R84, R87, R124, R147, R182, R184, R186). -/
def Obligations.AuthorityGuard : Prop :=
  (∀ (i : Instr) (f : Frame) (s : State), i.maintenance = true → frameOf i = some f →
    s.base.mainPower = true → s.link.mkey = false →
    ∃ st rev, exec i s = .next (s.refusing f.header f.code st rev) ∧
      (st = .busy ∨ st = .noTable ∨ st = .noRecord ∨ st = .authority)) ∧
  (∀ (s : State) (h : Header) (p : List Byte), s.ready → s.link.mkey = false →
    exec (.commit h p) s = .next (s.refusing h 16 .authority 0) ∧
    exec (.stop h p) s = .next (s.refusing h 19 .authority 0) ∧
    exec (.dark h p) s = .next (s.refusing h 20 .authority 0) ∧
    exec (.restart h p) s = .next (s.refusing h 21 .authority 0)) ∧
  (∀ (s : State) (h : Header) (p : List Byte) (i : Nat), s.ready → s.link.mkey = false →
    (h.names .group i → i < 16 →
      exec (.writeGroup h p) s = .next (s.refusing h 2 .authority (s.recordRev (nameOf .group i)))) ∧
    (h.names .conflict i → i < 16 →
      exec (.writeConflict h p) s = .next (s.refusing h 2 .authority (s.recordRev (nameOf .conflict i)))) ∧
    (h.names .channel i → i < 64 →
      exec (.writeChannel h p) s = .next (s.refusing h 2 .authority (s.recordRev (nameOf .channel i))) ∧
      exec (.relearn h p) s = .next (s.refusing h 27 .authority (s.recordRev (nameOf .channel i))) ∧
      exec (.clearFaultChannel h p) s = .next (s.refusing h 28 .authority (s.recordRev (nameOf .channel i)))) ∧
    (h.names .profile i → i < 8 →
      exec (.writeProfile h p) s = .next (s.refusing h 2 .authority (s.recordRev (nameOf .profile i)))) ∧
    (h.names .cable i → i < 16 →
      exec (.writeCable h p) s = .next (s.refusing h 2 .authority (s.recordRev (nameOf .cable i))) ∧
      exec (.clearFaultCable h p) s = .next (s.refusing h 28 .authority (s.recordRev (nameOf .cable i)))) ∧
    (h.names .junction i → i < 1 →
      exec (.writeJunction h p) s = .next (s.refusing h 2 .authority (s.recordRev (nameOf .junction i))) ∧
      exec (.clearFaultJunction h p) s = .next (s.refusing h 28 .authority (s.recordRev (nameOf .junction i))))) ∧
  (∀ (s : State) (h : Header) (p : List Byte) (i : Nat), s.ready → s.link.mkey = true →
    s.sup.mode ≠ .unconfigured → s.sup.mode ≠ .standby →
    (h.names .group i → i < 16 →
      exec (.writeGroup h p) s = .next (s.refusing h 2 .mode (s.recordRev (nameOf .group i)))) ∧
    (h.names .conflict i → i < 16 →
      exec (.writeConflict h p) s = .next (s.refusing h 2 .mode (s.recordRev (nameOf .conflict i)))) ∧
    (h.names .channel i → i < 64 → s.sup.mode ≠ .dark →
      exec (.writeChannel h p) s = .next (s.refusing h 2 .mode (s.recordRev (nameOf .channel i)))) ∧
    (h.names .profile i → i < 8 →
      exec (.writeProfile h p) s = .next (s.refusing h 2 .mode (s.recordRev (nameOf .profile i)))) ∧
    (h.names .cable i → i < 16 →
      exec (.writeCable h p) s = .next (s.refusing h 2 .mode (s.recordRev (nameOf .cable i)))) ∧
    (h.names .junction i → i < 1 →
      exec (.writeJunction h p) s = .next (s.refusing h 2 .mode (s.recordRev (nameOf .junction i)))))

/-- REFUSED COMMANDS. A frame whose response carries a refusal (a status of 16 or above) changed nothing: only the
slot and the bytes shifted out differ, and what is in flight and the level of MKEY stay. With nothing in flight a READ
of a table number outside 1 to 10, and any other command on records whose table is not its own, answer NO_TABLE, and
an index outside the table NO_RECORD, whatever the key, the mode, the expected revision and the payload. A WRITE of a
record of any of the ten tables, with the authority and in a mode it needs, whose expected revision is not the
record's, answers STALE with the present revision and the full READ payload and changes nothing, whatever it carries
(R182, R185, R186). The revision byte 0 of NO_TABLE and NO_RECORD is the model's reading (log entry 10). -/
def Obligations.RefusedCommandsChangeNothing : Prop :=
  (∀ (i : Instr) (f : Frame) (s t : State), frameOf i = some f → exec i s = .next t →
    t.link.slot.status.refusal = true →
    t = { s with link := { s.link with slot := t.link.slot, sdo := t.link.sdo } }) ∧
  (∀ (s : State) (h : Header) (p : List Byte), s.ready →
    (h.table.toNat = 0 ∨ 10 < h.table.toNat → exec (.read h p) s = .next (s.refusing h 1 .noTable 0)) ∧
    (∀ t : Table, h.table.toNat = t.code → t.capacity ≤ h.index.toNat →
      exec (.read h p) s = .next (s.refusing h 1 .noRecord 0)) ∧
    (∀ (i : Instr) (code : Byte) (t : Table),
      (i, code, t) ∈ ([(.writeGroup h p, 2, .group), (.writeConflict h p, 2, .conflict), (.writeChannel h p, 2, .channel),
        (.writeProfile h p, 2, .profile), (.writeCable h p, 2, .cable), (.writePlan h p, 2, .plan),
        (.writeStage h p, 2, .stage), (.writeSchedule h p, 2, .schedule), (.writeDetector h p, 2, .detector),
        (.writeJunction h p, 2, .junction), (.retirePlan h p, 3, .plan), (.retireStage h p, 3, .stage),
        (.retireSchedule h p, 3, .schedule), (.loadPlan h p, 17, .plan), (.relearn h p, 27, .channel),
        (.clearFaultChannel h p, 28, .channel), (.clearFaultCable h p, 28, .cable),
        (.clearFaultJunction h p, 28, .junction), (.probe h p, 29, .channel)] : List (Instr × Byte × Table)) →
      (h.table.toNat ≠ t.code → exec i s = .next (s.refusing h code .noTable 0)) ∧
      (h.table.toNat = t.code → t.capacity ≤ h.index.toNat → exec i s = .next (s.refusing h code .noRecord 0)))) ∧
  (∀ (s : State) (h : Header) (p : List Byte) (i : Instr) (t : Table) (n : Nat) (e : Byte), s.ready →
    h.names t n → n < t.capacity → h.expected = some e → e ≠ s.recordRev (nameOf t n) →
    ((i, t) ∈ ([(.writePlan h p, .plan), (.writeStage h p, .stage), (.writeSchedule h p, .schedule),
        (.writeDetector h p, .detector)] : List (Instr × Table)) ∨
      (s.link.mkey = true ∧ (s.sup.mode = .unconfigured ∨ s.sup.mode = .standby) ∧
        (i, t) ∈ ([(.writeGroup h p, .group), (.writeConflict h p, .conflict), (.writeProfile h p, .profile),
          (.writeCable h p, .cable), (.writeJunction h p, .junction)] : List (Instr × Table))) ∨
      (s.link.mkey = true ∧ (s.sup.mode = .unconfigured ∨ s.sup.mode = .standby ∨ s.sup.mode = .dark) ∧
        i = .writeChannel h p ∧ t = .channel)) →
    exec i s = .next ((s.shiftOut h.clocked).returning h 2 .stale (nameOf t n)))

/-- READ AND PROBE. With nothing in flight, READ of any record of any of the ten tables, in every mode and whatever
MKEY is, answers OK with the record's revision and its whole READ layout, and PROBE of a channel answers OK with the
probe payload; neither changes anything else. The layouts hold, byte by byte, the fields of the table of R188: the
written part first, then the rest, the optional dim part and queue entry behind a presence byte; the probe payload the
fields R98 names, with the learn count or the thresholds B, O, L and U (R14, R44, R86, R98, R113, R126, R146, R186,
R188). The numbers that stand for the named values and the bytes for two-valued fields are the model's reading where
R188 gives none (log entry 8); with no last result the four resistance bytes are left open (log entry 9). -/
def Obligations.ReadAndProbeReturnRecords : Prop :=
  (∀ (s : State) (h : Header), s.ready →
    (∀ (t : Table) (i : Nat), i < t.capacity → h.names t i →
      exec (.read h []) s = .next ((s.shiftOut h.clocked).returning h 1 .ok (nameOf t i))) ∧
    (∀ c : Fin 64, h.names .channel c.val →
      exec (.probe h []) s =
        .next ((s.shiftOut h.clocked).answering h 29 .ok s.channels[c].rev (s.probeLayout c)))) ∧
  ([Aspect.red, .prep, .green, .leaving, .dark].map Aspect.byte = [0, 1, 2, 3, 4] ∧
    [Phase.off, .surge, .settle, .steady, .release].map Phase.byte = [0, 1, 2, 3, 4] ∧
    [none, some BadKind.partialLoss, some .over, some .out, some .stuckOn].map kindByte = [0, 1, 2, 3, 4] ∧
    [TestStatus.none, .pending, .testing, .passed, .failed, .timedOut, .abandoned].map TestStatus.byte =
      [0, 1, 2, 3, 4, 5, 6] ∧
    [RangeMark.aboveRange, .belowRange, .inRange].map RangeMark.byte = [1, 2, 3] ∧
    [TestClass.startup, .retest, .host].map TestClass.byte = [0, 1, 2] ∧
    [Mode.unconfigured, .standby, .starting, .running, .dark, .failsafe, .mainsOut].map Mode.byte =
      [0, 1, 2, 3, 4, 5, 6] ∧
    [Origin.dark, .other].map Origin.byte = [0, 1] ∧
    [none, some Cause.commandConflict, some .provenConflict, some .hostForced, some .redOut, some .vehicleDark,
      some .allBarred].map causeByte = [0, 1, 2, 3, 4, 5, 6] ∧
    [MainsState.locked, .slip1, .mainsLost, .acquiring].map MainsState.byte = [0, 1, 2, 3] ∧
    [PlanSource.schedule, .override].map PlanSource.byte = [0, 1] ∧
    [SeqState.stopped, .allRed, .interstage, .minGreen, .extending, .resting, .suspended].map SeqState.byte =
      [0, 1, 2, 3, 4, 5, 6] ∧
    [none, some StartPhase.darkTest, some .allRed].map phaseByte = [0, 1, 2] ∧
    [DimOverride.follow, .bright, .dim].map DimOverride.byte = [0, 1, 2] ∧
    [BridgeState.idle, .charging, .measuring, .bridgeFault].map BridgeState.byte = [0, 1, 2, 3]) ∧
  (∀ s : State,
    (∀ g : Fin 16, s.layout (nameOf .group g.val) =
      s.groups[g].cfg.bytes ++
        [s.groups[g].aspect.byte,
          BitVec.ofNat 8 (s.groups[g].isolatedCable.toNat + 2 * s.groups[g].redOut.toNat)] ++
        be16 s.groups[g].stateTimer ++ [BitVec.ofNat 8 s.groups[g].sinceGreen]) ∧
    (∀ i : Fin 16, s.layout (nameOf .conflict i.val) = rowBytes s.conflicts[i].entry) ∧
    (∀ c : Fin 64, ∃ part : Part → List Byte,
      (∀ p : Part, part p =
        [yesNo p.learned] ++ be16 p.learnSum ++ [BitVec.ofNat 8 p.learnCount] ++ be16 p.reference ++ be16 p.baseline) ∧
      s.layout (nameOf .channel c.val) =
        s.channels[c].cfg.bytes ++
          [kindByte s.channels[c].verdict, yesNo s.channels[c].learnFailed, firstOf s.channels[c].command,
            s.channels[c].phase.byte, BitVec.ofNat 8 s.channels[c].remaining] ++
          be16 s.channels[c].lastReading.mA ++
          [yesNo s.channels[c].lastReading.saturated, yesNo s.channels[c].seenLit,
            BitVec.ofNat 8 s.channels[c].badStreak, kindByte s.channels[c].worst] ++
          part s.channels[c].bright ++
          (match s.channels[c].dim with
            | none => [0]
            | some p => 1 :: part p)) ∧
    (∀ f : Fin 8, s.layout (nameOf .profile f.val) = s.profiles[f].cfg.bytes) ∧
    (∀ k : Fin 16, ∃ resistance : List Byte,
      resistance.length = 4 ∧ (∀ r, s.cables[k].result = some r → resistance = be32 r.kOhm) ∧
      s.layout (nameOf .cable k.val) =
        s.cables[k].config.bytes ++
          [BitVec.ofNat 8 (s.cables[k].faults.balance.toNat + 2 * s.cables[k].faults.openReturn.toNat +
              4 * s.cables[k].faults.insulation.toNat),
            yesNo s.cables[k].suspect, s.cables[k].status.byte,
            (match s.cables[k].result with
              | none => 0
              | some r => r.mark.byte)] ++
          resistance ++ be16 s.cables[k].lastResidual.mA ++ [yesNo s.cables[k].lastResidual.saturated] ++
          be16 s.cables[k].lastReturn.mA ++ [yesNo s.cables[k].lastReturn.saturated] ++
          [BitVec.ofNat 8 s.cables[k].balanceStreak, BitVec.ofNat 8 s.cables[k].openStreak] ++
          (match s.bridge.queue.find? fun e => e.cable == k with
            | none => [0]
            | some e =>
              [1, e.cls.byte,
                BitVec.ofNat 8 (e.origins.startup.toNat + 2 * e.origins.retest.toNat + 4 * e.origins.host.toNat)] ++
              be32 (e.override.getD 0) ++ be16 e.waiting ++ be16 e.notBefore ++ [yesNo e.underTest])) ∧
    (∀ p : Fin 8, s.layout (nameOf .plan p.val) =
      [BitVec.ofNat 8 s.plans[p].entry.val, BitVec.ofNat 8 s.plans[p].changePoint.val, yesNo s.plans[p].loaded,
        BitVec.ofNat 8 s.plans[p].length]) ∧
    (∀ d : Fin 96, s.layout (nameOf .stage d.val) =
      ({ shape := s.stages[d].shape, timing := s.stages[d].timing } : StageConfig).bytes ++
        [yesNo s.stages[d].isDefined, optByte 8 s.stages[d].owner]) ∧
    (∀ e : Fin 24, s.layout (nameOf .schedule e.val) = s.schedule[e].cfg.bytes) ∧
    (∀ d : Fin 16, s.layout (nameOf .detector d.val) =
      s.detectors[d].cfg.bytes ++
        [yesNo s.detectors[d].faulty, firstOf s.detectors[d].previous, firstOf s.detectors[d].level,
          firstOf s.detectors[d].latch] ++ be16 s.detectors[d].activeRun) ∧
    s.layout (nameOf .junction 0) =
      ({ startRed := s.sup.startRed, sweep := s.sup.sweep, frequency := s.base.frequency } : JunctionConfig).bytes ++
        [s.sup.mode.byte, s.sup.origin.byte, causeByte s.sup.firstCause, BitVec.ofNat 8 s.sup.furtherCauses.toNat,
          BitVec.ofNat 8 s.sup.presentCauses.toNat, s.base.tracker.byte, yesNo s.base.timeValid,
          BitVec.ofNat 8 s.base.time.day, BitVec.ofNat 8 s.base.time.hour, BitVec.ofNat 8 s.base.time.minute,
          BitVec.ofNat 8 s.base.time.second, BitVec.ofNat 8 s.base.time.tenth,
          s.sched.source.byte, BitVec.ofNat 8 s.sched.overridePlan.val, optByte 8 s.seq.running,
          optByte 8 s.seq.pending, optByte 96 s.seq.current, s.seq.state.byte, phaseByte s.sup.phase,
          s.sched.dimOverride.byte, s.sched.dimState.byte, BitVec.ofNat 8 s.sched.dimSettle, s.bridge.state.byte] ∧
    (∀ (c : Fin 64) (isDim : Bool) (p : Part) (f : ProfileConfig) (b : Nat),
      isDim = decide (s.sched.dimState = .dim ∧ s.channels[c].cfg.dimmable = true ∧ s.channels[c].dim.isSome = true) →
      p = (if isDim = true then s.channels[c].dim.getD s.channels[c].bright else s.channels[c].bright) →
      f = s.profiles[s.channels[c].cfg.profile].cfg → b = p.baseline / 16 →
      s.probeLayout c =
        [firstOf s.channels[c].command, s.channels[c].phase.byte, BitVec.ofNat 8 s.channels[c].remaining] ++
          be16 s.channels[c].lastReading.mA ++
          [yesNo s.channels[c].lastReading.saturated, yesNo s.channels[c].seenLit,
            BitVec.ofNat 8 s.channels[c].badStreak, kindByte s.channels[c].worst,
            (if isDim = true then 1 else 0), yesNo p.learned] ++
          (if p.learned = true then
            be16 b ++ be16 (b * f.out / 100) ++ be16 (b * (100 - f.bandLow) / 100) ++
              be16 (b * (100 + f.bandHigh) / 100)
          else [BitVec.ofNat 8 p.learnCount])))

/-- WRITTEN PARTS READ BACK. The written part of each table, and the payload of SET_TIME, stand byte by byte as the
table of R188 gives them, numbers of two and four bytes most significant byte first; and for every value in range
those bytes are read as that value by the WRITE that carries them (R188; R7, R9, R36, R37, R45, R78, R84, R87, R123,
R147, R180, R29). Which byte stands for which value of a two-valued field is the model's reading (log entry 8). -/
def Obligations.WrittenPartsReadBack : Prop :=
  ((∀ g : GroupConfig, g.inRange = true → GroupConfig.parse g.bytes = some g) ∧
  (∀ row : Vector (Option Nat) 16, rowInRange row = true → parseRow (rowBytes row) = some row) ∧
  (∀ c : ChannelConfig, ChannelConfig.parse c.bytes = some c) ∧
  (∀ f : ProfileConfig, f.inRange = true → ProfileConfig.parse f.bytes = some f) ∧
  (∀ k : CableConfig, k.inRange = true → CableConfig.parse k.bytes = some k) ∧
  (∀ p : PlanConfig, PlanConfig.parse p.bytes = some p) ∧
  (∀ d : StageConfig, d.shape.groups ≠ 0 → d.timing.minGreen < 65536 → d.timing.maxGreen < 65536 →
    d.timing.step < 256 → StageConfig.parse d.bytes = some d) ∧
  (∀ e : ScheduleConfig, e.inRange = true → ScheduleConfig.parse e.bytes = some e) ∧
  (∀ d : DetectorConfig, d.inRange = true → DetectorConfig.parse d.bytes = some d) ∧
  (∀ j : JunctionConfig, j.startRed < 256 → JunctionConfig.parse j.bytes = some j) ∧
  (∀ t : TimeOfDay, t.inRange = true → TimeOfDay.parse t.bytes = some t)) ∧
  ((∀ n : Nat, be16 n = [BitVec.ofNat 8 (n / 256), BitVec.ofNat 8 n] ∧
      be32 n = [BitVec.ofNat 8 (n / 16777216), BitVec.ofNat 8 (n / 65536), BitVec.ofNat 8 (n / 256), BitVec.ofNat 8 n]) ∧
    [true, false].map yesNo = [1, 0] ∧ [true, false].map firstOf = [0, 1] ∧
    [Kind.unused, .vehicle, .pedestrian].map Kind.byte = [0, 1, 2] ∧
    [CableState.unused, .monitored, .isolated].map CableState.byte = [0, 1, 2] ∧
    [CableAction.report, .isolate].map CableAction.byte = [0, 1] ∧ [Route.urgent, .notice].map Route.byte = [0, 1] ∧
    [EntryState.empty, .enabled, .disabled].map EntryState.byte = [0, 1, 2] ∧
    [Dimming.bright, .dim].map Dimming.byte = [0, 1] ∧ [Frequency.hz50, .hz60].map Frequency.byte = [50, 60] ∧
    (∀ (n : Nat) (i : Fin n), optByte n (some i) = BitVec.ofNat 8 i.val ∧ optByte n none = 255)) ∧
  (∀ g : GroupConfig, g.bytes =
    [g.kind.byte, yesNo g.secondRed, BitVec.ofNat 8 g.redsRequired, BitVec.ofNat 8 g.prepTime,
      BitVec.ofNat 8 g.leavingTime]) ∧
  (∀ (row : Vector (Option Nat) 16) (j : Fin 16), (rowBytes row).length = 16 ∧
    (rowBytes row)[j.val]? = some (BitVec.ofNat 8 (row[j].getD 0))) ∧
  (∀ c : ChannelConfig, c.bytes = [BitVec.ofNat 8 c.profile.val, optByte 16 c.cable, yesNo c.dimmable]) ∧
  (∀ f : ProfileConfig, f.bytes =
    [BitVec.ofNat 8 f.surgeCode, BitVec.ofNat 8 f.settleCode, BitVec.ofNat 8 f.releaseCode, BitVec.ofNat 8 f.bandLow,
      BitVec.ofNat 8 f.bandHigh, BitVec.ofNat 8 f.out, BitVec.ofNat 8 f.offLimit, BitVec.ofNat 8 f.confirmCount,
      firstOf f.tracking]) ∧
  (∀ k : CableConfig, k.bytes = [k.state.byte, k.action.byte, k.route.byte] ++ be16 k.tolerance ++ be32 k.limit) ∧
  (∀ p : PlanConfig, p.bytes = [BitVec.ofNat 8 p.entry.val, BitVec.ofNat 8 p.changePoint.val]) ∧
  (∀ d : StageConfig, d.bytes =
    be16 d.shape.groups.toNat ++ be16 d.shape.calls.toNat ++ be16 d.shape.holders.toNat ++
      [yesNo d.shape.demand, BitVec.ofNat 8 d.shape.next.val] ++ be16 d.timing.minGreen ++ be16 d.timing.maxGreen ++
      [BitVec.ofNat 8 d.timing.step]) ∧
  (∀ e : ScheduleConfig, e.bytes =
    [e.state.byte, BitVec.ofNat 8 e.days.toNat, BitVec.ofNat 8 e.hour, BitVec.ofNat 8 e.minute,
      BitVec.ofNat 8 e.plan.val, e.dimming.byte]) ∧
  (∀ d : DetectorConfig, d.bytes = [yesNo d.enabled, yesNo d.invert, BitVec.ofNat 8 d.stuckLimit]) ∧
  (∀ j : JunctionConfig, j.bytes = [BitVec.ofNat 8 j.startRed, firstOf j.sweep, j.frequency.byte]) ∧
  (∀ t : TimeOfDay, t.bytes =
    [BitVec.ofNat 8 t.day, BitVec.ofNat 8 t.hour, BitVec.ofNat 8 t.minute, BitVec.ofNat 8 t.second,
      BitVec.ofNat 8 t.tenth])

/-! ## Writes and retirements -/

/-- WRITE PLAN. A write to a PLAN that is not LOADED replaces its entry and change-point descriptors, in every mode;
the revision moves by one where either changed; a descriptor number above 95, or a payload that is not the two bytes,
is refused RANGE; a write to a LOADED plan is refused IN_USE whatever the values carried. Nothing else changes (R36,
R182). That a LOADED plan answers IN_USE to a payload of another length too is the model's choice (log entry 10). -/
def Obligations.WritePlanReplacesEmptyPlan : Prop :=
  ∀ (s : State) (h : Header) (p : Fin 8), s.ready → h.names .plan p.val → s.revisionMatches h (nameOf .plan p.val) →
    (s.plans[p].loaded = false → ∀ cfg : PlanConfig,
      exec (.writePlan h cfg.bytes) s =
        .next (({ s.shiftOut h.clocked with
          plans := s.plans.set p
            { s.plans[p] with
              entry := cfg.entry, changePoint := cfg.changePoint
              rev :=
                if s.plans[p].entry = cfg.entry ∧ s.plans[p].changePoint = cfg.changePoint then s.plans[p].rev
                else s.plans[p].rev + 1 } } : State).returning h 2 .ok (nameOf .plan p.val))) ∧
    (s.plans[p].loaded = true → ∀ payload,
      exec (.writePlan h payload) s = .next (s.refusing h 2 .inUse s.plans[p].rev)) ∧
    (s.plans[p].loaded = false →
      (∀ payload, payload.length ≠ 2 →
        exec (.writePlan h payload) s = .next (s.refusing h 2 .range s.plans[p].rev)) ∧
      (∀ e c : Byte, 95 < e.toNat ∨ 95 < c.toNat →
        exec (.writePlan h [e, c]) s = .next (s.refusing h 2 .range s.plans[p].rev)))

/-- WRITE AND RETIRE STAGE. A write to a STAGE takes the structural fields as carried and the timing clamped in the
order of R38: minimum green to 30 to 600, maximum green to the minimum green to 1200, extension step to 100; the
answer is CLAMPED where a value was clamped. An owned descriptor whose structural fields differ is refused OWNED. A
payload that is not thirteen bytes, names no group, or carries a demand byte above 1 or a next descriptor above 95, is
refused RANGE. A RETIRE of a descriptor without an owner makes it EMPTY with every field at its value after a main
reset; of an owned one it is refused OWNED. The revision moves by one where anything changed, and nothing else changes
(R37, R38, R43, R53, R182). -/
def Obligations.WriteAndRetireStage : Prop :=
  ∀ (s : State) (h : Header) (d : Fin 96), s.ready → h.names .stage d.val →
    (∀ cfg : StageConfig, s.revisionMatches h (nameOf .stage d.val) → cfg.shape.groups ≠ 0 →
      cfg.timing.minGreen < 65536 → cfg.timing.maxGreen < 65536 → cfg.timing.step < 256 →
      (s.stages[d].owner = none ∨ s.stages[d].shape = cfg.shape →
        ∃ timing : StageTiming,
          timing.minGreen = max 30 (min 600 cfg.timing.minGreen) ∧
          timing.maxGreen = max timing.minGreen (min 1200 cfg.timing.maxGreen) ∧
          timing.step = min 100 cfg.timing.step ∧
          exec (.writeStage h cfg.bytes) s =
            .next (({ s.shiftOut h.clocked with
              stages := s.stages.set d
                { isDefined := true, owner := s.stages[d].owner, shape := cfg.shape, timing := timing
                  rev :=
                    if s.stages[d].isDefined = true ∧ s.stages[d].shape = cfg.shape ∧ s.stages[d].timing = timing then
                      s.stages[d].rev
                    else s.stages[d].rev + 1 } } : State).returning h 2
              (if timing = cfg.timing then .ok else .clamped) (nameOf .stage d.val))) ∧
      (s.stages[d].owner ≠ none → s.stages[d].shape ≠ cfg.shape →
        exec (.writeStage h cfg.bytes) s = .next (s.refusing h 2 .owned s.stages[d].rev))) ∧
    (s.stages[d].owner = none →
      ∃ empty : Stage,
        empty.isDefined = false ∧ empty.owner = none ∧
        empty.shape = { groups := 0, calls := 0, holders := 0, demand := false, next := 0 } ∧
        empty.timing = { minGreen := 30, maxGreen := 30, step := 0 } ∧
        empty.rev = (if s.stages[d] = { empty with rev := s.stages[d].rev } then s.stages[d].rev
          else s.stages[d].rev + 1) ∧
        exec (.retireStage h []) s =
          .next (({ s.shiftOut h.clocked with stages := s.stages.set d empty } : State).returning h 3 .ok
            (nameOf .stage d.val))) ∧
    (s.stages[d].owner ≠ none → exec (.retireStage h []) s = .next (s.refusing h 3 .owned s.stages[d].rev)) ∧
    (s.revisionMatches h (nameOf .stage d.val) →
      (∀ payload, payload.length ≠ 13 →
        exec (.writeStage h payload) s = .next (s.refusing h 2 .range s.stages[d].rev)) ∧
      (∀ g1 g0 c1 c0 e1 e0 demand next i1 i0 a1 a0 step : Byte,
        (g1 = 0 ∧ g0 = 0) ∨ 1 < demand.toNat ∨ 95 < next.toNat →
        exec (.writeStage h [g1, g0, c1, c0, e1, e0, demand, next, i1, i0, a1, a0, step]) s =
          .next (s.refusing h 2 .range s.stages[d].rev)))

/-- WRITE AND RETIRE SCHEDULE, WRITE DETECTOR. A write of values in range replaces the six fields of a SCHEDULE
entry; a payload that is not six bytes, or with a state above 2, a day set with bit 7, an hour above 23, a minute
above 59, a plan above 7 or a dimming above 1, is refused RANGE; a RETIRE gives the entry its values after a main
reset. A write to a DETECTOR replaces its three fields, and a change of enabled, either way, leaves the input at
the cleared values; a payload that is not three bytes, or with a yes/no byte above 1 or a stuck limit above 60, is
refused RANGE. In every mode; the revision moves by one where a settled field changed, and nothing else changes
(R45, R54, R78, R182, R188). -/
def Obligations.WriteScheduleAndDetector : Prop :=
  ∀ (s : State) (h : Header), s.ready →
    (∀ (e : Fin 24), h.names .schedule e.val →
      (∀ cfg : ScheduleConfig, s.revisionMatches h (nameOf .schedule e.val) →
        (cfg.hour ≤ 23 → cfg.minute ≤ 59 →
          exec (.writeSchedule h cfg.bytes) s =
            .next (({ s.shiftOut h.clocked with
              schedule := s.schedule.set e
                { cfg := cfg, rev := if s.schedule[e].cfg = cfg then s.schedule[e].rev else s.schedule[e].rev + 1 } }
              : State).returning h 2 .ok (nameOf .schedule e.val))) ∧
        (cfg.hour < 256 → cfg.minute < 256 → 23 < cfg.hour ∨ 59 < cfg.minute →
          exec (.writeSchedule h cfg.bytes) s = .next (s.refusing h 2 .range s.schedule[e].rev))) ∧
      (∃ empty : ScheduleEntry,
        empty.cfg = { state := .empty, days := 0, hour := 0, minute := 0, plan := 0, dimming := .bright } ∧
        empty.rev = (if s.schedule[e].cfg = empty.cfg then s.schedule[e].rev else s.schedule[e].rev + 1) ∧
        exec (.retireSchedule h []) s =
          .next (({ s.shiftOut h.clocked with schedule := s.schedule.set e empty } : State).returning h 3 .ok
            (nameOf .schedule e.val)))) ∧
    (∀ (d : Fin 16) (cfg : DetectorConfig), h.names .detector d.val → s.revisionMatches h (nameOf .detector d.val) →
      (cfg.stuckLimit ≤ 60 →
        ∃ x : Detector,
          x.cfg = cfg ∧ x.rev = (if s.detectors[d].cfg = cfg then s.detectors[d].rev else s.detectors[d].rev + 1) ∧
          (s.detectors[d].cfg.enabled = cfg.enabled → x = { s.detectors[d] with cfg := cfg, rev := x.rev }) ∧
          (s.detectors[d].cfg.enabled ≠ cfg.enabled →
            x.faulty = false ∧ x.previous = false ∧ x.level = false ∧ x.latch = false ∧ x.activeRun = 0) ∧
          exec (.writeDetector h cfg.bytes) s =
            .next (({ s.shiftOut h.clocked with detectors := s.detectors.set d x } : State).returning h 2 .ok
              (nameOf .detector d.val))) ∧
      (60 < cfg.stuckLimit → cfg.stuckLimit < 256 →
        exec (.writeDetector h cfg.bytes) s = .next (s.refusing h 2 .range s.detectors[d].rev))) ∧
    (∀ e : Fin 24, h.names .schedule e.val → s.revisionMatches h (nameOf .schedule e.val) →
      (∀ payload, payload.length ≠ 6 →
        exec (.writeSchedule h payload) s = .next (s.refusing h 2 .range s.schedule[e].rev)) ∧
      (∀ state days hour minute plan dimming : Byte,
        2 < state.toNat ∨ 127 < days.toNat ∨ 23 < hour.toNat ∨ 59 < minute.toNat ∨ 7 < plan.toNat ∨
          1 < dimming.toNat →
        exec (.writeSchedule h [state, days, hour, minute, plan, dimming]) s =
          .next (s.refusing h 2 .range s.schedule[e].rev))) ∧
    (∀ d : Fin 16, h.names .detector d.val → s.revisionMatches h (nameOf .detector d.val) →
      (∀ payload, payload.length ≠ 3 →
        exec (.writeDetector h payload) s = .next (s.refusing h 2 .range s.detectors[d].rev)) ∧
      (∀ enabled invert limit : Byte, 1 < enabled.toNat ∨ 1 < invert.toNat ∨ 60 < limit.toNat →
        exec (.writeDetector h [enabled, invert, limit]) s = .next (s.refusing h 2 .range s.detectors[d].rev)))

/-- WRITE GROUP. With the key turned, in UNCONFIGURED or STANDBY, a write of values in range replaces the five fields
of a GROUP; STANDBY returns to UNCONFIGURED with (JUNCTION, 0) posted to PLAN and every group that was not DARK RED;
the dark causes of every group follow from the records (ISOLATED_CABLE: a used channel on an ISOLATED cable; RED_OUT:
PEDESTRIAN and short of reds), and so do the fail-safe conditions; every group's revision moves by one where a settled
field changed. No other field of any group, and no other record, timer or block state, changes. A payload that is not
five bytes, or with a kind above 2, a yes/no byte above 1, reds required not 1 or 2, a prep time above 30 or a leaving
time outside 20 to 200, is refused RANGE (R1, R7, R56, R76, R146, R148, R155, R156, R182). That all this is one event
is the model's reading (log entry 7). -/
def Obligations.WriteGroupReplacesFields : Prop :=
  (∀ (s : State) (h : Header) (g : Fin 16) (cfg : GroupConfig), s.ready → h.names .group g.val →
    s.link.mkey = true → (s.sup.mode = .unconfigured ∨ s.sup.mode = .standby) →
    s.revisionMatches h (nameOf .group g.val) →
    1 ≤ cfg.redsRequired → cfg.redsRequired ≤ 2 → cfg.prepTime ≤ 30 → 20 ≤ cfg.leavingTime →
    cfg.leavingTime ≤ 200 →
    ∃ t, exec (.writeGroup h cfg.bytes) s = .next t ∧
      t.sup.mode = .unconfigured ∧
      t.groups[g].cfg = cfg ∧ (∀ j : Fin 16, j ≠ g → t.groups[j].cfg = s.groups[j].cfg) ∧
      (∀ j : Fin 16,
        (t.groups[j].isolatedCable = true ↔
          ∃ slot : Fin 4, t.used (channelOf j slot) = true ∧ t.onIsolated (channelOf j slot) = true) ∧
        (t.groups[j].redOut = true ↔ t.groups[j].cfg.kind = .pedestrian ∧
          t.availableReds j < t.groups[j].cfg.redsRequired) ∧
        t.groups[j].rev =
          (if s.groups[j].settled = t.groups[j].settled then s.groups[j].rev else s.groups[j].rev + 1)) ∧
      t.sup.presentCauses = (s.sup.presentCauses &&& ackCauses) ||| t.conditions ∧
      t.link = s.link.answered h (h.reply 2 .ok t.groups[g].rev t.groups[g].layout) ∧
      (s.sup.mode = .unconfigured →
        t = { s with
          link := t.link, groups := t.groups
          junctionRev :=
            if s.sup.presentCauses = t.sup.presentCauses then s.junctionRev else s.junctionRev + 1
          sup := { s.sup with presentCauses := t.sup.presentCauses } } ∧
        (∀ j : Fin 16,
          t.groups[j] = { s.groups[j] with
            cfg := t.groups[j].cfg, isolatedCable := t.groups[j].isolatedCable, redOut := t.groups[j].redOut
            rev := t.groups[j].rev })) ∧
      (s.sup.mode = .standby →
        t = { s with
          link := t.link, groups := t.groups, junctionRev := s.junctionRev + 1
          sup := { s.sup.idledIn .unconfigured false with presentCauses := t.sup.presentCauses }
          seq := s.seq.emptied .stopped, port := Machine.allOff
          attn := s.attn.post .plan (nameOf .junction 0) } ∧
        (∀ j : Fin 16,
          t.groups[j] = { s.groups[j].turnedRed with
            cfg := t.groups[j].cfg, isolatedCable := t.groups[j].isolatedCable, redOut := t.groups[j].redOut
            rev := t.groups[j].rev }))) ∧
  (∀ (s : State) (h : Header) (g : Fin 16), s.ready → h.names .group g.val → s.link.mkey = true →
    (s.sup.mode = .unconfigured ∨ s.sup.mode = .standby) → s.revisionMatches h (nameOf .group g.val) →
    (∀ payload, payload.length ≠ 5 →
      exec (.writeGroup h payload) s = .next (s.refusing h 2 .range s.groups[g].rev)) ∧
    (∀ kind second reds prep leaving : Byte,
      2 < kind.toNat ∨ 1 < second.toNat ∨ reds.toNat < 1 ∨ 2 < reds.toNat ∨ 30 < prep.toNat ∨ leaving.toNat < 20 ∨
        200 < leaving.toNat →
      exec (.writeGroup h [kind, second, reds, prep, leaving]) s = .next (s.refusing h 2 .range s.groups[g].rev)))

/-- WRITE CONFLICT AND PROFILE. With the key turned, in UNCONFIGURED, a write of sixteen entries in range replaces the
row, and a write of nine values in range replaces the PROFILE, with the streaks of the channels that name a changed
profile ended; the revision moves by one where something changed, and nothing else changes. In STANDBY the same is
done at one event with the return to UNCONFIGURED, posted to PLAN. An entry above 250, a profile value outside its
range or with out not below 100 less band low, or a payload of another length, is refused RANGE (R9, R11, R87, R88,
R148, R182). -/
def Obligations.WriteConflictAndProfile : Prop :=
  ∀ (s : State) (h : Header), s.ready → s.link.mkey = true →
    (∀ (i : Fin 16) (row : Vector (Option Nat) 16), h.names .conflict i.val →
      s.revisionMatches h (nameOf .conflict i.val) →
      (∀ (j : Fin 16) (n : Nat), row[j] = some n → 1 ≤ n ∧ n ≤ 250) →
      ∃ x : ConflictRow,
        x.entry = row ∧ x.rev = (if s.conflicts[i].entry = row then s.conflicts[i].rev else s.conflicts[i].rev + 1) ∧
        (s.sup.mode = .unconfigured →
          exec (.writeConflict h (rowBytes row)) s =
            .next (({ s.shiftOut h.clocked with conflicts := s.conflicts.set i x } : State).returning h 2 .ok
              (nameOf .conflict i.val))) ∧
        (s.sup.mode = .standby →
          exec (.writeConflict h (rowBytes row)) s =
            .next ((event (fun u => ({ u with conflicts := u.conflicts.set i x } : State).changeMode .unconfigured .plan)
              (s.shiftOut h.clocked)).returning h 2 .ok (nameOf .conflict i.val)))) ∧
    (∀ (f : Fin 8) (cfg : ProfileConfig), h.names .profile f.val →
      s.revisionMatches h (nameOf .profile f.val) →
      cfg.surgeCode ≤ 15 → cfg.settleCode ≤ 15 → cfg.releaseCode ≤ 15 → 5 ≤ cfg.bandLow → cfg.bandLow ≤ 50 →
      5 ≤ cfg.bandHigh → cfg.bandHigh ≤ 100 → 5 ≤ cfg.out → cfg.out ≤ 90 → cfg.out + cfg.bandLow < 100 →
      2 ≤ cfg.offLimit → cfg.offLimit ≤ 200 → 1 ≤ cfg.confirmCount → cfg.confirmCount ≤ 15 →
      ∃ (x : Profile) (channels : Vector Channel 64),
        x.cfg = cfg ∧ x.rev = (if s.profiles[f].cfg = cfg then s.profiles[f].rev else s.profiles[f].rev + 1) ∧
        (∀ c : Fin 64, channels[c] =
          if s.profiles[f].cfg ≠ cfg ∧ s.channels[c].cfg.profile = f then
            { s.channels[c] with badStreak := 0, worst := none }
          else s.channels[c]) ∧
        (s.sup.mode = .unconfigured →
          exec (.writeProfile h cfg.bytes) s =
            .next (({ s.shiftOut h.clocked with profiles := s.profiles.set f x, channels := channels } :
              State).returning h 2 .ok (nameOf .profile f.val))) ∧
        (s.sup.mode = .standby →
          exec (.writeProfile h cfg.bytes) s =
            .next ((event
              (fun u => ({ u with profiles := u.profiles.set f x, channels := channels } :
                State).changeMode .unconfigured .plan)
              (s.shiftOut h.clocked)).returning h 2 .ok (nameOf .profile f.val)))) ∧
    ((s.sup.mode = .unconfigured ∨ s.sup.mode = .standby) →
      (∀ i : Fin 16, h.names .conflict i.val → s.revisionMatches h (nameOf .conflict i.val) →
        ∀ payload : List Byte, payload.length ≠ 16 ∨ (∃ b ∈ payload, 250 < b.toNat) →
          exec (.writeConflict h payload) s = .next (s.refusing h 2 .range s.conflicts[i].rev)) ∧
      (∀ f : Fin 8, h.names .profile f.val → s.revisionMatches h (nameOf .profile f.val) →
        (∀ payload, payload.length ≠ 9 →
          exec (.writeProfile h payload) s = .next (s.refusing h 2 .range s.profiles[f].rev)) ∧
        (∀ surge settle release low high out off confirm tracking : Byte,
          15 < surge.toNat ∨ 15 < settle.toNat ∨ 15 < release.toNat ∨ low.toNat < 5 ∨ 50 < low.toNat ∨
            high.toNat < 5 ∨ 100 < high.toNat ∨ out.toNat < 5 ∨ 90 < out.toNat ∨ 100 ≤ out.toNat + low.toNat ∨
            off.toNat < 2 ∨ 200 < off.toNat ∨ confirm.toNat < 1 ∨ 15 < confirm.toNat ∨ 1 < tracking.toNat →
          exec (.writeProfile h [surge, settle, release, low, high, out, off, confirm, tracking]) s =
            .next (s.refusing h 2 .range s.profiles[f].rev))))

/-- WRITE CHANNEL. With the key turned, in UNCONFIGURED, STANDBY or DARK, a write replaces the profile, the cable and
dimmable. A changed profile or dimmable ends the streak; a dim part appears UNLEARNED and empty, or is discarded, with
a change of dimmable; the revision moves by one where a field changed; and every group's ISOLATED_CABLE follows.
Nothing else changes: the cable on which the channel is counted stays until the next cycle tick. A write that names an
UNUSED cable outside UNCONFIGURED answers INVALID, CABLE_UNUSED, and changes nothing; a payload that is not three
bytes, or with a profile above 7, a cable that is neither 0 to 15 nor 255 or a yes/no byte above 1, is refused RANGE
(R84, R85, R76, R182, R187). -/
def Obligations.WriteChannelReplacesFields : Prop :=
  ∀ (s : State) (h : Header) (c : Fin 64) (cfg : ChannelConfig), s.ready → h.names .channel c.val →
    s.link.mkey = true → (s.sup.mode = .unconfigured ∨ s.sup.mode = .standby ∨ s.sup.mode = .dark) →
    s.revisionMatches h (nameOf .channel c.val) →
    ((s.sup.mode = .unconfigured ∨ ∀ k, cfg.cable = some k → s.cables[k].state ≠ .unused) →
      ∃ t, exec (.writeChannel h cfg.bytes) s = .next t ∧
        t.channels[c].cfg = cfg ∧
        t.channels[c].rev = (if s.channels[c].cfg = cfg then s.channels[c].rev else s.channels[c].rev + 1) ∧
        (s.channels[c].cfg.profile = cfg.profile ∧ s.channels[c].cfg.dimmable = cfg.dimmable →
          t.channels[c].badStreak = s.channels[c].badStreak ∧ t.channels[c].worst = s.channels[c].worst) ∧
        (¬(s.channels[c].cfg.profile = cfg.profile ∧ s.channels[c].cfg.dimmable = cfg.dimmable) →
          t.channels[c].badStreak = 0 ∧ t.channels[c].worst = none) ∧
        t.channels[c].dim =
          (if s.channels[c].cfg.dimmable = cfg.dimmable then s.channels[c].dim
            else if cfg.dimmable = true then
              some { learned := false, learnSum := 0, learnCount := 0, reference := 0, baseline := 0 }
            else none) ∧
        t.channels[c] = { s.channels[c] with
          cfg := t.channels[c].cfg, dim := t.channels[c].dim, badStreak := t.channels[c].badStreak
          worst := t.channels[c].worst, rev := t.channels[c].rev } ∧
        (∀ x : Fin 64, x ≠ c → t.channels[x] = s.channels[x]) ∧
        (∀ j : Fin 16,
          (t.groups[j].isolatedCable = true ↔
            ∃ slot : Fin 4, t.used (channelOf j slot) = true ∧ t.onIsolated (channelOf j slot) = true) ∧
          t.groups[j] = { s.groups[j] with
            isolatedCable := t.groups[j].isolatedCable
            rev := if s.groups[j].isolatedCable = t.groups[j].isolatedCable then s.groups[j].rev
              else s.groups[j].rev + 1 }) ∧
        t.link = s.link.answered h (h.reply 2 .ok t.channels[c].rev t.channels[c].layout) ∧
        t = { s with link := t.link, channels := t.channels, groups := t.groups }) ∧
    (s.sup.mode ≠ .unconfigured → ∀ k, cfg.cable = some k → s.cables[k].state = .unused →
      exec (.writeChannel h cfg.bytes) s =
        .next ((s.shiftOut h.clocked).setSlot
          { status := .invalid, command := 2, table := 3, index := b8 c.val, revision := s.channels[c].rev
            payload := [16, 0] })) ∧
    (∀ payload, payload.length ≠ 3 →
      exec (.writeChannel h payload) s = .next (s.refusing h 2 .range s.channels[c].rev)) ∧
    (∀ profile cable dimmable : Byte, 7 < profile.toNat ∨ (15 < cable.toNat ∧ cable ≠ 255) ∨ 1 < dimmable.toNat →
      exec (.writeChannel h [profile, cable, dimmable]) s = .next (s.refusing h 2 .range s.channels[c].rev))

/-- WRITE CABLE. With the key turned, in UNCONFIGURED or STANDBY, a write of values in range sets action, route,
tolerance and limit. A carried MONITORED makes an UNUSED cable MONITORED with both streaks 0 and leaves another as it
is. A carried UNUSED makes the cable UNUSED: a MONITORED or ISOLATED one loses its latched faults, its suspect mark,
both streaks and its queue entry, with the test status ABANDONED where it had one, the bridge withdrawn where that
entry was under test, and (CABLE, k) posted to NOTICE where HOST was in its origins; and leaving ISOLATED has every
group's ISOLATED_CABLE worked out afresh. STANDBY returns to UNCONFIGURED, posted to PLAN, with every group that was
not DARK RED. The last result and readings stay, and nothing else changes. A payload that is not nine bytes, or with a
state, action or route byte above 1, a tolerance outside 5 to 500 or a limit outside 100 to 100,000, is refused RANGE
(R56, R76, R124, R125, R142, R143, R148, R182). -/
def Obligations.WriteCableActsByState : Prop :=
  (∀ (s : State) (h : Header) (k : Fin 16) (cfg : CableConfig), s.ready → h.names .cable k.val →
    s.link.mkey = true → (s.sup.mode = .unconfigured ∨ s.sup.mode = .standby) →
    s.revisionMatches h (nameOf .cable k.val) → cfg.state ≠ .isolated → 5 ≤ cfg.tolerance → cfg.tolerance ≤ 500 →
    100 ≤ cfg.limit → cfg.limit ≤ 100000 →
    ∃ (t : State) (had : Option QueueEntry) (released : Bool) (attn : Attention),
      exec (.writeCable h cfg.bytes) s = .next t ∧
      had = s.bridge.queue.find? (fun e => e.cable == k) ∧
      (released = true ↔ cfg.state = .unused ∧ s.cables[k].state ≠ .unused) ∧
      t.cables[k].action = cfg.action ∧ t.cables[k].route = cfg.route ∧
      t.cables[k].tolerance = cfg.tolerance ∧ t.cables[k].limit = cfg.limit ∧
      t.cables[k].result = s.cables[k].result ∧ t.cables[k].lastResidual = s.cables[k].lastResidual ∧
      t.cables[k].lastReturn = s.cables[k].lastReturn ∧
      t.cables[k].rev =
        (if s.cables[k].settled = t.cables[k].settled then s.cables[k].rev else s.cables[k].rev + 1) ∧
      (cfg.state = .monitored →
        t.cables[k].state = (if s.cables[k].state = .unused then .monitored else s.cables[k].state) ∧
        t.cables[k].balanceStreak = (if s.cables[k].state = .unused then 0 else s.cables[k].balanceStreak) ∧
        t.cables[k].openStreak = (if s.cables[k].state = .unused then 0 else s.cables[k].openStreak)) ∧
      (cfg.state = .unused → t.cables[k].state = .unused) ∧
      (released = false →
        t.cables[k].faults = s.cables[k].faults ∧ t.cables[k].suspect = s.cables[k].suspect ∧
        t.cables[k].status = s.cables[k].status ∧ t.bridge = s.bridge ∧
        (cfg.state = .unused →
          t.cables[k].balanceStreak = s.cables[k].balanceStreak ∧ t.cables[k].openStreak = s.cables[k].openStreak)) ∧
      (released = true →
        t.cables[k].faults = { balance := false, openReturn := false, insulation := false } ∧
        t.cables[k].suspect = false ∧ t.cables[k].balanceStreak = 0 ∧ t.cables[k].openStreak = 0 ∧
        (had = none → t.bridge = s.bridge ∧ t.cables[k].status = s.cables[k].status) ∧
        (∀ e, had = some e →
          t.cables[k].status = .abandoned ∧
          t.bridge =
            { state := if e.underTest = true then .idle else s.bridge.state
              underTest := if e.underTest = true then none else s.bridge.underTest
              timer := if e.underTest = true then none else s.bridge.timer
              selection := if e.underTest = true then .nothing else s.bridge.selection
              queue := s.bridge.queue.filter fun x => x.cable ≠ k })) ∧
      (∀ j : Fin 16, j ≠ k → t.cables[j] = s.cables[j]) ∧
      (∀ g : Fin 16,
        t.groups[g] = { (if s.sup.mode = .standby then s.groups[g].turnedRed else s.groups[g]) with
          isolatedCable := t.groups[g].isolatedCable
          rev := if s.groups[g].settled = t.groups[g].settled then s.groups[g].rev else s.groups[g].rev + 1 } ∧
        (cfg.state = .unused → s.cables[k].state = .isolated →
          (t.groups[g].isolatedCable = true ↔
            ∃ slot : Fin 4, t.used (channelOf g slot) = true ∧ t.onIsolated (channelOf g slot) = true)) ∧
        (cfg.state ≠ .unused ∨ s.cables[k].state ≠ .isolated →
          t.groups[g].isolatedCable = s.groups[g].isolatedCable)) ∧
      attn =
        (if released = true ∧ (∃ e, had = some e ∧ e.origins.host = true) then
          s.attn.post .notice (nameOf .cable k.val)
        else s.attn) ∧
      t.link = s.link.answered h (h.reply 2 .ok t.cables[k].rev (Cable.layout k t.cables[k] (t.bridge.entryOf k))) ∧
      (s.sup.mode = .standby → t.junctionRev = s.junctionRev + 1) ∧
      (s.sup.mode = .unconfigured → t.junctionRev =
        if s.bridge.state = .bridgeFault ∧ t.bridge.state ≠ .bridgeFault then s.junctionRev + 1 else s.junctionRev) ∧
      t = { s with
        link := t.link, cables := t.cables, bridge := t.bridge, groups := t.groups
        attn := if s.sup.mode = .standby then attn.post .plan (nameOf .junction 0) else attn
        sup := if s.sup.mode = .standby then s.sup.idledIn .unconfigured false else s.sup
        seq := if s.sup.mode = .standby then s.seq.emptied .stopped else s.seq
        port := if s.sup.mode = .standby then Machine.allOff else s.port
        junctionRev := t.junctionRev }) ∧
  (∀ (s : State) (h : Header) (k : Fin 16), s.ready → h.names .cable k.val → s.link.mkey = true →
    (s.sup.mode = .unconfigured ∨ s.sup.mode = .standby) → s.revisionMatches h (nameOf .cable k.val) →
    (∀ payload, payload.length ≠ 9 →
      exec (.writeCable h payload) s = .next (s.refusing h 2 .range s.cables[k].rev)) ∧
    (∀ state action route t1 t0 l3 l2 l1 l0 : Byte,
      1 < state.toNat ∨ 1 < action.toNat ∨ 1 < route.toNat ∨ t1.toNat * 256 + t0.toNat < 5 ∨
        500 < t1.toNat * 256 + t0.toNat ∨
        ((l3.toNat * 256 + l2.toNat) * 256 + l1.toNat) * 256 + l0.toNat < 100 ∨
        100000 < ((l3.toNat * 256 + l2.toNat) * 256 + l1.toNat) * 256 + l0.toNat →
      exec (.writeCable h [state, action, route, t1, t0, l3, l2, l1, l0]) s =
        .next (s.refusing h 2 .range s.cables[k].rev)))

/-- WRITE JUNCTION. With the key turned, in UNCONFIGURED or STANDBY, a write takes the pre-start sweep and the nominal
frequency, and the start red time clamped to 30 to 200 tenths, answering CLAMPED where it was clamped. A changed
frequency makes a tracker in LOCKED, SLIP1 or ACQUIRING start again in ACQUIRING with no reference and a good count of
0, its tenths from the crystal; in MAINS_LOST only the frequency changes. The mode stays (no return to UNCONFIGURED),
the revision moves by one where a field changed, and nothing else changes. A payload that is not three bytes, or with
a sweep byte above 1 or a frequency byte neither 50 nor 60, is refused RANGE (R25, R147, R182, R188). -/
def Obligations.WriteJunctionSettings : Prop :=
  (∀ (s : State) (h : Header) (cfg : JunctionConfig), s.ready → h.names .junction 0 →
    s.link.mkey = true → (s.sup.mode = .unconfigured ∨ s.sup.mode = .standby) →
    s.revisionMatches h (nameOf .junction 0) → cfg.startRed < 256 →
    ∃ (red : Nat) (base : TimeBase),
      red = max 30 (min 200 cfg.startRed) ∧
      (cfg.frequency = s.base.frequency → base = s.base) ∧
      (cfg.frequency ≠ s.base.frequency → s.base.tracker = .mainsLost →
        base = { s.base with frequency := cfg.frequency }) ∧
      (cfg.frequency ≠ s.base.frequency → s.base.tracker ≠ .mainsLost →
        base = { s.base with
          frequency := cfg.frequency, tracker := .acquiring, reference := none, goodCount := 0
          source := .crystal, divider := 0, crystalCount := 0 }) ∧
      exec (.writeJunction h cfg.bytes) s =
        .next (({ s.shiftOut h.clocked with
          sup := { s.sup with startRed := red, sweep := cfg.sweep }
          base := base
          junctionRev :=
            if s.sup.startRed = red ∧ s.sup.sweep = cfg.sweep ∧ s.base.frequency = cfg.frequency then s.junctionRev
            else s.junctionRev + 1 } : State).returning h 2 (if red = cfg.startRed then .ok else .clamped)
          (nameOf .junction 0))) ∧
  (∀ (s : State) (h : Header), s.ready → h.names .junction 0 → s.link.mkey = true →
    (s.sup.mode = .unconfigured ∨ s.sup.mode = .standby) → s.revisionMatches h (nameOf .junction 0) →
    (∀ payload, payload.length ≠ 3 →
      exec (.writeJunction h payload) s = .next (s.refusing h 2 .range s.junctionRev)) ∧
    (∀ red sweep frequency : Byte, 1 < sweep.toNat ∨ (frequency ≠ 50 ∧ frequency ≠ 60) →
      exec (.writeJunction h [red, sweep, frequency]) s = .next (s.refusing h 2 .range s.junctionRev)))

/-- RETIRE PLAN. A plan that is running or pending is refused IN_USE, and so, outside UNCONFIGURED, is the only LOADED
one. Another LOADED plan becomes EMPTY with chain length 0, each descriptor it owned loses its owner, each changed
record's revision moves by one, and the requested plan is worked out again; an EMPTY plan answers OK with nothing
changed (R42, R49). -/
def Obligations.RetirePlanReleasesStages : Prop :=
  ∀ (s : State) (h : Header) (p : Fin 8), s.ready → h.names .plan p.val →
    ((s.seq.running = some p ∨ s.seq.pending = some p) →
      exec (.retirePlan h []) s = .next (s.refusing h 3 .inUse s.plans[p].rev)) ∧
    (s.seq.running ≠ some p → s.seq.pending ≠ some p →
      (s.plans[p].loaded = false →
        exec (.retirePlan h []) s = .next ((s.shiftOut h.clocked).returning h 3 .ok (nameOf .plan p.val))) ∧
      (s.plans[p].loaded = true → s.sup.mode ≠ .unconfigured →
        (∀ q : Fin 8, q ≠ p → s.plans[q].loaded = false) →
        exec (.retirePlan h []) s = .next (s.refusing h 3 .inUse s.plans[p].rev)) ∧
      (s.plans[p].loaded = true → (s.sup.mode = .unconfigured ∨ ∃ q : Fin 8, q ≠ p ∧ s.plans[q].loaded = true) →
        ∃ stages : Vector Stage 96,
          (∀ d : Fin 96, stages[d] =
            if s.stages[d].owner = some p then { s.stages[d] with owner := none, rev := s.stages[d].rev + 1 }
            else s.stages[d]) ∧
          exec (.retirePlan h []) s =
            .next ((event
              (fun u => ({ u with
                plans := u.plans.set p
                  { u.plans[p] with loaded := false, length := 0, rev := u.plans[p].rev + 1 }
                stages := stages } : State).workOutRequested)
              (s.shiftOut h.clocked)).returning h 3 .ok (nameOf .plan p.val))))

/-! ## Loading, committing and starting -/

/-- TAKEN INTO FLIGHT. LOAD_PLAN of a plan that is not both LOADED and in use (running or pending), and COMMIT made with the
key turned in UNCONFIGURED, go in flight: the slot takes NOT_READY echoing the command, the command is in flight, and
nothing else changes. LOAD_PLAN of a LOADED plan that is running or pending is refused IN_USE, and COMMIT with the key
turned in another mode MODE (R39, R161, R183). -/
def Obligations.LoadAndCommitGoInFlight : Prop :=
  ∀ (s : State) (h : Header), s.ready →
    (∀ p : Fin 8, h.names .plan p.val →
      (s.plans[p].loaded = false ∨ (s.seq.running ≠ some p ∧ s.seq.pending ≠ some p) →
        exec (.loadPlan h []) s =
          .next { s with link :=
            { s.link.answered h (h.reply 17 .notReady s.plans[p].rev []) with
              inFlight := some { work := .loadPlan p, table := h.table, index := h.index } } }) ∧
      (s.plans[p].loaded = true → (s.seq.running = some p ∨ s.seq.pending = some p) →
        exec (.loadPlan h []) s = .next (s.refusing h 17 .inUse s.plans[p].rev))) ∧
    (s.link.mkey = true →
      (s.sup.mode = .unconfigured →
        exec (.commit h []) s =
          .next { s with link :=
            { s.link.answered h (h.reply 16 .notReady 0 []) with
              inFlight := some { work := .commit, table := h.table, index := h.index } } }) ∧
      (s.sup.mode ≠ .unconfigured → exec (.commit h []) s = .next (s.refusing h 16 .mode 0)))

/-- LOAD_PLAN ENDS. With LOAD_PLAN of p in flight: where the chain check fails, the outcome INVALID names the failing STAGE
and the check, and nothing else changes; where the chain closes, the plan is LOADED with the chain's length, every
descriptor of the chain is owned by it, the requested plan is worked out again for a plan that was EMPTY, and the outcome
OK returns the PLAN record; in both the command is in flight no longer. With no LOAD_PLAN in flight nothing happens, which
is the model's choice (log entry 5) (R40, R41, R49, R183, R187). -/
def Obligations.LoadPlanOutcome : Prop :=
  ∀ s : State, s.base.mainPower = true →
    (∀ (f : InFlight) (p : Fin 8), s.link.inFlight = some f → f.work = .loadPlan p →
      (∀ (d : Fin 96) (k : Check), s.chainCheck p = .failed d k →
        exec .loadPlanComplete s =
          .next { s with link := { s.link with
            inFlight := none
            slot :=
              { status := .invalid, command := 17, table := 7, index := b8 d.val, revision := s.stages[d].rev
                payload := [k.code, 0] } } }) ∧
      (∀ (n : Nat) (passed : List (Fin 96)), s.chainCheck p = .closed n passed →
        ∃ (x : Plan) (stages : Vector Stage 96) (t : State),
          x = { s.plans[p] with
            loaded := true, length := n
            rev := if s.plans[p].loaded = true ∧ s.plans[p].length = n then s.plans[p].rev else s.plans[p].rev + 1 } ∧
          (∀ d : Fin 96, stages[d] =
            if d ∈ passed ∧ s.stages[d].owner ≠ some p then
              { s.stages[d] with owner := some p, rev := s.stages[d].rev + 1 }
            else s.stages[d]) ∧
          t = event (fun u =>
            if s.plans[p].loaded = true then { u with plans := u.plans.set p x, stages := stages }
            else ({ u with plans := u.plans.set p x, stages := stages } : State).workOutRequested) s ∧
          exec .loadPlanComplete s =
            .next { t with link := { s.link with
              inFlight := none
              slot :=
                { status := .ok, command := 17, table := f.table, index := f.index, revision := x.rev
                  payload := x.layout } } })) ∧
    ((s.link.inFlight = none ∨ ∃ f, s.link.inFlight = some f ∧ f.work = .commit) → exec .loadPlanComplete s = .next s)

/-- COMMIT ENDS. With COMMIT in flight in UNCONFIGURED: where a check fails, the outcome INVALID names the first
failing record with its revision, the check and the column or plan number, and nothing else changes; where every check
passes, the mode becomes STANDBY at one event, posted to PLAN, the entry in force is then worked out, and the outcome
is OK; in both the command is in flight no longer. That the working-out is an event of its own beside the mode's is
the model's reading (log entry 7). With no COMMIT in flight nothing happens, which is the model's choice (log entry 5)
(R47, R148, R162, R164, R183, R187). -/
def Obligations.CommitOutcome : Prop :=
  ∀ s : State, s.base.mainPower = true →
    (∀ f : InFlight, s.link.inFlight = some f → f.work = .commit → s.sup.mode = .unconfigured →
      (∀ x : Failure, s.commitFailure = some x →
        exec .commitComplete s =
          .next { s with link := { s.link with
            inFlight := none
            slot :=
              { status := .invalid, command := 16, table := b8 x.record.table.code, index := b8 x.record.index
                revision := s.recordRev x.record, payload := [x.check.code, b8 x.extra] } } }) ∧
      (s.commitFailure = none →
        exec .commitComplete s =
          .next ((event (fun u => u.changeMode .standby .plan) s).workOutEntry.mapLink fun l =>
            { l with
              inFlight := none
              slot :=
                { status := .ok, command := 16, table := f.table, index := f.index, revision := 0, payload := [] } }))) ∧
    ((s.link.inFlight = none ∨ ∃ f p, s.link.inFlight = some f ∧ f.work = .loadPlan p) →
      exec .commitComplete s = .next s)

/-- THE CHECKS SHOW WHAT THEY SHOULD. A chain closes exactly where there are 2 to 12 descriptors, all different, that
run from the entry descriptor by their next links and back to it, each DEFINED, owned by no other plan and naming no
UNUSED group and no two groups that conflict, and that hold the change point. A failure is the first of the walk: at
the descriptor reached, the first of checks 1 to 4 that it fails; at one that passed, TOO_SHORT where the first leads
to itself, REPEATED where its next link names one passed, TOO_LONG at the twelfth; and, of a chain that closed,
CHANGE_POINT_OFF_CHAIN. A configuration passes COMMIT exactly where it meets every group, conflict and channel
condition, has a LOADED plan, and every LOADED plan's chain closes; the failure reported is that of the first step
that fails, at its lowest record or entry, with the first condition that fails there. The check codes are 1 to 18 in
the manual's order (R8, R12, R13, R40, R162, R163, R187). -/
def Obligations.ChecksAreSound : Prop :=
  (∀ (s : State) (p : Fin 8) (n : Nat) (passed : List (Fin 96)),
    s.chainCheck p = .closed n passed ↔ s.closes p passed ∧ n = passed.length ∧ s.plans[p].changePoint ∈ passed) ∧
  (∀ (s : State) (p : Fin 8) (d : Fin 96) (k : Check), s.chainCheck p = .failed d k →
    ∃ passed : List (Fin 96), s.walked p passed ∧
      ((passed.length < 12 ∧ d ∉ passed ∧
          d = (match passed.getLast? with
            | none => s.plans[p].entry
            | some e => s.stages[e].shape.next) ∧
          s.stageFailsAt p d k) ∨
        (passed.getLast? = some d ∧
          ((k = .tooShort ∧ passed.length = 1 ∧ s.stages[d].shape.next = s.plans[p].entry) ∨
            (k = .repeated ∧ s.stages[d].shape.next ≠ s.plans[p].entry ∧ s.stages[d].shape.next ∈ passed) ∨
            (k = .tooLong ∧ passed.length = 12 ∧ s.stages[d].shape.next ∉ passed))) ∨
        (k = .changePointOffChain ∧ d = s.plans[p].changePoint ∧ s.closes p passed ∧ d ∉ passed))) ∧
  (∀ s : State, s.commitFailure = none ↔
    (∀ g : Fin 16, s.groups[g].cfg.passes) ∧ (∀ i j : Fin 16, s.entryPasses i j) ∧
    (∀ c : Fin 64, ¬s.channelFails c) ∧ (∃ p : Fin 8, s.plans[p].loaded = true) ∧
    (∀ p : Fin 8, s.plans[p].loaded = true → ∃ n passed, s.chainCheck p = .closed n passed)) ∧
  (∀ (s : State) (x : Failure), s.commitFailure = some x →
    (∃ g : Fin 16, x.record = nameOf .group g.val ∧ x.extra = 0 ∧ s.groups[g].cfg.failsAt x.check ∧
      ∀ a : Fin 16, a < g → s.groups[a].cfg.passes) ∨
    ((∀ g : Fin 16, s.groups[g].cfg.passes) ∧
      ((∃ i j : Fin 16, x.record = nameOf .conflict i.val ∧ x.extra = j.val ∧ s.entryFailsAt i j x.check ∧
          ∀ a b : Fin 16, a < i ∨ (a = i ∧ b < j) → s.entryPasses a b) ∨
        ((∀ i j : Fin 16, s.entryPasses i j) ∧
          ((∃ c : Fin 64, x.record = nameOf .channel c.val ∧ x.extra = 0 ∧ x.check = .cableUnused ∧ s.channelFails c ∧
              ∀ b : Fin 64, b < c → ¬s.channelFails b) ∨
            ((∀ c : Fin 64, ¬s.channelFails c) ∧
              ((x.record = nameOf .plan 0 ∧ x.extra = 0 ∧ x.check = .noPlanLoaded ∧
                  ∀ p : Fin 8, s.plans[p].loaded = false) ∨
                (∃ (p : Fin 8) (d : Fin 96), x.record = nameOf .stage d.val ∧ x.extra = p.val ∧
                  s.plans[p].loaded = true ∧ s.chainCheck p = .failed d x.check ∧
                  ∀ q : Fin 8, q < p → s.plans[q].loaded = true →
                    ∃ n passed, s.chainCheck q = .closed n passed)))))))) ∧
  ([Check.redsWithoutSecond, .prepNotAllowed, .leavingForKind, .diagonal, .unusedGroup, .asymmetric, .shortOfLeaving,
    .shortOfPrep, .notDefined, .ownedElsewhere, .conflictingGroups, .tooShort, .repeated, .tooLong,
    .changePointOffChain, .cableUnused, .noPlanLoaded, .planEmpty].map Check.code =
    [1, 2, 3, 4, 5, 6, 7, 8, 9, 10, 11, 12, 13, 14, 15, 16, 17, 18])

/-- START AND RESTART. In STANDBY or DARK (START), or in FAILSAFE with the key turned (RESTART), with the mains LOCKED
or SLIP1, no cause present, no VEHICLE group short of reds and none DARK: the sequencer is STOPPED and every group
that was not DARK is RED, (JUNCTION, 0) is posted to PLAN, and with the pre-start sweep a STARTUP request is made for
every cable not UNUSED, in cable order. Where the requested plan has a stage not barred, the mode becomes STARTING at
DARK_TEST with the phase timer at 0 and FSR engaged, and the JUNCTION revision moves by one. Where every stage of it
is barred, ALL_BARRED begins to hold with no plan running and takes the junction at once to FAILSAFE, posted to
SAFETY: first cause ALL_BARRED, FSR released, the port off. Nothing else changes. With the mains in MAINS_LOST or
ACQUIRING both are refused MODE, and with a cause present CAUSE_PRESENT (R56, R134, R135, R148, R149, R151, R154,
R156, R158, R165 to R167). That START and the causes it brings are two events is the model's reading (log entry 7). -/
def Obligations.StartAndRestart : Prop :=
  ∀ (s : State) (h : Header), s.ready →
    (∀ (i : Instr) (code : Byte),
      ((i = .start h [] ∧ code = 18 ∧ (s.sup.mode = .standby ∨ s.sup.mode = .dark)) ∨
        (i = .restart h [] ∧ code = 21 ∧ s.sup.mode = .failsafe ∧ s.link.mkey = true)) →
      (s.base.tracker = .mainsLost ∨ s.base.tracker = .acquiring →
        exec i s = .next (s.refusing h code .mode 0)) ∧
      (s.base.tracker = .locked ∨ s.base.tracker = .slip1 →
        (s.sup.presentCauses ≠ 0 → exec i s = .next (s.refusing h code .causePresent 0)) ∧
        (s.sup.presentCauses = 0 → s.vehicleShort = false → s.vehicleDark = false →
          ∃ (t swept : State), exec i s = .next t ∧
            swept =
              (if s.sup.sweep = true then
                ((List.finRange 16).filter fun k => decide (s.cables[k].state ≠ .unused)).foldl
                  (fun u k => u.request { cable := k, cls := .startup, notBefore := 0, override := none }) s
              else s) ∧
            t.link = s.link.answered h (h.reply code .ok 0 t.junctionLayout) ∧
            t.bridge = swept.bridge ∧
            (∀ k : Fin 16, t.cables[k] = { swept.cables[k] with
              rev := if s.cables[k].settled = swept.cables[k].settled then s.cables[k].rev
                else s.cables[k].rev + 1 }) ∧
            ((∀ p, s.sched.requested = some p → s.allStagesBarred p = false) →
              t = { s with
                link := t.link
                sup := { s.sup with
                  mode := .starting, fsr := true, phase := some .darkTest, phaseTimer := some 0, redInUse := none }
                seq := s.seq.emptied .stopped
                groups := s.groups.map Group.turnedRed
                attn := s.attn.post .plan (nameOf .junction 0)
                bridge := t.bridge
                cables := t.cables
                junctionRev := s.junctionRev + 1 }) ∧
            (∀ p, s.sched.requested = some p → s.allStagesBarred p = true →
              t = { s with
                link := t.link
                sup := { s.sup.idledIn .failsafe false with
                  firstCause := some .allBarred, furtherCauses := 0, presentCauses := Cause.allBarred.only }
                seq := s.seq.emptied .stopped
                groups := s.groups.map Group.turnedRed
                port := Machine.allOff
                attn := (s.attn.post .plan (nameOf .junction 0)).post .safety (nameOf .junction 0)
                bridge := t.bridge
                cables := t.cables
                junctionRev := s.junctionRev + 2 }))))

/-- STOP AND DARK. With the key turned, STOP in STARTING, RUNNING or DARK makes the mode STANDBY with FSR released and the
sequencer STOPPED with nothing running; DARK in STANDBY, STARTING or RUNNING makes it DARK with FSR engaged and the
sequencer SUSPENDED, its running plan and current stage kept. Both end the start phase and the evidence counts, turn every
channel off at the port and every group that was not DARK to RED, post (JUNCTION, 0) to PLAN, move the JUNCTION revision
by one, and leave everything else, the conditions among the present causes excepted. In other modes both are refused MODE
(R56, R148, R149, R151, R157). -/
def Obligations.StopAndDark : Prop :=
  ∀ (s : State) (h : Header), s.ready → s.link.mkey = true →
    ((s.sup.mode = .starting ∨ s.sup.mode = .running ∨ s.sup.mode = .dark) →
      ∃ t, exec (.stop h []) s = .next t ∧
        t.sup.presentCauses = (s.sup.presentCauses &&& ackCauses) ||| t.conditions ∧
        t.link = s.link.answered h (h.reply 19 .ok 0 t.junctionLayout) ∧
        t = { s with
          link := t.link
          sup := { s.sup.idledIn .standby false with presentCauses := t.sup.presentCauses }
          seq := s.seq.emptied .stopped
          groups := s.groups.map Group.turnedRed
          port := Machine.allOff
          attn := s.attn.post .plan (nameOf .junction 0)
          junctionRev := s.junctionRev + 1 }) ∧
    ((s.sup.mode = .standby ∨ s.sup.mode = .starting ∨ s.sup.mode = .running) →
      ∃ t, exec (.dark h []) s = .next t ∧
        t.sup.presentCauses = (s.sup.presentCauses &&& ackCauses) ||| t.conditions ∧
        t.link = s.link.answered h (h.reply 20 .ok 0 t.junctionLayout) ∧
        t = { s with
          link := t.link
          sup := { s.sup.idledIn .dark true with presentCauses := t.sup.presentCauses }
          seq := s.seq.suspended
          groups := s.groups.map Group.turnedRed
          port := Machine.allOff
          attn := s.attn.post .plan (nameOf .junction 0)
          junctionRev := s.junctionRev + 1 }) ∧
    ((s.sup.mode = .unconfigured ∨ s.sup.mode = .standby ∨ s.sup.mode = .failsafe ∨ s.sup.mode = .mainsOut) →
      exec (.stop h []) s = .next (s.refusing h 19 .mode 0)) ∧
    ((s.sup.mode = .unconfigured ∨ s.sup.mode = .dark ∨ s.sup.mode = .failsafe ∨ s.sup.mode = .mainsOut) →
      exec (.dark h []) s = .next (s.refusing h 20 .mode 0))

/-- FORCE_FAILSAFE. Outside UNCONFIGURED it takes the mode to FAILSAFE, with HOST_FORCED present. From another mode HOST_FORCED
becomes the first cause and the further causes the others present before it or holding now, FSR is released, the
port is off, the sequencer is STOPPED, every group that was not DARK is RED, and (JUNCTION, 0) is pending in SAFETY; in
FAILSAFE the first cause stays, and HOST_FORCED and any cause that became present now join the further causes where
they are not the first cause, posted to SAFETY where the further causes change. Nothing else changes. In UNCONFIGURED
it is refused MODE (R146, R148, R149, R152, R157, R158). -/
def Obligations.ForceFailsafe : Prop :=
  ∀ (s : State) (h : Header), s.ready →
    (s.sup.mode = .unconfigured → exec (.forceFailsafe h []) s = .next (s.refusing h 22 .mode 0)) ∧
    (s.sup.mode ≠ .unconfigured →
      ∃ t, exec (.forceFailsafe h []) s = .next t ∧
        t.sup.mode = .failsafe ∧
        t.sup.presentCauses = ((s.sup.presentCauses ||| Cause.hostForced.only) &&& ackCauses) ||| t.conditions ∧
        t.link = s.link.answered h (h.reply 22 .ok 0 t.junctionLayout) ∧
        (s.sup.mode ≠ .failsafe →
          (∀ c : Cause, c ≠ .hostForced →
            holds t.sup.furtherCauses c = (holds s.sup.presentCauses c || holds t.sup.presentCauses c)) ∧
          holds t.sup.furtherCauses .hostForced = false ∧
          t = { s with
            link := t.link
            sup := { s.sup.idledIn .failsafe false with
              presentCauses := t.sup.presentCauses, firstCause := some .hostForced
              furtherCauses := t.sup.furtherCauses }
            seq := s.seq.emptied .stopped
            groups := s.groups.map Group.turnedRed
            port := Machine.allOff
            attn := s.attn.post .safety (nameOf .junction 0)
            junctionRev := s.junctionRev + 1 }) ∧
        (s.sup.mode = .failsafe →
          (t.sup.firstCause = some .hostForced ∨ holds t.sup.furtherCauses .hostForced = true) ∧
          (∀ c : Cause, holds t.sup.furtherCauses c = true ↔ holds s.sup.furtherCauses c = true ∨
            (s.sup.firstCause ≠ some c ∧ (c = .hostForced ∨
              (holds t.sup.presentCauses c = true ∧ holds s.sup.presentCauses c = false)))) ∧
          t = { s with
            link := t.link
            sup := { s.sup with presentCauses := t.sup.presentCauses, furtherCauses := t.sup.furtherCauses }
            attn := if t.sup.furtherCauses = s.sup.furtherCauses then s.attn
              else s.attn.post .safety (nameOf .junction 0)
            junctionRev :=
              if s.sup.presentCauses = t.sup.presentCauses ∧ s.sup.furtherCauses = t.sup.furtherCauses then s.junctionRev
              else s.junctionRev + 1 }))

/-- SELECT_PLAN. OVERRIDE p with p LOADED sets the plan source to OVERRIDE and the override plan to p; FOLLOW sets the plan
source to SCHEDULE; each works the requested plan out again. OVERRIDE of an EMPTY plan answers INVALID, PLAN_EMPTY, naming
PLAN p, and changes nothing. The requested plan is the candidate where it is LOADED, and else the lowest-numbered LOADED
plan; the pending plan is the requested plan while a plan runs that it differs from, and none otherwise; the conditions
are then worked out (R48 to R50, R156, R187). -/
def Obligations.SelectPlan : Prop :=
  (∀ (s : State) (h : Header), s.ready →
    (∀ p : Fin 8,
      (s.plans[p].loaded = true →
        exec (.selectPlanOverride h [1, b8 p.val]) s =
          .next ((event
            (fun u => ({ u with sched := { u.sched with source := .override, overridePlan := p } } :
              State).workOutRequested)
            (s.shiftOut h.clocked)).returningJunction h 23)) ∧
      (s.plans[p].loaded = false →
        exec (.selectPlanOverride h [1, b8 p.val]) s =
          .next ((s.shiftOut h.clocked).setSlot
            { status := .invalid, command := 23, table := 6, index := b8 p.val, revision := s.plans[p].rev
              payload := [18, 0] }))) ∧
    (∀ x : Byte,
      exec (.selectPlanFollow h [0, x]) s =
        .next ((event
          (fun u => ({ u with sched := { u.sched with source := .schedule } } : State).workOutRequested)
          (s.shiftOut h.clocked)).returningJunction h 23))) ∧
  (∀ s : State, ∃ (candidate : Fin 8) (requested pending : Option (Fin 8)),
    (s.sched.source = .override → candidate = s.sched.overridePlan) ∧
    (s.sched.source = .schedule → candidate = s.sched.scheduledPlan) ∧
    (s.plans[candidate].loaded = true → requested = some candidate) ∧
    (s.plans[candidate].loaded = false →
      (requested = none ↔ ∀ q : Fin 8, s.plans[q].loaded = false) ∧
      ∀ p, requested = some p → s.plans[p].loaded = true ∧ ∀ q : Fin 8, q < p → s.plans[q].loaded = false) ∧
    (s.seq.running = none ∨ requested = none ∨ requested = s.seq.running → pending = none) ∧
    (s.seq.running ≠ none → requested ≠ none → requested ≠ s.seq.running → pending = requested) ∧
    s.workOutRequested =
      ({ s with sched := { s.sched with requested := requested }, seq := { s.seq with pending := pending } } :
        State).refresh)

/-- SET_TIME. In every mode a time of day in range replaces the time of day and sets the time-valid flag at one event,
and the entry in force is then worked out; a value out of range is refused RANGE. With the time not valid no entry is
in force; otherwise one is wherever an ENABLED entry names a LOADED plan on at least one day, and it is such an entry
whose age is least, the lowest-numbered of those of equal age: the age is the tenths since the most recent instant of
its days, hour and minute, in the week. The working-out sets the scheduled plan and dimming to the entry's, or to plan
0 and BRIGHT with none, and has the requested plan worked out; a change that this makes in the dimming state switches
DIM, starts the dim settle and ends the streaks of the dimmable channels at an event of its own (R29, R30, R46, R47,
R49, R51, R52, R121, R164). That the time and the entry are two events, and the dimming another, is the model's
reading (log entry 7). -/
def Obligations.SetTime : Prop :=
  (∀ (s : State) (h : Header) (time : TimeOfDay), s.ready →
    (1 ≤ time.day → time.day ≤ 7 → time.hour ≤ 23 → time.minute ≤ 59 → time.second ≤ 59 → time.tenth ≤ 9 →
      exec (.setTime h time.bytes) s =
        .next ((event (fun u => { u with base := { u.base with time := time, timeValid := true } })
          (s.shiftOut h.clocked)).workOutEntry.returningJunction h 24)) ∧
    (time.day < 1 ∨ 7 < time.day ∨ 23 < time.hour ∨ 59 < time.minute ∨ 59 < time.second ∨ 9 < time.tenth →
      time.day < 256 → time.hour < 256 → time.minute < 256 → time.second < 256 → time.tenth < 256 →
      exec (.setTime h time.bytes) s = .next (s.refusing h 24 .range 0)) ∧
    (∀ payload, payload.length ≠ 5 → exec (.setTime h payload) s = .next (s.refusing h 24 .range 0))) ∧
  (∀ (e : ScheduleConfig) (now : TimeOfDay), e.hour ≤ 23 → e.minute ≤ 59 → ∃ (instant : Nat) (since : Nat → Nat → Prop),
    instant = (((now.day - 1) * 24 + now.hour) * 60 + now.minute) * 600 + now.second * 10 + now.tenth ∧
    (∀ day a, since day a ↔
      1 ≤ day ∧ day ≤ 7 ∧ e.days.getLsbD (day - 1) = true ∧
      ((((day - 1) * 24 + e.hour) * 60 + e.minute) * 600 + a) % 6048000 = instant % 6048000) ∧
    (e.age now = none ↔ e.days = 0) ∧
    (∀ a, e.age now = some a → a < 6048000 ∧ (∃ day, since day a) ∧ ∀ day b, since day b → a ≤ b)) ∧
  (∀ s : State,
    (s.base.timeValid = false → s.entryInForce = none) ∧
    (s.base.timeValid = true →
      (s.entryInForce = none ↔ ∀ e : Fin 24, s.schedule[e].cfg.state = .enabled →
        s.plans[s.schedule[e].cfg.plan].loaded = true → s.schedule[e].cfg.days = 0)) ∧
    (∀ e : Fin 24, s.entryInForce = some e →
      s.schedule[e].cfg.state = .enabled ∧ s.plans[s.schedule[e].cfg.plan].loaded = true ∧
      ∃ age, s.schedule[e].cfg.age s.base.time = some age ∧
        ∀ (f : Fin 24) (b : Nat), s.schedule[f].cfg.state = .enabled →
          s.plans[s.schedule[f].cfg.plan].loaded = true → s.schedule[f].cfg.age s.base.time = some b →
          age ≤ b ∧ (f < e → age < b)) ∧
    (s.entryInForce = none → s.workOutEntry = s.setScheduled 0 .bright) ∧
    (∀ e : Fin 24, s.entryInForce = some e →
      s.workOutEntry = s.setScheduled s.schedule[e].cfg.plan s.schedule[e].cfg.dimming)) ∧
  (∀ (s : State) (plan : Fin 8) (dimming : Dimming),
    ∃ (state : Dimming) (t : State) (channels : Vector Channel 64),
      t = event (fun u =>
        ({ u with sched := { u.sched with scheduledPlan := plan, scheduledDimming := dimming } } :
          State).workOutRequested) s ∧
      state = (match s.sched.dimOverride with
        | .follow => dimming
        | .bright => .bright
        | .dim => .dim) ∧
      (∀ c : Fin 64, channels[c] =
        if s.channels[c].cfg.dimmable = true then { s.channels[c] with badStreak := 0, worst := none }
        else s.channels[c]) ∧
      (state = s.sched.dimState → s.setScheduled plan dimming = t) ∧
      (state ≠ s.sched.dimState →
        s.setScheduled plan dimming = { t with
          sched := { t.sched with dimState := state, dimSettle := 50, dimPin := decide (state = .dim) }
          channels := channels
          junctionRev := t.junctionRev + 1 }))

/-- SET_DIM. In every mode each form sets the dimming override; the dimming state becomes BRIGHT, DIM or, under FOLLOW, the
scheduled dimming. A change of the dimming state switches DIM, starts the dim settle at 50, and ends the streak of every
dimmable channel; the JUNCTION revision moves by one where the override or the state changed. Nothing else changes
(R51, R52, R121). -/
def Obligations.SetDim : Prop :=
  ∀ (s : State) (h : Header) (i : Instr) (override : DimOverride) (state : Dimming), s.ready →
    ((i = .setDimFollow h [0] ∧ override = .follow ∧ state = s.sched.scheduledDimming) ∨
      (i = .setDimBright h [1] ∧ override = .bright ∧ state = .bright) ∨
      (i = .setDimDim h [2] ∧ override = .dim ∧ state = .dim)) →
    (state = s.sched.dimState →
      exec i s =
        .next (({ s.shiftOut h.clocked with
          sched := { s.sched with dimOverride := override }
          junctionRev := if s.sched.dimOverride = override then s.junctionRev else s.junctionRev + 1 } :
          State).returningJunction h 25)) ∧
    (state ≠ s.sched.dimState →
      ∃ channels : Vector Channel 64,
        (∀ c : Fin 64, channels[c] =
          if s.channels[c].cfg.dimmable = true then { s.channels[c] with badStreak := 0, worst := none }
          else s.channels[c]) ∧
        exec i s =
          .next (({ s.shiftOut h.clocked with
            sched := { s.sched with
              dimOverride := override, dimState := state, dimSettle := 50, dimPin := decide (state = .dim) }
            channels := channels
            junctionRev := s.junctionRev + 1 } : State).returningJunction h 25))

/-! ## Channels, cables and attention -/

/-- TEST_CABLES. A list of 1 to 16 different cables, none UNUSED, each override absent or from 100 to 100,000 kΩ, is
taken in every mode as a HOST request for each in list order; a payload that is empty or not in fives, a list of more
than 16 items, a cable number above 15, a cable named twice or UNUSED, or an override out of that range, is refused
RANGE. A request for a cable without an entry adds one at the end of the queue, its waiting time 0, and makes the
cable PENDING; a request for a cable with an entry merges: the higher class, the entry's place, waiting time and test,
the smaller not-before (0 for HOST), the class added to the origins, a carried override replacing the entry's (R135,
R136, R186). -/
def Obligations.TestCables : Prop :=
  (∀ (s : State) (h : Header), s.ready →
    (∀ rs : List TestRequest, 1 ≤ rs.length → rs.length ≤ 16 → (rs.map TestRequest.cable).Nodup →
      (∀ r ∈ rs, r.cls = .host ∧ r.notBefore = 0 ∧ s.cables[r.cable].state ≠ .unused ∧
        ∀ n, r.override = some n → 100 ≤ n ∧ n ≤ 100000) →
      exec (.testCables h (rs.flatMap fun r => b8 r.cable.val :: be32 (r.override.getD 0))) s =
        .next ((event (fun u => rs.foldl State.request u) (s.shiftOut h.clocked)).answering h 26 .ok 0 [])) ∧
    (∀ payload : List Byte, payload = [] ∨ payload.length % 5 ≠ 0 →
      exec (.testCables h payload) s = .next (s.refusing h 26 .range 0)) ∧
    (∀ items : List (Byte × Nat), (∀ x ∈ items, x.2 < 2 ^ 32) →
      16 < items.length ∨ ¬(items.map Prod.fst).Nodup ∨
        (∃ x ∈ items, 15 < x.1.toNat ∨ (x.2 ≠ 0 ∧ (x.2 < 100 ∨ 100000 < x.2)) ∨
          ∃ k : Fin 16, x.1.toNat = k.val ∧ s.cables[k].state = .unused) →
      exec (.testCables h (items.flatMap fun x => x.1 :: be32 x.2)) s = .next (s.refusing h 26 .range 0))) ∧
  (∀ (s : State) (r : TestRequest),
    ((∀ e ∈ s.bridge.queue, e.cable ≠ r.cable) →
      s.request r = { s with
        bridge := { s.bridge with queue := s.bridge.queue ++
          [{ cable := r.cable, cls := r.cls
             origins :=
              { startup := decide (r.cls = .startup), retest := decide (r.cls = .retest)
                host := decide (r.cls = .host) }
             override := r.override, waiting := 0, notBefore := r.notBefore, underTest := false }] }
        cables := s.cables.set r.cable { s.cables[r.cable] with status := .pending } }) ∧
    ((∃ e ∈ s.bridge.queue, e.cable = r.cable) →
      ∃ queue : List QueueEntry, queue.length = s.bridge.queue.length ∧
        (∀ (n : Nat) (e x : QueueEntry), s.bridge.queue[n]? = some e → queue[n]? = some x →
          (e.cable ≠ r.cable → x = e) ∧
          (e.cable = r.cable →
            x.cable = e.cable ∧ x.waiting = e.waiting ∧ x.underTest = e.underTest ∧
            x.cls.rank = min e.cls.rank r.cls.rank ∧
            x.notBefore = (if r.cls = .host then 0 else min e.notBefore r.notBefore) ∧
            (x.origins.startup = true ↔ e.origins.startup = true ∨ r.cls = .startup) ∧
            (x.origins.retest = true ↔ e.origins.retest = true ∨ r.cls = .retest) ∧
            (x.origins.host = true ↔ e.origins.host = true ∨ r.cls = .host) ∧
            x.override = (if r.override = none then e.override else r.override))) ∧
        s.request r = { s with bridge := { s.bridge with queue := queue } }))

/-- RELEARN AND CLEAR_FAULT ON A CHANNEL. With the key turned, in every mode: RELEARN empties both brightness parts to
UNLEARNED, ends the streak and clears learn-failed, the verdict, phase and reading standing; CLEAR_FAULT sets the latched
verdict to NONE and ends the streak, and a change of the verdict has the red availability and the conditions worked out.
The revision moves by one where a settled field changed. RELEARN changes nothing else (R96, R97, R155). -/
def Obligations.RelearnAndClearChannel : Prop :=
  ∀ (s : State) (h : Header) (c : Fin 64), s.ready → h.names .channel c.val → s.link.mkey = true →
    (∃ (empty : Part) (x : Channel),
      empty = { learned := false, learnSum := 0, learnCount := 0, reference := 0, baseline := 0 } ∧
      x = { s.channels[c] with
        bright := empty, dim := s.channels[c].dim.map (fun _ => empty), badStreak := 0, worst := none
        learnFailed := false
        rev := if s.channels[c].settled = x.settled then s.channels[c].rev else s.channels[c].rev + 1 } ∧
      exec (.relearn h []) s =
        .next (({ s.shiftOut h.clocked with channels := s.channels.set c x } : State).returning h 27 .ok
          (nameOf .channel c.val))) ∧
    (s.channels[c].verdict = none →
      exec (.clearFaultChannel h []) s =
        .next (({ s.shiftOut h.clocked with
          channels := s.channels.set c { s.channels[c] with badStreak := 0, worst := none } } : State).returning
          h 28 .ok (nameOf .channel c.val))) ∧
    (s.channels[c].verdict ≠ none →
      exec (.clearFaultChannel h []) s =
        .next ((event
          (fun u => (({ u with
            channels := u.channels.set c
              { u.channels[c] with
                verdict := none, badStreak := 0, worst := none, rev := u.channels[c].rev + 1 } } :
            State).redCauses).refresh)
          (s.shiftOut h.clocked)).returning h 28 .ok (nameOf .channel c.val)))

/-- CLEAR_FAULT ON A CABLE AND ON THE JUNCTION. With the key turned, in every mode: on an UNUSED cable nothing is
done; on another the latched faults and the suspect mark are cleared, both streaks become 0, an ISOLATED cable returns
to MONITORED with the dark causes worked out afresh, and a RETEST request with not-before 0 is made. On JUNCTION 0 the
three acknowledge-type causes leave the present causes, a bridge in BRIDGE_FAULT returns to IDLE, the revision moves
by one where either changed, and nothing else changes, the mode, the first cause and the further causes among it (R76,
R132, R140, R159). -/
def Obligations.ClearFaultCableAndJunction : Prop :=
  ∀ (s : State) (h : Header), s.ready → s.link.mkey = true →
    (∀ k : Fin 16, h.names .cable k.val →
      ∃ (x : Cable) (again : TestRequest),
        x = { s.cables[k] with
          faults := { balance := false, openReturn := false, insulation := false }, suspect := false
          balanceStreak := 0, openStreak := 0 } ∧
        again = { cable := k, cls := .retest, notBefore := 0, override := none } ∧
        (s.cables[k].state = .unused →
          exec (.clearFaultCable h []) s =
            .next ((s.shiftOut h.clocked).returning h 28 .ok (nameOf .cable k.val))) ∧
        (s.cables[k].state = .monitored →
          exec (.clearFaultCable h []) s =
            .next ((event (fun u => ({ u with cables := u.cables.set k x } : State).request again)
              (s.shiftOut h.clocked)).returning h 28 .ok (nameOf .cable k.val))) ∧
        (s.cables[k].state = .isolated →
          exec (.clearFaultCable h []) s =
            .next ((event
              (fun u => (({ u with
                cables := u.cables.set k { x with state := .monitored } } :
                State).darkCauses).request again)
              (s.shiftOut h.clocked)).returning h 28 .ok (nameOf .cable k.val)))) ∧
    (h.names .junction 0 →
      exec (.clearFaultJunction h []) s =
        .next (({ s.shiftOut h.clocked with
          sup := { s.sup with presentCauses := s.sup.presentCauses &&& conditionCauses }
          bridge := { s.bridge with
            state := if s.bridge.state = .bridgeFault then .idle else s.bridge.state }
          junctionRev :=
            if s.sup.presentCauses &&& ackCauses = 0 ∧ s.bridge.state ≠ .bridgeFault then s.junctionRev
            else s.junctionRev + 1 } : State).returning h 28 .ok (nameOf .junction 0)))

/-- POSTS AND ATTEND. A post adds the pair to its class's set, once, and leaves the other sets, the masks and the chain. In
every mode ATTEND answers NONE with class 0 and the five counts where no class qualifies, and changes nothing; otherwise
it answers the highest-ranked qualifying class with the first pair of its set and the counts, pushes that class on the end
of the chain, and releases ATTNn; the sets and the masks stay, and nothing else changes (R173, R175, R176, R186). That the
revision byte of an ATTEND response is 0 is the model's reading (log entry 10), and so is the width of a count, one byte
(log entry 24). -/
def Obligations.PostsAndAttend : Prop :=
  (∀ (a : Attention) (c : AClass) (r : RecordName),
    (∀ x, x ∈ (a.post c r).sets[c.rank] ↔ x = r ∨ x ∈ a.sets[c.rank]) ∧
    ((a.sets[c.rank]).Nodup → (a.sets[c.rank]).Pairwise (fun x y => x.before y = true) →
      ((a.post c r).sets[c.rank]).Nodup ∧ ((a.post c r).sets[c.rank]).Pairwise (fun x y => x.before y = true)) ∧
    (∀ d : AClass, d ≠ c → (a.post c r).sets[d.rank] = a.sets[d.rank]) ∧
    (a.post c r).masked = a.masked ∧ (a.post c r).chain = a.chain ∧ (a.post c r).lineRight) ∧
  (∀ (s : State) (h : Header), s.ready →
    ((∀ c : AClass, s.attn.qualifies c = false) →
      exec (.attend h []) s =
        .next ((s.shiftOut h.clocked).setSlot
          { status := .none, command := 32, table := 0, index := 0, revision := 0
            payload := 0 :: s.attn.sets.toList.map fun l => b8 l.length })) ∧
    (∀ (c : AClass) (r : RecordName) (rest : List RecordName),
      s.attn.qualifies c = true → (∀ d : AClass, s.attn.qualifies d = true → c.rank ≤ d.rank) →
      s.attn.sets[c.rank] = r :: rest →
      exec (.attend h []) s =
        .next (({ s.shiftOut h.clocked with
          attn := { s.attn with chain := s.attn.chain ++ [c], line := false } } : State).setSlot
          { status := .ok, command := 32, table := b8 r.table.code, index := b8 r.index, revision := 0
            payload := b8 c.code :: s.attn.sets.toList.map fun l => b8 l.length })))

/-- ACK, RELEASE AND MASK. In every mode: ACK of a pair in the named class's set removes it from that set alone, and of a pair
not in it is refused NOT_PENDING; RELEASE removes the last class of the chain and names it, and with an empty chain is
refused NOT_PENDING; MASK SET and MASK CLEAR mask and enable exactly the classes named and answer the five masks. After
each that is taken ATTNn is asserted exactly where a class qualifies, and nothing else changes (R174, R175, R177, R178,
R186). -/
def Obligations.AckReleaseAndMask : Prop :=
  ∀ (s : State) (h : Header), s.ready →
    (∀ (c : AClass) (t : Table) (i : Nat), i < t.capacity → h.names t i →
      (nameOf t i ∈ s.attn.sets[c.rank] →
        ∃ a : Attention,
          a = { s.attn with
            sets := s.attn.sets.set c.rank ((s.attn.sets[c.rank]).filter fun x => x ≠ nameOf t i)
            line := a.line } ∧
          a.lineRight ∧
          exec (.ack h [b8 c.code]) s =
            .next (({ s.shiftOut h.clocked with attn := a } : State).answering h 33 .ok
              (s.recordRev (nameOf t i)) [])) ∧
      (nameOf t i ∉ s.attn.sets[c.rank] →
        exec (.ack h [b8 c.code]) s = .next (s.refusing h 33 .notPending (s.recordRev (nameOf t i))))) ∧
    (∀ (c : AClass) (chain : List AClass), s.attn.chain = chain ++ [c] →
      ∃ a : Attention,
        a = { s.attn with chain := chain, line := a.line } ∧ a.lineRight ∧
        exec (.release h []) s =
          .next (({ s.shiftOut h.clocked with attn := a } : State).answering h 34 .ok 0 [b8 c.code])) ∧
    (s.attn.chain = [] → exec (.release h []) s = .next (s.refusing h 34 .notPending 0)) ∧
    (∀ (i : Instr) (classes : Byte) (m : Bool), classes.toNat < 32 →
      ((i = .maskSet h [0, classes] ∧ m = true) ∨ (i = .maskClear h [1, classes] ∧ m = false)) →
      ∃ a : Attention,
        a = { s.attn with masked := a.masked, line := a.line } ∧ a.lineRight ∧
        (∀ k : Fin 5, a.masked[k] = if classes.getLsbD k.val = true then m else s.attn.masked[k]) ∧
        exec i s =
          .next (({ s.shiftOut h.clocked with attn := a } : State).answering h 35 .ok 0
            (a.masked.toList.map fun x => if x = true then 1 else 0)))

/-! ## Pins, supplies and the time base -/

/-- KEY AND SUPPLIES. A change of MKEY is held and changes nothing else. A loss of main power with tenths from cycles
discards the divider count and restarts the crystal divider, and with tenths from the crystal leaves them. A loss of the
retention supply clears the retention-valid indicator while main power is absent and does nothing while it is present.
With main power absent a crystal tenth takes the time of day one tenth on, round the week, and the crystal's pattern one
tenth on; nothing else changes (R27, R29, R33, R184). That a main reset keeps the level of MKEY (log entry 21), and that a
power loss without main power and a retention tenth with it do nothing (log entry 4), are the model's choices. -/
def Obligations.KeyAndSupplies : Prop :=
  ∀ s : State,
    (∀ active : Bool, exec (.mkeyChange active) s = .next { s with link := { s.link with mkey := active } }) ∧
    (∃ t, exec .mainReset s = .next t ∧ t.link.mkey = s.link.mkey) ∧
    (s.base.mainPower = true →
      (s.base.source = .cycles →
        exec .mainPowerLoss s =
          .next { s with base := { s.base with
            mainPower := false, source := .crystal, divider := 0, crystalCount := 0 } }) ∧
      (s.base.source = .crystal → exec .mainPowerLoss s = .next { s with base := { s.base with mainPower := false } }) ∧
      exec .retentionLoss s = .next s ∧ exec .retentionTenth s = .next s) ∧
    (s.base.mainPower = false →
      exec .mainPowerLoss s = .next s ∧
      exec .retentionLoss s = .next { s with base := { s.base with retentionValid := false } } ∧
      ∃ time : TimeOfDay,
        exec .retentionTenth s =
          .next { s with base := { s.base with
            time := time, crystalCount := 0, crystalTenth := (s.base.crystalTenth + 1) % 5 } } ∧
        (s.base.time.inRange = true →
          time.inRange = true ∧ time.instant = (s.base.time.instant + 1) % tenthsPerWeek))

/-- MAIN RESET. From any state, with the retention domain valid or not, every table, the blocks' own state, the pins
the part drives and the response slot take their reset values, and a command in flight is gone. The time of day, the
time-valid flag and the crystal's pattern go on where the retention-valid indicator is set, and start again from day
1, 00:00:00.0, not valid, where it is cleared (R15, R16, R32, R33, R53, R54, R81, R99, R100, R107, R144, R145, R160,
R166, R179, R181). That main power is present after it is the model's reading of the supplies (log entries 3 and 4),
and that no channel is counted on a cable before the first cycle tick is read from the reset of the cable fields (log
entry 23). -/
def Obligations.MainResetValues : Prop :=
  ∀ s : State, ∃ t, exec .mainReset s = .next t ∧
    (∀ i j : Fin 16, t.intergreen i j = none) ∧ (∀ i : Fin 16, t.conflicts[i].rev = 0) ∧
    (∀ f : Fin 8, t.profiles[f].rev = 0 ∧
      t.profiles[f].cfg =
        if f.val ≤ 3 then
          { surgeCode := 6, settleCode := 5, releaseCode := 3, bandLow := 15, bandHigh := 15, out := 50, offLimit := 20
            confirmCount := 3, tracking := true }
        else
          { surgeCode := 1, settleCode := 4, releaseCode := 1, bandLow := 20, bandHigh := 30, out := 40, offLimit := 8
            confirmCount := 3, tracking := true }) ∧
    (∀ g : Fin 16, t.groups[g] =
      { cfg := { kind := .unused, secondRed := false, redsRequired := 1, prepTime := 0, leavingTime := 30 }
        aspect := .red, isolatedCable := false, redOut := false, stateTimer := 0, sinceGreen := 0, rev := 0 }) ∧
    (∀ c : Fin 64, t.channels[c] =
      { cfg := { profile := 0, cable := none, dimmable := false }, verdict := none, learnFailed := false
        bright := { learned := false, learnSum := 0, learnCount := 0, reference := 0, baseline := 0 }, dim := none
        command := false, phase := .off, remaining := 0, lastReading := { mA := 0, saturated := false }
        seenLit := false, badStreak := 0, worst := none, rev := 0 }) ∧
    (∀ k : Fin 16, t.cables[k] =
      { state := .unused, action := .report, route := .notice, tolerance := 50, limit := 1000
        faults := { balance := false, openReturn := false, insulation := false }, suspect := false, result := none
        status := .none, lastResidual := { mA := 0, saturated := false }
        lastReturn := { mA := 0, saturated := false }, balanceStreak := 0, openStreak := 0, rev := 0 }) ∧
    (∀ c : Fin 64, t.counted[c] = none) ∧
    (∀ p : Fin 8, t.plans[p] = { loaded := false, entry := 0, changePoint := 0, length := 0, rev := 0 }) ∧
    (∀ d : Fin 96, t.stages[d] =
      { isDefined := false, owner := none
        shape := { groups := 0, calls := 0, holders := 0, demand := false, next := 0 }
        timing := { minGreen := 30, maxGreen := 30, step := 0 }, rev := 0 }) ∧
    (∀ e : Fin 24, t.schedule[e] =
      { cfg := { state := .empty, days := 0, hour := 0, minute := 0, plan := 0, dimming := .bright }, rev := 0 }) ∧
    (∀ d : Fin 16, t.detectors[d] =
      { cfg := { enabled := false, invert := false, stuckLimit := 0 }, faulty := false, previous := false
        level := false, latch := false, activeRun := 0, rev := 0 }) ∧
    t.junctionRev = 0 ∧ t.sup.mode = .unconfigured ∧ t.sup.fsr = false ∧ t.port = Machine.allOff ∧
    t.sup.firstCause = none ∧ t.sup.furtherCauses = 0 ∧ t.sup.presentCauses = 0 ∧ t.sup.startRed = 60 ∧
    t.sup.sweep = true ∧ t.sup.phase = none ∧ t.sup.phaseTimer = none ∧
    t.seq.state = .stopped ∧ t.seq.running = none ∧ t.seq.pending = none ∧ t.seq.current = none ∧
    t.seq.context = none ∧ t.seq.interstage = none ∧ t.seq.allBarred = false ∧
    t.sched.scheduledPlan = 0 ∧ t.sched.scheduledDimming = .bright ∧ t.sched.overridePlan = 0 ∧
    t.sched.source = .schedule ∧ t.sched.requested = none ∧ t.sched.dimOverride = .follow ∧
    t.sched.dimState = .bright ∧ t.sched.dimSettle = 0 ∧ t.sched.dimPin = false ∧
    t.bridge = { state := .idle, underTest := none, timer := none, selection := .nothing, queue := [] } ∧
    (∀ c : AClass, t.attn.sets[c.rank] = [] ∧ t.attn.masked[c.rank] = false) ∧ t.attn.chain = [] ∧
    t.attn.line = false ∧ t.sampler.position = none ∧
    (∀ j : Fin 80, t.sampler.inputs[j] = { sum := 0, saturated := false }) ∧
    (∀ k : Fin 16, t.sampler.residuals[k] = { sum := 0, saturated := false }) ∧
    (∀ i j : Fin 16, t.sup.evidence[i][j] = 0) ∧ t.sup.origin = .other ∧ t.sup.redInUse = none ∧
    t.link.inFlight = none ∧
    t.link.slot = { status := .reset, command := 0, table := 0, index := 0, revision := 0, payload := [] } ∧
    t.base.tracker = .acquiring ∧ t.base.reference = none ∧ t.base.goodCount = 0 ∧ t.base.opening = .crossing ∧
    t.base.frequency = .hz50 ∧ t.base.source = .crystal ∧ t.base.divider = 0 ∧ t.base.mainPower = true ∧ t.base.retentionValid = true ∧
    (s.base.retentionValid = true → t.base.time = s.base.time ∧ t.base.timeValid = s.base.timeValid ∧
      t.base.crystalTenth = s.base.crystalTenth) ∧
    (s.base.retentionValid = false →
      t.base.time = { day := 1, hour := 0, minute := 0, second := 0, tenth := 0 } ∧ t.base.timeValid = false ∧
      t.base.crystalTenth = 0)

/-- CROSSINGS IN LOCKED AND SLIP1. In LOCKED a crossing sooner than 0.9 P after the reference does nothing; one from
0.9 P to 1.5 P ends a cycle: a cycle tick, measured where the cycle opened at a crossing, the divider count raised,
the crossing the new reference, and, where the count of 5 at 50 Hz or 6 at 60 Hz is complete, a tenth tick. In SLIP1 a
crossing up to 2.5 P does the same and the tracker returns to LOCKED. A crossing after an expiry that was due is taken
as the expiry and then the crossing. A cycle tick gives every channel the port's command of the cycle that opens and
its next envelope phase, takes the readings of channels and cables and samples the detectors where it is measured and
leaves them where it is not, counts the dim settle down, counts each channel on the cable its record names, and opens
the sampler's next cycle; the configuration stays (R18 to R20, R23, R26, R52, R79, R85, R90, R102, R104, R109, R126).
The order of a tenth tick and the return to LOCKED is an operand (log entry 11); that a due expiry is taken with a
later crossing is the model's reading (log entry 13). -/
def Obligations.CrossingsWhileLocked : Prop :=
  (∀ (s : State) (x : CrossingInput) (r ns : Nat), s.base.mainPower = true → s.base.reference = some r →
    ns = (x.instant - r) * s.base.frequency.hz * 10 →
    ∃ (t locked : State) (due : Bool),
      t = { s.cycleTick (decide (s.base.opening = .crossing)) x.tick with
        base := { s.base with
          reference := some x.instant, opening := .crossing, source := .cycles
          divider :=
            if s.base.source = .crystal then 1
            else if s.base.divider < (if s.base.frequency = .hz50 then 4 else 5) then s.base.divider + 1 else 0 } } ∧
      (due = true ↔
        s.base.source = .cycles ∧ (if s.base.frequency = .hz50 then 4 else 5) ≤ s.base.divider) ∧
      locked = event (fun u => { u with base := { u.base with tracker := .locked } }) t ∧
      (s.base.tracker = .locked →
        (ns < 9000000000 → exec (.zeroCrossing x) s = .next s) ∧
        (9000000000 ≤ ns → ns ≤ 15000000000 →
          exec (.zeroCrossing x) s = .next (if due = true then t.tenth x.tick.tenth else t))) ∧
      (s.base.tracker = .slip1 → ns ≤ 25000000000 →
        exec (.zeroCrossing x) s = .next
          (if due = true then
            (if x.tick.order.returnFirst = true then locked.tenth x.tick.tenth
              else event (fun u => { u with base := { u.base with tracker := .locked } }) (t.tenth x.tick.tenth))
          else locked)) ∧
      (s.base.tracker = .locked → 15000000000 < ns → ns ≤ 25000000000 →
        ∀ u, exec (.firstWindowExpiry x.tick) s = .next u → exec (.zeroCrossing x) s = exec (.zeroCrossing x) u) ∧
      (s.base.tracker = .locked → 25000000000 < ns →
        ∀ u v, exec (.firstWindowExpiry x.tick) s = .next u → exec .secondWindowExpiry u = .next v →
          exec (.zeroCrossing x) s = exec (.zeroCrossing x) v) ∧
      ((s.base.tracker = .slip1 ∨ s.base.tracker = .acquiring) → 25000000000 < ns →
        ∀ v, exec .secondWindowExpiry s = .next v → exec (.zeroCrossing x) s = exec (.zeroCrossing x) v)) ∧
  (∀ (s : State) (measured : Bool) (i : TickInput), ∃ t, t = s.cycleTick measured i ∧
    (∀ c : Fin 64,
      t.channels[c].command = s.port[c] ∧
      t.channels[c].phase = (s.channels[c].advance (s.profileOf c) s.port[c]).phase ∧
      t.channels[c].remaining = (s.channels[c].advance (s.profileOf c) s.port[c]).remaining ∧
      t.channels[c].cfg = s.channels[c].cfg ∧ t.counted[c] = s.channels[c].cfg.cable ∧
      t.sampler.carriedBy[c] = s.channels[c].cfg.cable ∧
      (measured = true →
        t.channels[c].lastReading = (s.sampler.inputs[c.val]).reading ∧
        t.channels[c].seenLit = ((s.sampler.inputs[c.val]).reading.saturated ||
          decide ((s.profileOf c).offLimit < (s.sampler.inputs[c.val]).reading.mA))) ∧
      (measured = false →
        t.channels[c] = { s.channels[c] with
          command := t.channels[c].command, phase := t.channels[c].phase, remaining := t.channels[c].remaining })) ∧
    (∀ k : Fin 16,
      t.cables[k].lastReturn = (if measured = true then (s.sampler.inputs[64 + k.val]).reading
        else s.cables[k].lastReturn) ∧
      t.cables[k].lastResidual = (if measured = true then (s.sampler.residuals[k]).reading
        else s.cables[k].lastResidual)) ∧
    (measured = false → t.detectors = s.detectors) ∧
    (measured = true → ∀ d : Fin 16,
      t.detectors[d].previous =
        (if s.detectors[d].cfg.enabled = true then has i.det d != s.detectors[d].cfg.invert
          else s.detectors[d].previous)) ∧
    t.sampler.position = some 0 ∧ t.sampler.spacing = s.base.frequency ∧
    (∀ j : Fin 80, t.sampler.inputs[j] = { sum := 0, saturated := false }) ∧
    (∀ k : Fin 16, t.sampler.residuals[k] = { sum := 0, saturated := false }) ∧
    t.sched = { s.sched with dimSettle := s.sched.dimSettle - 1 } ∧
    (∀ g : Fin 16, t.groups[g].cfg = s.groups[g].cfg) ∧ t.conflicts = s.conflicts ∧ t.profiles = s.profiles ∧
    t.plans = s.plans ∧ t.stages = s.stages ∧ t.schedule = s.schedule ∧ t.base = s.base ∧ t.link = s.link ∧
    t.pending = s.pending)

/-- CROSSINGS WHILE THE MAINS ARE REGAINED. In MAINS_LOST a crossing becomes the reference, the tracker enters
ACQUIRING with a good count of 0, and the sampler opens a cycle. In ACQUIRING the first crossing, and one from 1.5 P
to 2.5 P, become the reference with a good count of 0 and no tick; one sooner than 0.9 P sets the good count to 0; one
to 1.1 P ends a cycle and raises the good count, one to 1.5 P ends a cycle and sets it to 0. The eighth good one in
succession ends a cycle, locks the tracker and brings the mains-return, to the schedule unit and the supervisor;
LOCK_ACQUIRED is that crossing (R21 to R24, R47, R150). That one at exactly 1.5 P is late also after the expiry (log
entry 13), what LOCK_ACQUIRED does otherwise, and which of the two is told first (log entries 5 and 11), are the
model's choices. -/
def Obligations.CrossingsRegainTheMains : Prop :=
  ∀ (s : State) (x : CrossingInput), s.base.mainPower = true →
    ∃ (opened : Sampler),
      opened =
        { position := some 0, spacing := s.base.frequency
          inputs := Vector.replicate 80 { sum := 0, saturated := false }
          residuals := Vector.replicate 16 { sum := 0, saturated := false }
          carriedBy := s.channels.map fun c => c.cfg.cable } ∧
      (s.base.tracker = .mainsLost →
        exec (.zeroCrossing x) s =
          .next { s with
            base := { s.base with
              tracker := .acquiring, reference := some x.instant, opening := .crossing, goodCount := 0 }
            sampler := opened
            junctionRev := s.junctionRev + 1 }) ∧
      (s.base.tracker = .acquiring → s.base.reference = none →
        exec (.zeroCrossing x) s =
          .next { s with
            base := { s.base with reference := some x.instant, opening := .crossing, goodCount := 0 }
            sampler := opened }) ∧
      (∀ r ns : Nat, s.base.tracker = .acquiring → s.base.reference = some r →
        ns = (x.instant - r) * s.base.frequency.hz * 10 →
        (ns < 9000000000 →
          exec (.zeroCrossing x) s = .next { s with base := { s.base with goodCount := 0 } }) ∧
        (15000000000 < ns → ns ≤ 25000000000 →
          exec (.zeroCrossing x) s =
            .next { s with
              base := { s.base with reference := some x.instant, opening := .crossing, goodCount := 0 }
              sampler := opened }) ∧
        (9000000000 ≤ ns → ns ≤ 15000000000 →
          ∃ (t : State) (due : Bool) (after : State → State),
            t = { s.cycleTick (decide (s.base.opening = .crossing)) x.tick with
              base := { s.base with
                reference := some x.instant, opening := .crossing, source := .cycles
                divider :=
                  if s.base.source = .crystal then 1
                  else if s.base.divider < (if s.base.frequency = .hz50 then 4 else 5) then s.base.divider + 1
                  else 0 } } ∧
            (due = true ↔
              s.base.source = .cycles ∧ (if s.base.frequency = .hz50 then 4 else 5) ≤ s.base.divider) ∧
            (11000000000 < ns → after = fun u => { u with base := { u.base with goodCount := 0 } }) ∧
            (ns ≤ 11000000000 → s.base.goodCount < 7 →
              after = fun u => { u with base := { u.base with goodCount := u.base.goodCount + 1 } }) ∧
            (ns ≤ 11000000000 → s.base.goodCount = 7 →
              (after = fun u =>
                let v := event (fun w => { w with base := { w.base with tracker := .locked } })
                  { u with base := { u.base with goodCount := 0 } }
                if x.tick.order.scheduleFirst = true then v.workOutEntry.mainsReturn
                else v.mainsReturn.workOutEntry) ∧
              exec (.lockAcquired x) s = exec (.zeroCrossing x) s) ∧
            (s.base.goodCount ≤ 7 →
              exec (.zeroCrossing x) s = .next
                (if due = true then
                  (if x.tick.order.returnFirst = true then (after t).tenth x.tick.tenth
                    else after (t.tenth x.tick.tenth))
                else after t)))) ∧
      ((s.base.tracker ≠ .acquiring ∨ s.base.goodCount ≠ 7 ∨ s.base.reference = none) →
        exec (.lockAcquired x) s = .next s)

/-- WINDOW EXPIRIES. With a reference, 1.5 P after it: in LOCKED a substitute tick without measurement, the divider
count raised, the cycle opening SUBSTITUTE, the tracker SLIP1, and a tenth tick where the count is complete; in
ACQUIRING the good count becomes 0. 2.5 P after it, in SLIP1 or ACQUIRING: MAINS_LOST with no reference, the good
count 0 and the tenths from the crystal, its divider restarted, and a mains-lost event. In other states nothing
happens (R19, R20, R22, R24, R26, R27). A cycle tick, measured or not, runs the proving unit, the working-out of the
red availability where a verdict was raised, the cable monitor, the proven-conflict count by the supervisor as the
tick found it, and the sequencer's proposal with its examination, in an order that an operand gives: the proving unit
before the three that use its work, the others in any order (R52, R60, R94, R95, R127, R131, R154, R155, R158; the
orders are log entry 11). That a change of the tracker and the mains-lost event are two events is the model's reading
(log entry 7). -/
def Obligations.WindowExpiries : Prop :=
  (∀ s : State, s.base.mainPower = true →
    (∀ (i : TickInput) (r : Nat), s.base.tracker = .locked → s.base.reference = some r →
      ∃ t : State,
        t = event (fun u => { u with base := { u.base with tracker := .slip1 } })
          { s.cycleTick false i with
            base := { s.base with
              opening := .substitute, source := .cycles
              divider :=
                if s.base.source = .crystal then 1
                else if s.base.divider < (if s.base.frequency = .hz50 then 4 else 5) then s.base.divider + 1
                else 0 } } ∧
        exec (.firstWindowExpiry i) s = .next
          (if s.base.source = .cycles ∧ (if s.base.frequency = .hz50 then 4 else 5) ≤ s.base.divider then
            t.tenth i.tenth
          else t)) ∧
    (∀ (i : TickInput) (r : Nat), s.base.tracker = .acquiring → s.base.reference = some r →
      exec (.firstWindowExpiry i) s = .next { s with base := { s.base with goodCount := 0 } }) ∧
    (∀ i : TickInput, (s.base.tracker = .slip1 ∨ s.base.tracker = .mainsLost ∨ s.base.reference = none) →
      exec (.firstWindowExpiry i) s = .next s) ∧
    (∀ r : Nat, (s.base.tracker = .slip1 ∨ s.base.tracker = .acquiring) → s.base.reference = some r →
      exec .secondWindowExpiry s = .next (event State.mainsLost
        (event (fun u => { u with base := { u.base with
          tracker := .mainsLost, reference := none, goodCount := 0, source := .crystal, divider := 0
          crystalCount := 0 } }) s))) ∧
    ((s.base.tracker = .locked ∨ s.base.tracker = .mainsLost ∨ s.base.reference = none) →
      exec .secondWindowExpiry s = .next s)) ∧
  (∀ (s : State) (measured : Bool) (i : TickInput),
    ∃ (readings : Option Readings) (start found done : State) (raised : Bool) (sequencer proving verdicts cables conflicts :
      State → State),
      readings = (if measured = true then some s.sampler.readings else none) ∧
      start = { s with
        counted := s.channels.map fun c => c.cfg.cable
        sched := if i.order.settleFirst = true then { s.sched with dimSettle := s.sched.dimSettle - 1 } else s.sched } ∧
      sequencer = (fun u => u.sequencerCycle measured i.det) ∧
      found = (if i.order.sequencerTurn = 0 then sequencer start else start) ∧
      (raised = true ↔ ∃ c : Fin 64, (found.proveChannel readings s.port c).raised = true) ∧
      proving = (fun u => u.proveTick readings s.port) ∧
      verdicts = (fun u => if raised = true then event (fun v => v.redCauses.refresh) u else u) ∧
      cables = (fun u => u.cableTick readings) ∧
      conflicts = (fun u => u.evidenceTick s.sup measured (s.channels.map Channel.command)) ∧
      done = ((proving :: (if i.order.cablesFirst = true then [cables, conflicts] else [conflicts, cables]).insertIdx
        i.order.verdictTurn.val verdicts).insertIdx i.order.sequencerTurn.val sequencer).foldl (fun u f => f u) start ∧
      s.cycleTick measured i =
        (if i.order.settleFirst = true then done
          else { done with sched := { done.sched with dimSettle := done.sched.dimSettle - 1 } }).openCycle)

/-- MAINS-LOST AND MAINS-RETURN. Mains-lost in STARTING, RUNNING or DARK makes the mode MAINS_OUT with the origin DARK or
OTHER, FSR released, the port off, the sequencer SUSPENDED, every group that was not DARK RED, and (JUNCTION, 0) posted
to SAFETY; a test under way is abandoned: its entry leaves the queue, the bridge is IDLE, its cable ABANDONED, posted to
NOTICE where HOST is among its origins. In other modes it does nothing. Mains-return in MAINS_OUT makes the mode DARK
where the origin is DARK, and STARTING at ALL_RED with the start red time taken where it is OTHER, posted to PLAN; there,
where a cause is present, or a condition holds, ALL_BARRED for the requested plan among them, the mode is at once
FAILSAFE, posted to SAFETY: the first cause is the highest of those present before it, or of those that hold now where
there were none, and the others are the further causes. In other modes it does nothing, and nothing else changes (R142,
R143, R146, R148 to R150, R156 to R158, R172). That the return to DARK gives the sequencer no direction is the model's
reading (log entry 19), and so are the two events of the return to STARTING and the causes it finds (log entry 7). -/
def Obligations.MainsLostAndReturn : Prop :=
  (∀ s : State,
    ((s.sup.mode = .starting ∨ s.sup.mode = .running ∨ s.sup.mode = .dark) →
      ∃ t, t = event State.mainsLost s ∧
        t.sup.origin = (if s.sup.mode = .dark then .dark else .other) ∧
        t.sup.presentCauses = (s.sup.presentCauses &&& ackCauses) ||| t.conditions ∧
        nameOf .junction 0 ∈ t.attn.sets[AClass.safety.rank] ∧
        (s.bridge.underTest = none →
          t.bridge = s.bridge ∧ t.cables = s.cables ∧ t.attn = s.attn.post .safety (nameOf .junction 0)) ∧
        (∀ k : Fin 16, s.bridge.underTest = some k →
          (s.bridge.entryOf k = none →
            t.bridge = s.bridge ∧ t.cables = s.cables ∧ t.attn = s.attn.post .safety (nameOf .junction 0)) ∧
          (∀ e, s.bridge.entryOf k = some e →
            (e.underTest = true → t.bridge =
              { state := .idle, underTest := none, timer := none, selection := .nothing
                queue := s.bridge.queue.filter fun x => x.cable ≠ k }) ∧
            (e.underTest = false → t.bridge =
              { s.bridge with queue := s.bridge.queue.filter fun x => x.cable ≠ k }) ∧
            t.cables = s.cables.set k { s.cables[k] with
              status := .abandoned
              rev := if s.cables[k].status = .abandoned then s.cables[k].rev else s.cables[k].rev + 1 } ∧
            t.attn = (if e.origins.host = true then s.attn.post .notice (nameOf .cable k.val) else s.attn).post .safety
              (nameOf .junction 0))) ∧
        t = { s with
          sup := { s.sup.idledIn .mainsOut false with origin := t.sup.origin, presentCauses := t.sup.presentCauses }
          seq := s.seq.suspended
          groups := s.groups.map Group.turnedRed
          port := Machine.allOff
          attn := t.attn, bridge := t.bridge, cables := t.cables
          junctionRev := s.junctionRev + 1 }) ∧
    (s.sup.mode ≠ .starting → s.sup.mode ≠ .running → s.sup.mode ≠ .dark → event State.mainsLost s = s)) ∧
  (∀ s : State,
    (s.sup.mode ≠ .mainsOut → s.mainsReturn = s) ∧
    (s.sup.mode = .mainsOut → s.sup.origin = .dark →
      s.mainsReturn = { s with
        sup := s.sup.idledIn .dark true
        port := Machine.allOff
        attn := s.attn.post .plan (nameOf .junction 0)
        junctionRev := s.junctionRev + 1 }) ∧
    (s.sup.mode = .mainsOut → s.sup.origin = .other → s.sup.presentCauses = 0 → s.vehicleShort = false →
      s.vehicleDark = false → (∀ p, s.sched.requested = some p → s.allStagesBarred p = false) →
      s.mainsReturn = { s with
        sup := { s.sup with
          mode := .starting, fsr := true, phase := some .allRed, phaseTimer := some 0
          redInUse := some s.sup.startRed }
        seq := s.seq.emptied .allRed
        groups := s.groups.map Group.turnedRed
        attn := s.attn.post .plan (nameOf .junction 0)
        junctionRev := s.junctionRev + 1 }) ∧
    (s.sup.mode = .mainsOut → s.sup.origin = .other →
      s.sup.presentCauses ≠ 0 ∨ s.vehicleShort = true ∨ s.vehicleDark = true ∨
        (∃ p, s.sched.requested = some p ∧ s.allStagesBarred p = true) →
      ∃ (t : State) (first : Cause), t = s.mainsReturn ∧ t.sup.mode = .failsafe ∧
        (s.sup.presentCauses ≠ 0 → topCause s.sup.presentCauses = some first) ∧
        (s.sup.presentCauses = 0 → topCause t.conditions = some first) ∧
        (s.sup.presentCauses = 0 → s.vehicleShort = false → s.vehicleDark = false →
          first = .allBarred ∧ t.sup.presentCauses = Cause.allBarred.only ∧ t.sup.furtherCauses = 0) ∧
        t.sup.presentCauses = (s.sup.presentCauses &&& ackCauses) ||| t.conditions ∧
        (∀ c : Cause, holds t.sup.furtherCauses c = true ↔
          c ≠ first ∧ (holds s.sup.presentCauses c = true ∨ holds t.sup.presentCauses c = true)) ∧
        t = { s with
          sup := { s.sup.idledIn .failsafe false with
            presentCauses := t.sup.presentCauses, firstCause := some first, furtherCauses := t.sup.furtherCauses }
          seq := s.seq.emptied .stopped
          groups := s.groups.map Group.turnedRed
          port := Machine.allOff
          attn := (s.attn.post .plan (nameOf .junction 0)).post .safety (nameOf .junction 0)
          junctionRev := s.junctionRev + 2 }))

/-- TENTH TICK. A tenth tick of the crystal, while the tenths come from it, and of the cascade, while they come from
cycles, takes the time of day one tenth on; the crystal's takes its five-tenth pattern one on as well, and completes
that while the tenths come from cycles without a tenth tick; nothing else of the time base changes. It goes to the
time base, the sequencer, the cable monitor and the supervisor. At second 0 and tenth 0 the minute boundary is taken:
with the time valid, the lowest-numbered ENABLED entry that matches day, hour and minute sets the scheduled plan and
dimming, or, its plan EMPTY, is posted to NOTICE. The sequencer raises its timers and counters, marks the detectors
ACTIVE too long faulty, then takes the interstage and the green. Outside STARTING and RUNNING, STOPPED or SUSPENDED,
with no test under way, each group's since-green counter rises by one up to 250 and its state timer by one up to
65,535, and nothing else of the group changes (R26 to R29, R46, R61, R62, R68, R80). A tenth of a source that is not
the current one (log entry 6), and the order of the blocks (log entry 12), are the model's choice. -/
def Obligations.TenthTick : Prop :=
  (∀ (s : State) (i : TenthInput), s.base.mainPower = true →
    (s.base.source = .cycles →
      exec (.tenthTick .crystal i) s =
        .next { s with base := { s.base with crystalCount := 0, crystalTenth := (s.base.crystalTenth + 1) % 5 } }) ∧
    (s.base.source = .crystal → exec (.tenthTick .cycles i) s = .next s) ∧
    (∃ (t start : State) (time : TimeOfDay), exec (.tenthTick s.base.source i) s = .next t ∧
      (s.base.time.inRange = true →
        time.inRange = true ∧ time.instant = (s.base.time.instant + 1) % tenthsPerWeek) ∧
      (s.base.source = .cycles → start = s) ∧
      (s.base.source = .crystal →
        start = { s with base := { s.base with
          crystalCount := 0, crystalTenth := (s.base.crystalTenth + 1) % 5 } }) ∧
      t.base = { start.base with time := time } ∧
      t = start.tenth i ∧
      t.link = s.link ∧ t.conflicts = s.conflicts ∧ t.profiles = s.profiles ∧ t.sampler = s.sampler ∧
      t.counted = s.counted ∧
      ((s.seq.state = .stopped ∨ s.seq.state = .suspended) → s.sup.mode ≠ .starting → s.sup.mode ≠ .running →
        s.sup.phase = none → s.bridge.underTest = none →
        ∀ g : Fin 16, t.groups[g] = { s.groups[g] with
          sinceGreen := min (s.groups[g].sinceGreen + 1) 250
          stateTimer := min (s.groups[g].stateTimer + 1) 65535 }))) ∧
  (∀ (s : State) (i : TenthInput), ∃ clock sequencer others : State → State,
    clock = (fun u => u.clockTenth) ∧ sequencer = (fun u => u.sequencerTenth) ∧
    (i.queueFirst = true → others = fun u => (u.queueTenth i).supervisorTenth) ∧
    (i.queueFirst = false → others = fun u => u.supervisorTenth.queueTenth i) ∧
    (i.clock = .beforeAll → s.tenth i = others (sequencer (clock s))) ∧
    (i.clock = .afterSequencer → s.tenth i = others (clock (sequencer s))) ∧
    (i.clock = .afterAll → s.tenth i = clock (others (sequencer s)))) ∧
  (∀ s : State, ∃ (t : State) (due : Fin 24 → Prop),
    t = { s with base := { s.base with time := s.base.time.advance } } ∧
    (∀ e : Fin 24, due e ↔
      s.schedule[e].cfg.state = .enabled ∧ 1 ≤ t.base.time.day ∧
      s.schedule[e].cfg.days.getLsbD (t.base.time.day - 1) = true ∧ s.schedule[e].cfg.hour = t.base.time.hour ∧
      s.schedule[e].cfg.minute = t.base.time.minute) ∧
    (t.base.time.second ≠ 0 ∨ t.base.time.tenth ≠ 0 ∨ s.base.timeValid = false ∨ (∀ e, ¬due e) →
      s.clockTenth = t) ∧
    (t.base.time.second = 0 → t.base.time.tenth = 0 → s.base.timeValid = true → ∀ e : Fin 24, due e →
      (∀ f : Fin 24, f < e → ¬due f) →
      (s.plans[s.schedule[e].cfg.plan].loaded = true →
        s.clockTenth = t.setScheduled s.schedule[e].cfg.plan s.schedule[e].cfg.dimming) ∧
      (s.plans[s.schedule[e].cfg.plan].loaded = false →
        s.clockTenth = { t with attn := t.attn.post .notice (nameOf .schedule e.val) }))) ∧
  (∀ s : State, ∃ (t : State) (run : Fin 16 → Nat) (stuck : Fin 16 → Prop),
    s.sequencerTenth = event State.greenStep (event State.interstageStep t) ∧
    (∀ d : Fin 16, run d =
      if s.detectors[d].cfg.enabled = true ∧ s.detectors[d].level = true then min (s.detectors[d].activeRun + 1) 65535
      else s.detectors[d].activeRun) ∧
    (∀ d : Fin 16, stuck d ↔ s.detectors[d].faulty = false ∧ 0 < s.detectors[d].cfg.stuckLimit ∧
      s.detectors[d].cfg.stuckLimit * 600 < run d) ∧
    (∀ d : Fin 16,
      (stuck d → t.detectors[d] = { s.detectors[d] with
        activeRun := run d, faulty := true, latch := true, rev := s.detectors[d].rev + 1 }) ∧
      (¬stuck d → t.detectors[d] = { s.detectors[d] with activeRun := run d })) ∧
    (∀ g : Fin 16, t.groups[g] = { s.groups[g] with
      sinceGreen := min (s.groups[g].sinceGreen + 1) 250
      stateTimer := min (s.groups[g].stateTimer + 1) 65535 }) ∧
    t.seq = { s.seq with
      interstage := s.seq.interstage.map fun r => { r with timer := r.timer + 1 }
      context := s.seq.context.map fun c =>
        { c with greenTimer := min (c.greenTimer + 1) 65535, maxTimer := c.maxTimer.map (· + 1) } } ∧
    (∀ r : RecordName, r ∈ t.attn.sets[AClass.notice.rank] ↔
      r ∈ s.attn.sets[AClass.notice.rank] ∨ ∃ d : Fin 16, stuck d ∧ r = nameOf .detector d.val) ∧
    (∀ c : AClass, c ≠ .notice → t.attn.sets[c.rank] = s.attn.sets[c.rank]) ∧
    t.attn.masked = s.attn.masked ∧ t.attn.chain = s.attn.chain ∧
    t = { s with seq := t.seq, groups := t.groups, detectors := t.detectors, attn := t.attn })

/-- SAMPLE POSITION. While positions run, a frame of 80 samples moves to the next position, none after the 32nd, and adds the
square of each sample to its input's sum, and the square of each cable's return sample less the samples of the channels it
carried at the cycle opening to its residual sum; a sum that would pass 16,777,215 becomes 16,777,215 and is marked
saturated, and a marked one stays. With no positions running nothing happens. Nothing else changes (R101 to R104). -/
def Obligations.SamplePosition : Prop :=
  ∀ (s : State) (frame : Vector Sample 80), s.base.mainPower = true →
    (s.sampler.position = none → exec (.samplePosition frame) s = .next s) ∧
    (∀ n : Fin 32, s.sampler.position = some n →
      ∃ p : Sampler, exec (.samplePosition frame) s = .next { s with sampler := p } ∧
        p.position.map Fin.val = (if n.val + 1 < 32 then some (n.val + 1) else none) ∧
        p.spacing = s.sampler.spacing ∧ p.carriedBy = s.sampler.carriedBy ∧
        (∀ j : Fin 80,
          (s.sampler.inputs[j].saturated = true → p.inputs[j] = s.sampler.inputs[j]) ∧
          (s.sampler.inputs[j].saturated = false →
            p.inputs[j].sum = min 16777215 (s.sampler.inputs[j].sum + (frame[j].toInt * frame[j].toInt).toNat) ∧
            (p.inputs[j].saturated = true ↔
              16777215 < s.sampler.inputs[j].sum + (frame[j].toInt * frame[j].toInt).toNat))) ∧
        (∀ k : Fin 16, ∃ residual : Int,
          residual = (frame[64 + k.val]).toInt -
            ((List.finRange 64).map fun (c : Fin 64) =>
              if s.sampler.carriedBy[c] = some k then (frame[c.val]).toInt else 0).sum ∧
          (s.sampler.residuals[k].saturated = true → p.residuals[k] = s.sampler.residuals[k]) ∧
          (s.sampler.residuals[k].saturated = false →
            p.residuals[k].sum = min 16777215 (s.sampler.residuals[k].sum + (residual * residual).toNat) ∧
            (p.residuals[k].saturated = true ↔
              16777215 < s.sampler.residuals[k].sum + (residual * residual).toNat))))

/-- READING IS TWICE THE ROOT. The reading of a final sum S, from 0 to 16,777,215, is 2 × q mA, q being the largest whole
number whose square is not above floor(S / 32); it lies from 0 to 1448 mA and is even, and its mark is the
accumulator's; a saturated accumulator holds the full sum and so reads 1448 mA. Channel, return and residual readings are
formed in the same way (R106). -/
def Obligations.ReadingIsTwiceTheRoot : Prop :=
  (∀ a : Accumulator, a.sum ≤ 16777215 →
    ∃ q : Nat, a.reading.mA = 2 * q ∧ q * q ≤ a.sum / 32 ∧ a.sum / 32 < (q + 1) * (q + 1) ∧
      a.reading.mA ≤ 1448 ∧ a.reading.saturated = a.saturated ∧ (a.sum = 16777215 → a.reading.mA = 1448)) ∧
  (∀ (a : Accumulator) (n : Nat), (a.saturated = true → a.sum = 16777215) → (a.add n).saturated = true →
    (a.add n).sum = 16777215 ∧ (a.add n).reading = { mA := 1448, saturated := true }) ∧
  (∀ (p : Sampler) (c : Fin 64) (k : Fin 16),
    p.readings.channels[c] = (p.inputs[c.val]).reading ∧ p.readings.returns[k] = (p.inputs[64 + k.val]).reading ∧
    p.readings.residuals[k] = p.residuals[k].reading)

/-! ## Proving -/

/-- JUDGEMENTS. Classification goes by the thresholds B, O, L and U of the baseline and the profile, the first
matching line deciding; the off check by the off limit; learning by the off limit. A good result ends the streak and
leaves the verdict; a bad one raises it and keeps the more severe kind. A good classification with tracking moves the
baseline by a sixty-fourth of the gap, truncated toward zero, and into the clamp range of 75 % to 125 % of the
reference; without tracking, or with a bad result, the baseline stays. A measured reading is recorded with its
seen-lit value. One that R95 does not allow to be judged changes nothing more. One judged in STEADY is classified
where the active part is LEARNED, and otherwise joins the learn sum and count where it is good and completes learning
at sixteen; one in OFF is given the off check; then a streak at the confirm count is confirmed. The active part is the
dim part in DIM of a dimmable channel, and else the bright part. At a tick the channel then takes its next phase and
command, its revision moves by one where a settled field changed, and (CHANNEL, c) is posted to LAMP where learning
failed or a verdict rose (R82, R83, R91 to R95, R108 to R111, R113 to R119). -/
def Obligations.Judgements : Prop :=
  (∀ (f : ProfileConfig) (p : Part) (r : Reading), ∃ b o l u : Nat,
    b = p.baseline / 16 ∧ o = b * f.out / 100 ∧ l = b * (100 - f.bandLow) / 100 ∧
    u = b * (100 + f.bandHigh) / 100 ∧
    (r.saturated = true → classResult f p r = .bad .over) ∧
    (r.saturated = false →
      (r.mA < o → classResult f p r = .bad .out) ∧
      (o ≤ r.mA → r.mA < l → classResult f p r = .bad .partialLoss) ∧
      (o ≤ r.mA → l ≤ r.mA → r.mA ≤ u → classResult f p r = .good) ∧
      (o ≤ r.mA → l ≤ r.mA → u < r.mA → classResult f p r = .bad .over)) ∧
    (∃ d : Int, d = Int.tdiv ((r.mA : Int) * 16 - (p.baseline : Int)) 64 ∧
      (f.tracking = true → classResult f p r = .good →
        (p.classify f r).baseline =
          max (p.reference * 75 / 100) (min (p.reference * 125 / 100) ((p.baseline : Int) + d).toNat)) ∧
      (f.tracking = false ∨ classResult f p r ≠ .good → p.classify f r = p) ∧
      p.classify f r = { p with baseline := (p.classify f r).baseline })) ∧
  (∀ (f : ProfileConfig) (r : Reading),
    (offResult f r = .good ↔ r.saturated = false ∧ r.mA ≤ f.offLimit) ∧
    (offResult f r ≠ .good → offResult f r = .bad .stuckOn) ∧
    (r.saturated = true → learnResult f r = .bad .over) ∧
    (r.saturated = false → r.mA ≤ f.offLimit → learnResult f r = .bad .out) ∧
    (r.saturated = false → f.offLimit < r.mA → learnResult f r = .good)) ∧
  (∀ (c : Channel) (k : BadKind),
    c.applyResult .good = { c with badStreak := 0, worst := none } ∧
    (c.applyResult (.bad k)).badStreak = c.badStreak + 1 ∧
    severity (c.applyResult (.bad k)).worst = max (severity c.worst) (severity (some k)) ∧
    (c.applyResult (.bad k)).verdict = c.verdict) ∧
  (∀ (s : State) (c : Fin 64) (r : Reading),
    (s.sup.mode ≠ .starting ∧ s.sup.mode ≠ .running ∧ s.sup.mode ≠ .dark) ∨ s.used c = false ∨
      s.onIsolated c = true ∨ (s.channels[c].phase = .steady ∧ s.sched.dimSettle ≠ 0) ∨
      s.channels[c].phase = .surge ∨ s.channels[c].phase = .settle ∨ s.channels[c].phase = .release →
    s.judgeChannel c r =
      { channel := { s.channels[c] with
          lastReading := r
          seenLit := r.saturated || decide ((s.profileOf c).offLimit < r.mA) }
        failed := false, raised := false }) ∧
  (∀ (c : Channel) (d : Dimming) (p : Part),
    (d = .dim ∧ c.cfg.dimmable = true ∧ c.dim ≠ none →
      c.dim = some (c.active d) ∧ c.setActive d p = { c with dim := some p }) ∧
    (¬(d = .dim ∧ c.cfg.dimmable = true ∧ c.dim ≠ none) →
      c.active d = c.bright ∧ c.setActive d p = { c with bright := p })) ∧
  (∀ (c : Channel) (f : ProfileConfig) (d : Dimming), ∃ (old : Part) (mean : Nat),
    old = c.active d ∧ mean = old.learnSum / 16 ∧
    (mean < 2 * f.offLimit →
      c.completeLearning f d = { c.setActive d { old with learnSum := 0, learnCount := 0 } with learnFailed := true }) ∧
    (2 * f.offLimit ≤ mean →
      c.completeLearning f d =
        { c.setActive d
            { learned := true, learnSum := 0, learnCount := 0, reference := mean * 16, baseline := mean * 16 } with
          learnFailed := false })) ∧
  (∀ (s : State) (c : Fin 64) (r : Reading) (f : ProfileConfig) (d : Dimming),
    (s.sup.mode = .starting ∨ s.sup.mode = .running ∨ s.sup.mode = .dark) → s.used c = true →
    s.onIsolated c = false → (s.channels[c].phase = .steady ∧ s.sched.dimSettle = 0) ∨ s.channels[c].phase = .off →
    f = s.profileOf c → d = s.sched.dimState →
    ∃ (x judged : Channel) (part : Part) (failed : Bool),
      x = { s.channels[c] with lastReading := r, seenLit := r.saturated || decide (f.offLimit < r.mA) } ∧
      part = x.active d ∧
      (x.phase = .off → judged = x.applyResult (offResult f r) ∧ failed = false) ∧
      (x.phase = .steady → part.learned = true →
        judged = (x.setActive d (part.classify f r)).applyResult (classResult f part r) ∧ failed = false) ∧
      (x.phase = .steady → part.learned = false → ∃ (grown : Part) (y : Channel),
        grown = (if learnResult f r = .good then
            { part with learnSum := part.learnSum + r.mA, learnCount := part.learnCount + 1 }
          else part) ∧
        y = (x.setActive d grown).applyResult (learnResult f r) ∧
        (16 ≤ grown.learnCount →
          judged = y.completeLearning f d ∧ failed = decide (grown.learnSum / 16 < 2 * f.offLimit)) ∧
        (grown.learnCount < 16 → judged = y ∧ failed = false)) ∧
      (judged.badStreak = 0 ∨ judged.badStreak < f.confirmCount →
        s.judgeChannel c r = { channel := judged, failed := failed, raised := false }) ∧
      (0 < judged.badStreak → f.confirmCount ≤ judged.badStreak →
        s.judgeChannel c r =
          { channel := { judged with
              verdict := if severity judged.verdict < severity judged.worst then judged.worst else judged.verdict
              badStreak := 0, worst := none }
            failed := failed, raised := decide (severity judged.verdict < severity judged.worst) })) ∧
  (∀ (s : State) (readings : Option Readings) (opening : Vector Bool 64), ∃ (t : State) (j : Fin 64 → Judged),
    t = s.proveTick readings opening ∧
    (∀ c : Fin 64,
      (readings = none → j c = { channel := s.channels[c], failed := false, raised := false }) ∧
      (∀ r, readings = some r → j c = s.judgeChannel c r.channels[c]) ∧
      (s.proveChannel readings opening c).raised = (j c).raised ∧
      ∃ x : Channel, x = (j c).channel.advance (s.profileOf c) opening[c] ∧
        t.channels[c] = { x with rev := if s.channels[c].settled = x.settled then x.rev else x.rev + 1 }) ∧
    (∀ r : RecordName, r ∈ t.attn.sets[AClass.lamp.rank] ↔
      r ∈ s.attn.sets[AClass.lamp.rank] ∨
        ∃ c : Fin 64, ((j c).failed = true ∨ (j c).raised = true) ∧ r = nameOf .channel c.val) ∧
    (∀ c : AClass, c ≠ .lamp → t.attn.sets[c.rank] = s.attn.sets[c.rank]) ∧
    t.attn.masked = s.attn.masked ∧ t.attn.chain = s.attn.chain ∧
    t = { s with channels := t.channels, attn := t.attn })

/-- LEARN_COMPLETE AND STREAK_CONFIRM. An UNLEARNED active part with sixteen good readings completes learning: with the mean,
floor(learn sum / 16), below twice the off limit, the sum and count start again, learn-failed is set and (CHANNEL, c) is
posted to LAMP; otherwise the part is LEARNED with the mean in sixteenths as reference and baseline, and learn-failed is
cleared. A streak at its profile's confirm count is confirmed: where the worst kind is more severe than the verdict it
becomes the verdict, (CHANNEL, c) is posted to LAMP and the red availability is worked out; in both cases the streak ends.
Where neither is due nothing happens, which is the model's choice (log entry 5) (R111, R119, R155). -/
def Obligations.LearnCompleteAndStreakConfirm : Prop :=
  ∀ (s : State) (c : Fin 64), s.base.mainPower = true →
    ((s.channels[c].active s.sched.dimState).learned = false →
      16 ≤ (s.channels[c].active s.sched.dimState).learnCount →
      ∃ (old new : Part) (mean : Nat) (x : Channel),
        old = s.channels[c].active s.sched.dimState ∧ mean = old.learnSum / 16 ∧
        (mean < 2 * (s.profileOf c).offLimit → new = { old with learnSum := 0, learnCount := 0 }) ∧
        (2 * (s.profileOf c).offLimit ≤ mean →
          new = { learned := true, learnSum := 0, learnCount := 0, reference := mean * 16, baseline := mean * 16 }) ∧
        x = { s.channels[c] with
          bright :=
            if s.sched.dimState = .dim ∧ s.channels[c].cfg.dimmable = true ∧ s.channels[c].dim.isSome = true then
              s.channels[c].bright
            else new
          dim :=
            if s.sched.dimState = .dim ∧ s.channels[c].cfg.dimmable = true ∧ s.channels[c].dim.isSome = true then
              some new
            else s.channels[c].dim
          learnFailed := decide (mean < 2 * (s.profileOf c).offLimit)
          rev := if s.channels[c].settled = x.settled then s.channels[c].rev else s.channels[c].rev + 1 } ∧
        exec (.learnComplete c) s =
          .next { s with
            channels := s.channels.set c x
            attn := if mean < 2 * (s.profileOf c).offLimit then s.attn.post .lamp (nameOf .channel c.val)
              else s.attn }) ∧
    ((s.channels[c].active s.sched.dimState).learned = true ∨
      (s.channels[c].active s.sched.dimState).learnCount < 16 → exec (.learnComplete c) s = .next s) ∧
    (0 < s.channels[c].badStreak → (s.profileOf c).confirmCount ≤ s.channels[c].badStreak →
      (severity s.channels[c].verdict < severity s.channels[c].worst →
        exec (.streakConfirm c) s =
          .next (event (fun u => (({ u with
            channels := u.channels.set c
              { u.channels[c] with
                verdict := u.channels[c].worst, badStreak := 0, worst := none, rev := u.channels[c].rev + 1 }
            attn := u.attn.post .lamp (nameOf .channel c.val) } : State).redCauses).refresh) s)) ∧
      (severity s.channels[c].worst ≤ severity s.channels[c].verdict →
        exec (.streakConfirm c) s =
          .next { s with
            channels := s.channels.set c { s.channels[c] with badStreak := 0, worst := none } })) ∧
    (s.channels[c].badStreak = 0 ∨ s.channels[c].badStreak < (s.profileOf c).confirmCount →
      exec (.streakConfirm c) s = .next s)

/-- PHASE ENDS. The last cycle of SURGE gives way to SETTLE for the settle duration, or to STEADY where that is 0; of
SETTLE to STEADY; of RELEASE to OFF; the last cycle of the dim settle ends it. Nothing else changes. At a cycle tick a
channel whose command is switched on enters SURGE, SETTLE where its surge duration is 0, or STEADY where both are 0,
and one switched off RELEASE, or OFF where its release duration is 0, each for the duration; with the command
unchanged a timed phase counts one cycle down, and its last gives way as above, and OFF and STEADY stay; the dim
settle counts one down to 0. The duration code table is as the manual gives it. That the steps do nothing in other
states is the model's choice (log entry 5) (R52, R89 to R92). -/
def Obligations.PhaseEnds : Prop :=
  ((List.range 16).map durationOf = [0, 1, 2, 3, 4, 6, 8, 10, 12, 16, 20, 25, 32, 40, 50, 64] ∧
  ∀ s : State, s.base.mainPower = true →
    (∀ c : Fin 64,
      (s.channels[c].phase = .surge → s.channels[c].remaining = 1 →
        exec (.surgeEnd c) s =
          .next { s with
            channels := s.channels.set c
              { s.channels[c] with
                phase := if durationOf (s.profileOf c).settleCode = 0 then .steady else .settle
                remaining := durationOf (s.profileOf c).settleCode } }) ∧
      (s.channels[c].phase = .settle → s.channels[c].remaining = 1 →
        exec (.settleEnd c) s =
          .next { s with channels := s.channels.set c { s.channels[c] with phase := .steady, remaining := 0 } }) ∧
      (s.channels[c].phase = .release → s.channels[c].remaining = 1 →
        exec (.releaseEnd c) s =
          .next { s with channels := s.channels.set c { s.channels[c] with phase := .off, remaining := 0 } }) ∧
      (s.channels[c].phase ≠ .surge ∨ s.channels[c].remaining ≠ 1 → exec (.surgeEnd c) s = .next s) ∧
      (s.channels[c].phase ≠ .settle ∨ s.channels[c].remaining ≠ 1 → exec (.settleEnd c) s = .next s) ∧
      (s.channels[c].phase ≠ .release ∨ s.channels[c].remaining ≠ 1 → exec (.releaseEnd c) s = .next s)) ∧
    (s.sched.dimSettle = 1 → exec .dimSettleEnd s = .next { s with sched := { s.sched with dimSettle := 0 } }) ∧
    (s.sched.dimSettle ≠ 1 → exec .dimSettleEnd s = .next s)) ∧
  (∀ (c : Channel) (f : ProfileConfig) (on : Bool), ∃ (x : Channel) (afterSurge : Phase),
    x = c.advance f on ∧ afterSurge = (if durationOf f.settleCode = 0 then .steady else .settle) ∧
    x = { c with command := on, phase := x.phase, remaining := x.remaining } ∧
    (c.command = false → on = true →
      (durationOf f.surgeCode ≠ 0 → x.phase = .surge ∧ x.remaining = durationOf f.surgeCode) ∧
      (durationOf f.surgeCode = 0 → x.phase = afterSurge ∧ x.remaining = durationOf f.settleCode)) ∧
    (c.command = true → on = false →
      x.phase = (if durationOf f.releaseCode = 0 then .off else .release) ∧ x.remaining = durationOf f.releaseCode) ∧
    (c.command = on →
      (c.phase = .off ∨ c.phase = .steady → x.phase = c.phase ∧ x.remaining = c.remaining) ∧
      (c.phase ≠ .off → c.phase ≠ .steady → 1 < c.remaining →
        x.phase = c.phase ∧ x.remaining = c.remaining - 1) ∧
      (c.remaining ≤ 1 →
        (c.phase = .surge → x.phase = afterSurge ∧ x.remaining = durationOf f.settleCode) ∧
        (c.phase = .settle → x.phase = .steady ∧ x.remaining = 0) ∧
        (c.phase = .release → x.phase = .off ∧ x.remaining = 0)))) ∧
  (∀ s : State, s.settleTick = { s with sched := { s.sched with dimSettle := s.sched.dimSettle - 1 } })

/-! ## Cables and the bridge -/

/-- CABLE CONFIRMATIONS. In a measured cycle every cable's return and residual readings are recorded, and each
MONITORED cable is evaluated in STARTING, RUNNING and DARK. Open return is indicated where the return is below 10 mA
and not saturated and the readings of the seen-lit channels counted on the cable, a saturated one as 1448 mA, make 50
mA: its streak rises and balance is not judged; else it is 0, and the balance streak rises where the residual is above
the tolerance or saturated, and becomes 0 otherwise. At a streak of 10 the fault is confirmed and its streak becomes
0. A confirmation of a fault already latched does nothing more; another latches it and posts (CABLE, k) to the class
of the cable's route, and a MONITORED cable with the action ISOLATE becomes ISOLATED with both streaks 0 and the dark
causes worked out afresh. A tick without measurement evaluates nothing. That the steps below 10 do nothing is the
model's choice (log entry 5) (R85, R126 to R131). -/
def Obligations.CableConfirmations : Prop :=
  (∀ (s : State) (k : Fin 16), s.base.mainPower = true →
    (10 ≤ s.cables[k].openStreak →
      exec (.openReturnConfirm k) s =
        .next (event (fun u => ({ u with
          cables := u.cables.set k { u.cables[k] with openStreak := 0 } } : State).confirmFault k .openReturn) s)) ∧
    (s.cables[k].openStreak < 10 → exec (.openReturnConfirm k) s = .next s) ∧
    (10 ≤ s.cables[k].balanceStreak →
      exec (.balanceConfirm k) s =
        .next (event (fun u => ({ u with
          cables := u.cables.set k { u.cables[k] with balanceStreak := 0 } } : State).confirmFault k .balance) s)) ∧
    (s.cables[k].balanceStreak < 10 → exec (.balanceConfirm k) s = .next s)) ∧
  (∀ (s : State) (k : Fin 16) (f : CableFault), ∃ (faults : FaultSet) (attn : Attention),
    (∀ x : CableFault, faults.has x = true ↔ x = f ∨ s.cables[k].faults.has x = true) ∧
    attn = s.attn.post (match s.cables[k].route with
      | .urgent => .urgent
      | .notice => .notice) (nameOf .cable k.val) ∧
    (s.cables[k].faults.has f = true → s.confirmFault k f = s) ∧
    (s.cables[k].faults.has f = false →
      (s.cables[k].action = .isolate → s.cables[k].state = .monitored →
        s.confirmFault k f =
          ({ s with
            cables := s.cables.set k
              { s.cables[k] with faults := faults, state := .isolated, balanceStreak := 0, openStreak := 0 }
            attn := attn } : State).darkCauses) ∧
      (s.cables[k].action = .report ∨ s.cables[k].state ≠ .monitored →
        s.confirmFault k f =
          { s with cables := s.cables.set k { s.cables[k] with faults := faults }, attn := attn }))) ∧
  (∀ (s : State) (k : Fin 16), ∃ (sum : Nat) (indicated : Prop) (balance : Nat),
    sum = ((List.finRange 64).map fun (c : Fin 64) =>
      if s.counted[c] = some k ∧ s.channels[c].seenLit = true then
        (if s.channels[c].lastReading.saturated = true then 1448 else s.channels[c].lastReading.mA)
      else 0).sum ∧
    (indicated ↔ s.cables[k].lastReturn.mA < 10 ∧ s.cables[k].lastReturn.saturated = false ∧ 50 ≤ sum) ∧
    balance =
      (if s.cables[k].tolerance < s.cables[k].lastResidual.mA ∨ s.cables[k].lastResidual.saturated = true then
        s.cables[k].balanceStreak + 1
      else 0) ∧
    (s.cables[k].state ≠ .monitored ∨
        (s.sup.mode ≠ .starting ∧ s.sup.mode ≠ .running ∧ s.sup.mode ≠ .dark) →
      s.evaluateCable k = s) ∧
    (s.cables[k].state = .monitored → (s.sup.mode = .starting ∨ s.sup.mode = .running ∨ s.sup.mode = .dark) →
      (indicated → s.cables[k].openStreak + 1 < 10 →
        s.evaluateCable k = { s with
          cables := s.cables.set k { s.cables[k] with openStreak := s.cables[k].openStreak + 1 } }) ∧
      (indicated → 10 ≤ s.cables[k].openStreak + 1 →
        s.evaluateCable k = event (fun u => ({ u with
          cables := u.cables.set k { u.cables[k] with openStreak := 0 } } : State).confirmFault k .openReturn) s) ∧
      (¬indicated → balance < 10 →
        s.evaluateCable k = { s with
          cables := s.cables.set k { s.cables[k] with openStreak := 0, balanceStreak := balance } }) ∧
      (¬indicated → 10 ≤ balance →
        s.evaluateCable k = event (fun u => ({ u with
          cables := u.cables.set k { u.cables[k] with openStreak := 0, balanceStreak := 0 } } :
          State).confirmFault k .balance) s))) ∧
  (∀ (s : State) (r : Readings), s.cableTick none = s ∧
    ∃ recorded : Vector Cable 16,
      (∀ k : Fin 16, recorded[k] =
        { s.cables[k] with lastReturn := r.returns[k], lastResidual := r.residuals[k] }) ∧
      s.cableTick (some r) =
        (List.finRange 16).foldl (fun u k => u.evaluateCable k) { s with cables := recorded })

/-- BRIDGE STEPS. The idle bridge takes, of the eligible entries, the earliest of the highest class; with the
reference within 1900 to 2100 µA it charges the cable, TESTING, and with another it enters BRIDGE_FAULT, posted to
URGENT. At 20 tenths of charging it measures. At 30 the result is taken: 0 µA above range, 4095 µA below range, else
floor(500,000 / leak) kΩ, passing at or above the limit of the test; the entry leaves the queue, the bridge is IDLE
and selects nothing; a pass clears the suspect mark; a failure sets it and asks for a RETEST after 600 tenths, or on a
suspect cable with RETEST among the origins confirms INSULATION, which latches, posts and isolates as any fault; HOST
among the origins posts (CABLE, k) to NOTICE. An entry not under test that has waited 6001 tenths is removed,
TIMED_OUT. At a tenth the waiting times and the test timer rise and the not-before waits fall, the running test
advances, the timed-out entries go, and an idle bridge arbitrates, each an event. BSEL presents 0, 1 for the reference
or 16 + k. Steps not due do nothing, which is the model's choice (log entry 5) (R76, R85, R130, R131, R133, R137 to
R142). -/
def Obligations.BridgeSteps : Prop :=
  (∀ s : State,
    (∀ e : QueueEntry, s.entryEligible e = true ↔
      e.underTest = false ∧ e.notBefore = 0 ∧ s.cables[e.cable].state ≠ .unused ∧ s.sup.mode ≠ .mainsOut ∧
      ∀ c : Fin 64, s.counted[c] = some e.cable → s.used c = true →
        s.channels[c].command = false ∧ s.port[c] = false ∧ s.channels[c].phase = .off) ∧
    (s.nextEntry = none ↔ ∀ e ∈ s.bridge.queue, s.entryEligible e = false) ∧
    (∀ e, s.nextEntry = some e →
      s.entryEligible e = true ∧
      (∀ x ∈ s.bridge.queue, s.entryEligible x = true → e.cls.rank ≤ x.cls.rank) ∧
      ∃ before after, s.bridge.queue = before ++ e :: after ∧
        ∀ x ∈ before, s.entryEligible x = true → x.cls ≠ e.cls)) ∧
  (∀ s : State, s.base.mainPower = true →
    (∀ bref : Microamps,
      (s.bridge.state ≠ .idle ∨ s.nextEntry = none → exec (.testStart bref) s = .next s) ∧
      (∀ e, s.bridge.state = .idle → s.nextEntry = some e →
        (1900 ≤ bref.toNat → bref.toNat ≤ 2100 →
          exec (.testStart bref) s =
            .next (event (fun u => { u with
              bridge :=
                { state := .charging, underTest := some e.cable, timer := some 0, selection := .cable e.cable
                  queue := u.bridge.queue.map fun x => if x.cable = e.cable then { x with underTest := true } else x }
              cables := u.cables.set e.cable { u.cables[e.cable] with status := .testing } }) s)) ∧
        (bref.toNat < 1900 ∨ 2100 < bref.toNat →
          exec (.testStart bref) s =
            .next { s with
              bridge :=
                { state := .bridgeFault, underTest := none, timer := none, selection := .nothing
                  queue := s.bridge.queue }
              attn := s.attn.post .urgent (nameOf .junction 0)
              junctionRev := s.junctionRev + 1 }))) ∧
    (s.bridge.timer = none →
      exec .chargeEnd s = .next s ∧ ∀ bmeas : Microamps, exec (.testComplete bmeas) s = .next s) ∧
    (s.bridge.underTest = none → ∀ bmeas : Microamps, exec (.testComplete bmeas) s = .next s) ∧
    (∀ n, s.bridge.timer = some n →
      (s.bridge.state = .charging → 20 ≤ n →
        exec .chargeEnd s = .next { s with bridge := { s.bridge with state := .measuring } }) ∧
      (s.bridge.state ≠ .charging ∨ n < 20 → exec .chargeEnd s = .next s) ∧
      (∀ bmeas : Microamps,
        (s.bridge.state ≠ .measuring ∨ n < 30 → exec (.testComplete bmeas) s = .next s) ∧
        (∀ (k : Fin 16) (e : QueueEntry), s.bridge.state = .measuring → 30 ≤ n → s.bridge.underTest = some k →
          s.bridge.entryOf k = some e →
          ∃ (t : State) (result : InsulationResult) (limit : Nat) (passed confirms isolates : Bool)
            (rest : List QueueEntry) (again : QueueEntry) (attn : Attention),
            exec (.testComplete bmeas) s = .next t ∧
            (bmeas.toNat = 0 → result = { kOhm := 500000, mark := .aboveRange } ∧ passed = true) ∧
            (bmeas.toNat = 4095 → result = { kOhm := 122, mark := .belowRange } ∧ passed = false) ∧
            (bmeas.toNat ≠ 0 → bmeas.toNat ≠ 4095 →
              result = { kOhm := 500000 / bmeas.toNat, mark := .inRange } ∧
              (passed = true ↔ limit ≤ 500000 / bmeas.toNat)) ∧
            limit = e.override.getD s.cables[k].limit ∧
            rest = s.bridge.queue.filter (fun x => x.cable ≠ k) ∧
            again =
              { cable := k, cls := .retest, origins := { startup := false, retest := true, host := false }
                override := none, waiting := 0, notBefore := 600, underTest := false } ∧
            t.cables[k].result = some result ∧
            t.bridge.state = .idle ∧ t.bridge.underTest = none ∧ t.bridge.timer = none ∧
            t.bridge.selection = .nothing ∧
            (passed = true → t.bridge.queue = rest ∧ t.cables[k].suspect = false ∧ t.cables[k].status = .passed ∧
              t.cables[k].faults = s.cables[k].faults) ∧
            (confirms = true ↔ passed = false ∧ s.cables[k].suspect = true ∧ e.origins.retest = true) ∧
            (isolates = true ↔ confirms = true ∧ s.cables[k].faults.insulation = false ∧
              s.cables[k].action = .isolate ∧ s.cables[k].state = .monitored) ∧
            (confirms = true →
              t.bridge.queue = rest ∧ t.cables[k].status = .failed ∧ t.cables[k].suspect = true ∧
              t.cables[k].faults = { s.cables[k].faults with insulation := true }) ∧
            t.cables[k] = { s.cables[k] with
              result := some result, status := t.cables[k].status, suspect := t.cables[k].suspect
              faults := t.cables[k].faults
              state := if isolates = true then .isolated else s.cables[k].state
              balanceStreak := if isolates = true then 0 else s.cables[k].balanceStreak
              openStreak := if isolates = true then 0 else s.cables[k].openStreak
              rev := if s.cables[k].settled = t.cables[k].settled then s.cables[k].rev else s.cables[k].rev + 1 } ∧
            (isolates = false → t.groups = s.groups) ∧
            (∀ g : Fin 16, isolates = true →
              (t.groups[g].isolatedCable = true ↔
                ∃ slot : Fin 4, t.used (channelOf g slot) = true ∧ t.onIsolated (channelOf g slot) = true) ∧
              t.groups[g] = { s.groups[g] with
                isolatedCable := t.groups[g].isolatedCable
                rev := if s.groups[g].isolatedCable = t.groups[g].isolatedCable then s.groups[g].rev
                  else s.groups[g].rev + 1 }) ∧
            attn = (if confirms = true ∧ s.cables[k].faults.insulation = false then
                s.attn.post (match s.cables[k].route with
                  | .urgent => .urgent
                  | .notice => .notice) (nameOf .cable k.val)
              else s.attn) ∧
            t.attn = (if e.origins.host = true then attn.post .notice (nameOf .cable k.val) else attn) ∧
            (passed = false → s.cables[k].suspect = false ∨ e.origins.retest = false →
              t.bridge.queue = rest ++ [again] ∧ t.cables[k].suspect = true ∧ t.cables[k].status = .pending ∧
              t.cables[k].faults = s.cables[k].faults) ∧
            (∀ j : Fin 16, j ≠ k → t.cables[j] = s.cables[j]) ∧
            t = { s with
              bridge := t.bridge, cables := t.cables, attn := t.attn, groups := t.groups
              junctionRev := s.junctionRev }))) ∧
    (∀ k : Fin 16,
      (∀ e, s.bridge.entryOf k = some e → e.underTest = false → 6001 ≤ e.waiting →
        exec (.testTimeout k) s =
          .next (event (fun u => { u with
            bridge := { u.bridge with queue := u.bridge.queue.filter fun x => x.cable ≠ k }
            cables := u.cables.set k { u.cables[k] with status := .timedOut }
            attn := if e.origins.host = true then u.attn.post .notice (nameOf .cable k.val) else u.attn }) s)) ∧
      (s.bridge.entryOf k = none ∨
        (∃ e, s.bridge.entryOf k = some e ∧ (e.underTest = true ∨ e.waiting < 6001)) →
        exec (.testTimeout k) s = .next s))) ∧
  (Selection.nothing.bsel = 0 ∧ Selection.reference.bsel = 1 ∧
    ∀ k : Fin 16, (Selection.cable k).bsel.toNat = 16 + k.val) ∧
  (∀ (s : State) (i : TenthInput), s.base.mainPower = true → ∃ aged advanced cleared : State,
    aged = { s with bridge := { s.bridge with
      queue := s.bridge.queue.map fun e => { e with waiting := e.waiting + 1, notBefore := e.notBefore - 1 }
      timer := s.bridge.timer.map (· + 1) } } ∧
    (s.bridge.state = .charging → exec .chargeEnd aged = .next advanced) ∧
    (s.bridge.state = .measuring → exec (.testComplete i.bmeas) aged = .next advanced) ∧
    (s.bridge.state ≠ .charging → s.bridge.state ≠ .measuring → advanced = aged) ∧
    cleared = event (fun u =>
      (advanced.bridge.queue.filter fun e => !e.underTest && decide (6001 ≤ e.waiting)).foldl
        (fun v e => v.removeEntry e.cable .timedOut) u) advanced ∧
    exec (.testStart i.bref) cleared = .next (s.queueTenth i)) ∧
  (∀ (s : State) (k : Fin 16) (status : TestStatus),
    (s.bridge.queue.find? (fun e => e.cable == k) = none → s.removeEntry k status = s) ∧
    (∀ e, s.bridge.queue.find? (fun e => e.cable == k) = some e →
      s.removeEntry k status = { s with
        bridge :=
          { state := if e.underTest = true then .idle else s.bridge.state
            underTest := if e.underTest = true then none else s.bridge.underTest
            timer := if e.underTest = true then none else s.bridge.timer
            selection := if e.underTest = true then .nothing else s.bridge.selection
            queue := s.bridge.queue.filter fun x => x.cable ≠ k }
        cables := s.cables.set k { s.cables[k] with status := status }
        attn := if e.origins.host = true then s.attn.post .notice (nameOf .cable k.val) else s.attn }))

/-! ## The stage sequencer -/

/-- ENTRY CHOICE. A plan whose chain closes is walked from its entry descriptor through each next link until the walk
returns to the entry. The entry choice is the first eligible stage on the walk, the entry descriptor counted; where no
stage is eligible, the first that is not barred; where every stage is barred it finds none. A stage is barred when it
names a DARK group, and eligible when it is not barred and is not demand-dependent, or has a call latched, or a plan
change is pending (R58, with R71 and R74). -/
def Obligations.EntryChoice : Prop :=
  (∀ (s : State) (p : Fin 8) (n : Nat) (passed : List (Fin 96)), s.chainCheck p = .closed n passed →
    s.chain p = passed ∧ passed.head? = some s.plans[p].entry ∧
    (∀ (k : Nat) (d e : Fin 96), passed[k]? = some d → passed[k + 1]? = some e → s.stages[d].shape.next = e) ∧
    (∀ d : Fin 96, passed.getLast? = some d → s.stages[d].shape.next = s.plans[p].entry) ∧
    (∀ d : Fin 96, s.entryChoice p = some d ↔
      ∃ before after, passed = before ++ d :: after ∧
        ((s.eligible d = true ∧ ∀ x ∈ before, s.eligible x = false) ∨
          ((∀ x ∈ passed, s.eligible x = false) ∧ s.barred d = false ∧ ∀ x ∈ before, s.barred x = true))) ∧
    (s.entryChoice p = none ↔ ∀ d ∈ passed, s.barred d = true)) ∧
  (∀ (s : State) (d : Fin 96),
    (s.barred d = true ↔ ∃ g : Fin 16, s.names d g = true ∧ s.groups[g].aspect = .dark) ∧
    (s.eligible d = true ↔ s.barred d = false ∧
      (s.stages[d].shape.demand = false ∨ s.seq.pending ≠ none ∨
        ∃ n : Fin 16, has s.stages[d].shape.calls n = true ∧ s.detectors[n].latch = true)))

/-- INTERSTAGE STEPS. In INTERSTAGE a loser in LEAVING whose state timer has reached its leaving time becomes RED; a
gainer whose prep start equals the interstage timer, and its green start does not, becomes PREP, and one whose green
start equals it GREEN; the state timer starts at 0 with each change, a group that leaves GREEN has its since-green
counter at 0, the revision moves by one, and no other group changes. With every gainer GREEN and every loser RED the green begins: MIN_GREEN, the record discarded, the context
loaded from the descriptor with its green timer at 0, the extension timer set where an extend input is active, the
maximum timer begun where demand waits, and the latch of each call input cleared but a faulty one's. At a tenth this
is done for every group together. Steps not due do nothing, which is the model's choice (log entry 5). A gainer's wait
is the larger of its prep time and, for every group that conflicts with it, the intergreen less that group's
since-green counter (R61, R62, R64 to R66, R68 to R70, R80). -/
def Obligations.InterstageSteps : Prop :=
  (∀ (s : State) (r : Interstage) (i : Instr) (g : Fin 16) (aspect : Aspect), s.base.mainPower = true →
    s.seq.state = .interstage → s.seq.interstage = some r →
    ((i = .leavingEnd g ∧ aspect = .red ∧ g ∈ r.losers ∧ s.groups[g].aspect = .leaving ∧
        s.groups[g].cfg.leavingTime ≤ s.groups[g].stateTimer) ∨
      (∃ x : Gainer, g ∉ r.losers ∧ r.gainers.find? (fun y => y.group == g) = some x ∧
        ((i = .prepStart g ∧ aspect = .prep ∧ x.prepStart = r.timer ∧ x.greenStart ≠ r.timer) ∨
          (i = .greenStart g ∧ aspect = .green ∧ x.greenStart = r.timer)))) →
    ∃ t, exec i s = .next t ∧
      t.groups[g].aspect = aspect ∧
      (s.groups[g].aspect ≠ aspect → t.groups[g].stateTimer = 0 ∧ t.groups[g].rev = s.groups[g].rev + 1 ∧
        t.groups[g].sinceGreen = if s.groups[g].aspect = .green then 0 else s.groups[g].sinceGreen) ∧
      (s.groups[g].aspect = aspect → t.groups[g] = s.groups[g]) ∧
      t.groups[g].cfg = s.groups[g].cfg ∧ t.groups[g].isolatedCable = s.groups[g].isolatedCable ∧
      t.groups[g].redOut = s.groups[g].redOut ∧
      (∀ j : Fin 16, j ≠ g → t.groups[j] = s.groups[j]) ∧
      (t.seq.state = .interstage →
        t.seq = s.seq ∧ t.detectors = s.detectors) ∧
      (t.seq.state ≠ .interstage →
        t.seq.state = .minGreen ∧ t.seq.interstage = none ∧
        (∀ x ∈ r.gainers, t.groups[x.group].aspect = .green) ∧ (∀ j ∈ r.losers, t.groups[j].aspect = .red) ∧
        t.seq.current = s.seq.current ∧ t.seq.running = s.seq.running ∧ t.seq.pending = s.seq.pending ∧
        t.seq.allBarred = s.seq.allBarred ∧
        (∀ n : Fin 16, t.detectors[n] =
          if has s.stages[r.entering].shape.calls n = true ∧ s.detectors[n].faulty = false then
            { s.detectors[n] with latch := false }
          else s.detectors[n]) ∧
        ∃ c, t.seq.context = some c ∧ c.descriptor = r.entering ∧ c.timing = s.stages[r.entering].timing ∧
          c.calls = s.stages[r.entering].shape.calls ∧ c.holders = s.stages[r.entering].shape.holders ∧
          c.greenTimer = 0 ∧ (c.extTimer = if s.extendActive c = true then c.timing.step else 0) ∧
          (c.maxTimer = if t.waitingDemand r.entering = true then some 0 else none)) ∧
      t = { s with groups := t.groups, seq := t.seq, detectors := t.detectors }) ∧
  (∀ (s : State) (g : Fin 16), s.base.mainPower = true →
    (s.seq.state ≠ .interstage ∨ s.seq.interstage = none →
      exec (.leavingEnd g) s = .next s ∧ exec (.prepStart g) s = .next s ∧ exec (.greenStart g) s = .next s) ∧
    (∀ r, s.seq.state = .interstage → s.seq.interstage = some r →
      (g ∉ r.losers ∨ s.groups[g].aspect ≠ .leaving ∨ s.groups[g].stateTimer < s.groups[g].cfg.leavingTime →
        exec (.leavingEnd g) s = .next s) ∧
      (g ∈ r.losers ∨ r.gainers.find? (fun y => y.group == g) = none →
        exec (.prepStart g) s = .next s ∧ exec (.greenStart g) s = .next s) ∧
      (∀ x, r.gainers.find? (fun y => y.group == g) = some x →
        (x.prepStart ≠ r.timer ∨ x.greenStart = r.timer → exec (.prepStart g) s = .next s) ∧
        (x.greenStart ≠ r.timer → exec (.greenStart g) s = .next s)))) ∧
  (∀ (s : State) (h : Fin 16),
    s.groups[h].cfg.prepTime ≤ s.waitOf h ∧
    (∀ (x : Fin 16) (n : Nat), s.conflict x h = true → s.intergreen x h = some n →
      n - s.groups[x].sinceGreen ≤ s.waitOf h) ∧
    (s.waitOf h = s.groups[h].cfg.prepTime ∨
      ∃ x : Fin 16, s.conflict x h = true ∧
        s.waitOf h = (s.intergreen x h).getD 0 - s.groups[x].sinceGreen) ∧
    (s.gainerOf h).greenStart = s.waitOf h ∧ (s.gainerOf h).prepStart = s.waitOf h - s.groups[h].cfg.prepTime) ∧
  (∀ s : State,
    (s.seq.state ≠ .interstage ∨ s.seq.interstage = none → s.interstageStep = s) ∧
    (∀ r, s.seq.state = .interstage → s.seq.interstage = some r →
      ∃ (groups : Vector Group 16) (started : Fin 16 → Aspect → Prop),
        (∀ (g : Fin 16) (a : Aspect), started g a ↔
          (g ∈ r.losers ∧ s.groups[g].aspect = .leaving ∧ s.groups[g].cfg.leavingTime ≤ s.groups[g].stateTimer ∧
            a = .red) ∨
          (¬(g ∈ r.losers ∧ s.groups[g].aspect = .leaving ∧
              s.groups[g].cfg.leavingTime ≤ s.groups[g].stateTimer) ∧
            ∃ x, r.gainers.find? (fun y => y.group == g) = some x ∧
              ((x.greenStart = r.timer ∧ a = .green) ∨
                (x.greenStart ≠ r.timer ∧ x.prepStart = r.timer ∧ a = .prep)))) ∧
        (∀ (g : Fin 16) (a : Aspect), started g a → groups[g] =
          if s.groups[g].aspect = a then s.groups[g]
          else { s.groups[g] with
            aspect := a, stateTimer := 0
            sinceGreen := if s.groups[g].aspect = .green then 0 else s.groups[g].sinceGreen }) ∧
        (∀ g : Fin 16, (∀ a, ¬started g a) → groups[g] = s.groups[g]) ∧
        ((∀ x ∈ r.gainers, groups[x.group].aspect = .green) → (∀ j ∈ r.losers, groups[j].aspect = .red) →
          ∃ detectors : Vector Detector 16,
            (∀ n : Fin 16, detectors[n] =
              if has s.stages[r.entering].shape.calls n = true ∧ s.detectors[n].faulty = false then
                { s.detectors[n] with latch := false }
              else s.detectors[n]) ∧
            s.interstageStep = { s with
              groups := groups, detectors := detectors
              seq := { s.seq with
                state := .minGreen, interstage := none
                context := some
                  { descriptor := r.entering, timing := s.stages[r.entering].timing
                    calls := s.stages[r.entering].shape.calls, holders := s.stages[r.entering].shape.holders
                    greenTimer := 0, extTimer := 0, maxTimer := none } } }) ∧
        ((∃ x ∈ r.gainers, groups[x.group].aspect ≠ .green) ∨ (∃ j ∈ r.losers, groups[j].aspect ≠ .red) →
          s.interstageStep = { s with groups := groups })))

/-- ENDS OF A GREEN. At each tenth of a green the extension timer is set to the step where an extend input is active
and falls by one otherwise; where demand waits the maximum timer runs, from 0 at first, and else it is discarded. With
the minimum green run and no waiting demand MIN_GREEN becomes RESTING; with waiting demand it, and RESTING, become
EXTENDING, judged at once. In EXTENDING, no demand gives RESTING; a maximum timer at the maximum green (MAX_OUT), or
before it an extension step or timer of 0 (GAP_OUT), leaves the stage for the first eligible one of the walk, unless a
plan is pending and the stage left is the change point or the walk passed it over barred: the pending plan then runs,
(PLAN, q) is posted to PLAN, and its entry choice is entered, or, with none, the stage rests. The transition to B
makes B current and the state INTERSTAGE, with the record of the green groups B does not name, LEAVING with
since-green 0, and of the gainers with their starts; a green group B names runs on, and a DARK group stays. A detector
over its stuck limit becomes faulty with its latch set, posted to NOTICE. Steps not due do nothing, which is the
model's choice (log entry 5) (R50, R62 to R64, R69 to R75, R80). -/
def Obligations.EndsOfAGreen : Prop :=
  (∀ (s : State) (c : Context), s.base.mainPower = true → s.seq.context = some c →
    (s.seq.state = .minGreen → c.timing.minGreen ≤ c.greenTimer →
      (c.maxTimer = none → exec .minGreenEnd s = .next { s with seq := { s.seq with state := .resting } }) ∧
      (∀ m, c.maxTimer = some m → m < c.timing.maxGreen → c.timing.step ≠ 0 → c.extTimer ≠ 0 →
        exec .minGreenEnd s = .next { s with seq := { s.seq with state := .extending } }) ∧
      (∀ m, c.maxTimer = some m → c.timing.maxGreen ≤ m ∨ c.timing.step = 0 ∨ c.extTimer = 0 →
        exec .minGreenEnd s =
          .next (event (fun u => ({ u with seq := { u.seq with state := .extending } } : State).leaveStage) s))) ∧
    (s.seq.state ≠ .minGreen ∨ c.greenTimer < c.timing.minGreen → exec .minGreenEnd s = .next s) ∧
    (∀ m, s.seq.state = .extending → c.maxTimer = some m →
      (c.timing.maxGreen ≤ m → exec .maxOut s = .next (event State.leaveStage s) ∧ exec .gapOut s = .next s) ∧
      (m < c.timing.maxGreen →
        exec .maxOut s = .next s ∧
        (c.timing.step = 0 ∨ c.extTimer = 0 → exec .gapOut s = .next (event State.leaveStage s)) ∧
        (c.timing.step ≠ 0 → c.extTimer ≠ 0 → exec .gapOut s = .next s))) ∧
    (s.seq.state ≠ .extending ∨ c.maxTimer = none → exec .maxOut s = .next s ∧ exec .gapOut s = .next s)) ∧
  (∀ s : State, s.seq.context = none →
    exec .minGreenEnd s = .next s ∧ exec .maxOut s = .next s ∧ exec .gapOut s = .next s) ∧
  (∀ s : State, s.seq.context = none ∨ s.seq.running = none → s.leaveStage = s) ∧
  (∀ (s : State) (c : Context) (p : Fin 8) (d : Fin 96), s.seq.context = some c → s.seq.running = some p →
    (s.others c.descriptor).find? s.eligible = some d →
    (s.seq.pending = none → s.leaveStage = s.startTransition (some c.descriptor) d) ∧
    (∀ q, s.seq.pending = some q →
      (s.changeDue p c.descriptor = false → s.leaveStage = s.startTransition (some c.descriptor) d) ∧
      (s.changeDue p c.descriptor = true → s.leaveStage = s.changePlan c.descriptor q))) ∧
  (∀ (s : State) (a : Option (Fin 96)) (b : Fin 96), ∃ t, t = s.startTransition a b ∧
    t.seq.current = some b ∧ t.seq.running = s.seq.running ∧ t.seq.pending = s.seq.pending ∧
    (∀ g : Fin 16,
      (s.groups[g].aspect = .green → s.names b g = false → 0 < s.groups[g].cfg.leavingTime →
        t.groups[g].aspect = .leaving ∧ t.groups[g].sinceGreen = 0 ∧ t.groups[g].stateTimer = 0) ∧
      (s.groups[g].aspect = .green → s.names b g = true → t.groups[g] = s.groups[g]) ∧
      (s.groups[g].aspect = .dark → t.groups[g] = s.groups[g]) ∧
      (s.groups[g].aspect ≠ .green → s.names b g = false → t.groups[g] = s.groups[g])) ∧
    t = { s with groups := t.groups, seq := t.seq, detectors := t.detectors }) ∧
  (∀ (s : State) (d : Fin 16), s.base.mainPower = true →
    (s.detectors[d].faulty = false → 0 < s.detectors[d].cfg.stuckLimit →
      s.detectors[d].cfg.stuckLimit * 600 < s.detectors[d].activeRun →
      exec (.detectorFaulty d) s =
        .next { s with
          detectors := s.detectors.set d
            { s.detectors[d] with faulty := true, latch := true, rev := s.detectors[d].rev + 1 }
          attn := s.attn.post .notice (nameOf .detector d.val) }) ∧
    (s.detectors[d].faulty = true ∨ s.detectors[d].cfg.stuckLimit = 0 ∨
      s.detectors[d].activeRun ≤ s.detectors[d].cfg.stuckLimit * 600 →
      exec (.detectorFaulty d) s = .next s)) ∧
  (∀ (s : State) (a : Option (Fin 96)) (b : Fin 96), ∃ (u v : State) (r : Interstage),
    (∀ g : Fin 16, u.groups[g] =
      if s.groups[g].aspect = .green ∧ s.names b g = false then
        { s.groups[g] with aspect := .leaving, stateTimer := 0, sinceGreen := 0 }
      else s.groups[g]) ∧
    u = { s with groups := u.groups } ∧
    r = { leaving := a, entering := b, timer := 0
          losers := (List.finRange 16).filter fun g => decide (s.groups[g].aspect = .green ∧ s.names b g = false)
          gainers := ((List.finRange 16).filter fun g =>
              decide (s.names b g = true ∧ s.groups[g].aspect ≠ .green ∧ s.groups[g].aspect ≠ .dark)).map fun g =>
            { group := g, prepStart := u.waitOf g - s.groups[g].cfg.prepTime, greenStart := u.waitOf g } } ∧
    v = ({ u with seq := { s.seq with
      state := .interstage, current := some b, context := none, interstage := some r } } : State).interstageStep ∧
    (v.seq.state = .interstage → v.seq.interstage = some r) ∧
    s.startTransition a b = (if v.seq.state = .minGreen then v.workGreen else v)) ∧
  (∀ (s : State) (cur : Fin 96) (stages : List (Fin 96)), (cur :: stages).Nodup → stages.length ≤ 11 →
    (∀ (k : Nat) (d e : Fin 96), (cur :: stages)[k]? = some d → (cur :: stages)[k + 1]? = some e →
      s.stages[d].shape.next = e) →
    (∀ d, (cur :: stages).getLast? = some d → s.stages[d].shape.next = cur) → s.others cur = stages) ∧
  (∀ (s : State) (p : Fin 8) (cur : Fin 96),
    s.changeDue p cur = true ↔ s.plans[p].changePoint = cur ∨
      ∃ before after, s.others cur = before ++ s.plans[p].changePoint :: after ∧
        s.barred s.plans[p].changePoint = true ∧ ∀ x ∈ before, s.barred x = true) ∧
  (∀ (s : State) (cur : Fin 96) (q : Fin 8), ∃ t : State,
    t = { s with
      seq := { s.seq with
        running := some q
        pending := if s.sched.requested = none ∨ s.sched.requested = some q then none else s.sched.requested }
      attn := s.attn.post .plan (nameOf .plan q.val) } ∧
    (∀ d, t.entryChoice q = some d → s.changePlan cur q = (t.startTransition (some cur) d).indicate) ∧
    (t.entryChoice q = none →
      s.changePlan cur q = ({ t with seq := { t.seq with state := .resting } } : State).indicate)) ∧
  (∀ s : State, ∀ c, s.seq.context = some c → (∀ d ∈ s.others c.descriptor, s.eligible d = false) → s.leaveStage = s) ∧
  (∀ (s : State) (c : Context), s.seq.context = some c → ∃ (c' : Context) (u v : State),
    c' = { c with
      extTimer := if ∃ n : Fin 16, has c.holders n = true ∧ s.detectors[n].cfg.enabled = true ∧
          s.detectors[n].faulty = false ∧ s.detectors[n].level = true then c.timing.step else c.extTimer - 1
      maxTimer := if ∃ d ∈ s.others c.descriptor, s.eligible d = true then some (c.maxTimer.getD 0) else none } ∧
    u = { s with seq := { s.seq with context := some c' } } ∧ s.workGreen = u ∧
    v = { u with seq := { u.seq with state := .extending } } ∧
    (s.seq.state ≠ .minGreen → s.seq.state ≠ .extending → s.seq.state ≠ .resting → s.greenStep = s) ∧
    (s.seq.state = .minGreen → c.greenTimer < c.timing.minGreen → s.greenStep = u) ∧
    ((s.seq.state = .minGreen ∧ c.timing.minGreen ≤ c.greenTimer) ∨ s.seq.state = .extending ∨
        s.seq.state = .resting →
      (c'.maxTimer = none → s.greenStep = { u with seq := { u.seq with state := .resting } }) ∧
      (∀ m, c'.maxTimer = some m →
        (m < c.timing.maxGreen → c.timing.step ≠ 0 → c'.extTimer ≠ 0 → s.greenStep = v) ∧
        (c.timing.maxGreen ≤ m ∨ c.timing.step = 0 ∨ c'.extTimer = 0 → s.greenStep = v.leaveStage))))

/-! ## The supervisor -/

/-- PROPOSAL, EXAMINATION AND PROVEN CONFLICT. At a cycle tick the sequencer samples the detectors where it is
measured, darkens the groups with a dark cause and lets the others leave DARK, works the all-barred indication out,
and proposes: a used channel of a group that is not DARK, off an ISOLATED cable, is lit by sequencer state and aspect:
none in STOPPED and SUSPENDED, both reds in ALL_RED, and in a stage the reds in RED, reds and amber in a VEHICLE's
PREP, green in GREEN, amber in a VEHICLE's LEAVING; a PEDESTRIAN in PREP lights nothing, the model's reading (log
entry 17). A set that lights two conflicting greens, or one sooner than its intergreen, is withheld: the port is off,
FSR released, COMMAND_CONFLICT present and raised: in STARTING and RUNNING it brings FAILSAFE, in FAILSAFE it joins the
further causes; another is handed on, all off in the four all-off modes, and a test under way on a cable of a channel
that is on in it is abandoned (as BRIDGE STEPS gives a removal). At a measured tick found in STARTING or RUNNING each conflicting pair's count rises where one
green is seen lit and the other lit or commanded, and becomes 0 otherwise; at 2 PROVEN_CONFLICT is raised: FAILSAFE
with that first cause, or, where another raise of the tick came first, a further cause (R56, R59, R60, R67, R75, R77,
R79, R80, R149, R153, R154, R158). -/
def Obligations.ExaminationAndProvenConflict : Prop :=
  (∀ (s : State) (c : Fin 64),
    (s.proposed[c] = true ↔
      s.used c = true ∧ s.groups[groupOf c].aspect ≠ .dark ∧ s.onIsolated c = false ∧
      ((s.seq.state = .allRed ∧ (c.val % 4 = 0 ∨ c.val % 4 = 1)) ∨
        (s.seq.state ≠ .stopped ∧ s.seq.state ≠ .suspended ∧ s.seq.state ≠ .allRed ∧
          ((s.groups[groupOf c].aspect = .red ∧ (c.val % 4 = 0 ∨ c.val % 4 = 1)) ∨
            (s.groups[groupOf c].aspect = .green ∧ c.val % 4 = 3) ∨
            (s.groups[groupOf c].cfg.kind = .vehicle ∧ s.groups[groupOf c].aspect = .prep ∧ c.val % 4 ≠ 3) ∨
            (s.groups[groupOf c].cfg.kind = .vehicle ∧ s.groups[groupOf c].aspect = .leaving ∧ c.val % 4 = 2)))))) ∧
  (∀ (s : State) (set : Vector Bool 64),
    ((∃ x h : Fin 16, s.conflict x h = true ∧ set[greenOf h] = true ∧
        (set[greenOf x] = true ∨ s.groups[x].sinceGreen < (s.intergreen x h).getD 0)) →
      ∃ t, t = s.examine set ∧ t.port = Machine.allOff ∧ t.sup.fsr = false ∧
        holds t.sup.presentCauses .commandConflict = true ∧
        t.sup.presentCauses =
          ((s.sup.presentCauses ||| Cause.commandConflict.only) &&& ackCauses) ||| t.conditions ∧
        (s.sup.mode = .starting ∨ s.sup.mode = .running →
          (∀ c : Cause, holds t.sup.furtherCauses c = true ↔
            c ≠ .commandConflict ∧ (holds s.sup.presentCauses c = true ∨ holds t.sup.presentCauses c = true)) ∧
          t = { s with
            sup := { s.sup.idledIn .failsafe false with
              presentCauses := t.sup.presentCauses, firstCause := some .commandConflict
              furtherCauses := t.sup.furtherCauses }
            seq := s.seq.emptied .stopped
            groups := s.groups.map fun g => { g.turnedRed with rev := g.rev }
            port := Machine.allOff
            attn := s.attn.post .safety (nameOf .junction 0) }) ∧
        (s.sup.mode = .failsafe →
          (∀ c : Cause, holds t.sup.furtherCauses c = true ↔ holds s.sup.furtherCauses c = true ∨
            (s.sup.firstCause ≠ some c ∧ (c = .commandConflict ∨
              (holds t.sup.presentCauses c = true ∧ holds s.sup.presentCauses c = false)))) ∧
          t = { s with
            port := Machine.allOff
            sup := { s.sup with
              fsr := false, presentCauses := t.sup.presentCauses, furtherCauses := t.sup.furtherCauses }
            attn := if t.sup.furtherCauses = s.sup.furtherCauses then s.attn
              else s.attn.post .safety (nameOf .junction 0) }) ∧
        (s.sup.mode ≠ .starting → s.sup.mode ≠ .running → s.sup.mode ≠ .failsafe →
          t = { s with
            port := Machine.allOff, sup := { s.sup with fsr := false, presentCauses := t.sup.presentCauses } })) ∧
    ((∀ x h : Fin 16, s.conflict x h = true → set[greenOf h] = true →
        set[greenOf x] = false ∧ (s.intergreen x h).getD 0 ≤ s.groups[x].sinceGreen) →
      ∃ handed : Vector Bool 64,
        handed = (if s.sup.mode = .unconfigured ∨ s.sup.mode = .standby ∨ s.sup.mode = .failsafe ∨
          s.sup.mode = .mainsOut then Machine.allOff else set) ∧
        (s.bridge.underTest = none → s.examine set = { s with port := handed }) ∧
        (∀ k : Fin 16, s.bridge.underTest = some k →
          ((∀ c : Fin 64, s.channels[c].cfg.cable = some k → handed[c] = false) →
            s.examine set = { s with port := handed }) ∧
          (∀ c : Fin 64, s.channels[c].cfg.cable = some k → handed[c] = true →
            (s.bridge.entryOf k = none → s.examine set = { s with port := handed }) ∧
            (∀ e, s.bridge.entryOf k = some e → e.underTest = true →
              s.examine set = { s with
                port := handed
                bridge :=
                  { state := .idle, underTest := none, timer := none, selection := .nothing
                    queue := s.bridge.queue.filter fun x => x.cable ≠ k }
                cables := s.cables.set k { s.cables[k] with status := .abandoned }
                attn := if e.origins.host = true then s.attn.post .notice (nameOf .cable k.val)
                  else s.attn }))))) ∧
  (∀ (s : State) (i j : Fin 16), s.base.mainPower = true → i < j →
    (2 ≤ s.sup.evidence[i][j] → (s.sup.mode = .starting ∨ s.sup.mode = .running) →
      ∃ t, exec (.provenConflict i j) s = .next t ∧
        t.sup.firstCause = some .provenConflict ∧
        t.sup.presentCauses = ((s.sup.presentCauses ||| Cause.provenConflict.only) &&& ackCauses) ||| t.conditions ∧
        (∀ c : Cause, c ≠ .provenConflict →
          holds t.sup.furtherCauses c = (holds s.sup.presentCauses c || holds t.sup.presentCauses c)) ∧
        t = { s with
          sup := { s.sup.idledIn .failsafe false with
            presentCauses := t.sup.presentCauses, firstCause := t.sup.firstCause
            furtherCauses := t.sup.furtherCauses }
          seq := s.seq.emptied .stopped
          groups := s.groups.map Group.turnedRed
          port := Machine.allOff
          attn := s.attn.post .safety (nameOf .junction 0)
          junctionRev := s.junctionRev + 1 }) ∧
    (s.sup.evidence[i][j] < 2 → exec (.provenConflict i j) s = .next s)) ∧
  (∀ (s : State) (measured : Bool) (det : Set16), ∃ (detectors : Vector Detector 16) (start : State),
    start = (if measured = true then { s with detectors := detectors } else s) ∧
    s.sequencerCycle measured det =
      event (fun u => u.examine u.proposed) (event (fun u => u.darkStep.indicate) start) ∧
    (∀ n : Fin 16,
      (s.detectors[n].cfg.enabled = false → detectors[n] = s.detectors[n]) ∧
      (s.detectors[n].cfg.enabled = true → ∃ active level fell : Bool,
        active = (has det n != s.detectors[n].cfg.invert) ∧
        level = (if active = s.detectors[n].previous then active else s.detectors[n].level) ∧
        fell = (s.detectors[n].level && !level) ∧
        detectors[n] = { s.detectors[n] with
          previous := active, level := level, latch := s.detectors[n].latch || level
          activeRun := if fell = true then 0 else s.detectors[n].activeRun
          faulty := s.detectors[n].faulty && !fell
          rev := if fell = true ∧ s.detectors[n].faulty = true then s.detectors[n].rev + 1
            else s.detectors[n].rev }))) ∧
  (∀ s : State, ∃ (darkens : Fin 16 → Prop) (t : State), t = s.darkStep ∧
    (∀ g : Fin 16, darkens g ↔
      (s.groups[g].isolatedCable = true ∨ s.groups[g].redOut = true) ∧ s.groups[g].aspect ≠ .dark) ∧
    (∀ g : Fin 16,
      (darkens g → t.groups[g] = { s.groups[g] with
        aspect := .dark, stateTimer := 0
        sinceGreen := if s.groups[g].aspect = .green then 0 else s.groups[g].sinceGreen }) ∧
      (s.groups[g].aspect = .dark → s.groups[g].isolatedCable = false → s.groups[g].redOut = false →
        t.groups[g] = { s.groups[g] with aspect := .red, stateTimer := 0 }) ∧
      (¬darkens g → (s.groups[g].aspect ≠ .dark ∨ s.groups[g].isolatedCable = true ∨ s.groups[g].redOut = true) →
        t.groups[g] = s.groups[g])) ∧
    (s.seq.interstage = none → t.seq = s.seq) ∧
    (∀ r, s.seq.interstage = some r → ∃ (losers : List (Fin 16)) (gainers : List Gainer),
      losers.Sublist r.losers ∧ (∀ g, g ∈ losers ↔ g ∈ r.losers ∧ ¬darkens g) ∧
      gainers.Sublist r.gainers ∧ (∀ x, x ∈ gainers ↔ x ∈ r.gainers ∧ ¬darkens x.group) ∧
      t.seq = { s.seq with interstage := some { r with losers := losers, gainers := gainers } }) ∧
    t = { s with groups := t.groups, seq := t.seq }) ∧
  (∀ (s : State) (found : Supervisor) (measured : Bool) (ended : Vector Bool 64),
    (measured = false ∨ (found.mode ≠ .starting ∧ found.mode ≠ .running) → s.evidenceTick found measured ended = s) ∧
    (measured = true → (found.mode = .starting ∨ found.mode = .running) →
      ∃ (counts : Vector (Vector Nat 16) 16) (counting : Bool) (u t : State),
        (∀ i j : Fin 16, counts[i][j] =
          if i < j ∧ s.conflict i j = true then
            (if (s.channels[greenOf i].seenLit = true ∧
                  (ended[greenOf j] = true ∨ s.channels[greenOf j].seenLit = true)) ∨
                (s.channels[greenOf j].seenLit = true ∧ ended[greenOf i] = true) then found.evidence[i][j] + 1
            else 0)
          else found.evidence[i][j]) ∧
        (counting = true ↔ s.sup.mode = .starting ∨ s.sup.mode = .running) ∧
        u = (if counting = true then { s with sup := { s.sup with evidence := counts } } else s) ∧
        t = s.evidenceTick found measured ended ∧
        ((∀ i j : Fin 16, i < j → counts[i][j] < 2) → t = u) ∧
        ((∃ i j : Fin 16, i < j ∧ 2 ≤ counts[i][j]) →
          holds t.sup.presentCauses .provenConflict = true ∧
          (counting = true → s.base.mainPower = true →
            ∃ i j : Fin 16, i < j ∧ 2 ≤ counts[i][j] ∧ exec (.provenConflict i j) u = .next t) ∧
          (s.sup.mode = .failsafe →
            t.sup.mode = .failsafe ∧ t.sup.firstCause = s.sup.firstCause ∧
            (t.sup.firstCause = some .provenConflict ∨ holds t.sup.furtherCauses .provenConflict = true) ∧
            (s.sup.firstCause ≠ some .provenConflict → holds s.sup.furtherCauses .provenConflict = false →
              nameOf .junction 0 ∈ t.attn.sets[AClass.safety.rank])))))

/-- START PHASES. In DARK_TEST, at 20 tenths with no STARTUP entry queued, or at 1200 with one (the STARTUP entries
are then removed, ABANDONED, the bridge withdrawn where one was under test, and (JUNCTION, 0) and the cables with HOST
among their origins posted to NOTICE), the phase ALL_RED begins: its timer at 0, the start red time taken, the
sequencer ALL_RED with nothing running, every group that was not DARK RED. When ALL_RED has run the start red time in
use, and a plan is requested that has an entry choice, and no cause is present and no condition holds, the requested
plan runs, the transition to the entry choice starts, the mode is RUNNING, the start phase ends, and (JUNCTION, 0) is
posted to PLAN; without a requested plan or an entry choice the sequencer stays in ALL_RED. At each tenth the phase timer rises by one and
the step of the phase under way is taken where it is due. Steps not due do nothing, which is the model's choice (log
entry 5) (R57, R142, R143, R148, R166, R168 to R170). -/
def Obligations.StartPhases : Prop :=
  (∀ (s : State) (n : Nat), s.base.mainPower = true → s.sup.phaseTimer = some n →
    (s.sup.phase = some .darkTest →
      (20 ≤ n → (∀ e ∈ s.bridge.queue, e.cls ≠ .startup) →
        exec .darkTestEnd s =
          .next { s with
            sup := { s.sup with phase := some .allRed, phaseTimer := some 0, redInUse := some s.sup.startRed }
            seq := s.seq.emptied .allRed
            groups := s.groups.map Group.turnedRed
            junctionRev := if s.seq.running = none ∧ s.seq.pending = none then s.junctionRev
              else s.junctionRev + 1 }) ∧
      (1200 ≤ n → (∃ e ∈ s.bridge.queue, e.cls = .startup) → s.queueRight →
        ∃ t, exec .darkTestLimit s = .next t ∧
          t.bridge.queue = s.bridge.queue.filter (fun e => e.cls ≠ .startup) ∧
          ((∃ e ∈ s.bridge.queue, e.cls = .startup ∧ e.underTest = true) →
            t.bridge.state = .idle ∧ t.bridge.underTest = none ∧ t.bridge.timer = none ∧
            t.bridge.selection = .nothing) ∧
          ((∀ e ∈ s.bridge.queue, e.cls = .startup → e.underTest = false) →
            t.bridge = { s.bridge with queue := t.bridge.queue }) ∧
          (∀ k : Fin 16,
            ((∃ e ∈ s.bridge.queue, e.cable = k ∧ e.cls = .startup) →
              t.cables[k] = { s.cables[k] with
                status := .abandoned
                rev := if s.cables[k].status = .abandoned then s.cables[k].rev else s.cables[k].rev + 1 }) ∧
            ((∀ e ∈ s.bridge.queue, e.cls = .startup → e.cable ≠ k) → t.cables[k] = s.cables[k])) ∧
          (∀ r : RecordName, r ∈ t.attn.sets[AClass.notice.rank] ↔
            r ∈ s.attn.sets[AClass.notice.rank] ∨ r = nameOf .junction 0 ∨
              ∃ e ∈ s.bridge.queue, e.cls = .startup ∧ e.origins.host = true ∧ r = nameOf .cable e.cable.val) ∧
          (∀ c : AClass, c ≠ .notice → t.attn.sets[c.rank] = s.attn.sets[c.rank]) ∧
          t.attn.masked = s.attn.masked ∧ t.attn.chain = s.attn.chain ∧
          t.junctionRev =
            (if s.seq.running = none ∧ s.seq.pending = none ∧
                (s.bridge.state = .bridgeFault → t.bridge.state = .bridgeFault) then s.junctionRev
            else s.junctionRev + 1) ∧
          t = { s with
            sup := { s.sup with phase := some .allRed, phaseTimer := some 0, redInUse := some s.sup.startRed }
            seq := s.seq.emptied .allRed
            groups := s.groups.map Group.turnedRed
            bridge := t.bridge, cables := t.cables, attn := t.attn, junctionRev := t.junctionRev })) ∧
    (s.sup.phase ≠ some .darkTest ∨ n < 20 ∨ (∃ e ∈ s.bridge.queue, e.cls = .startup) →
      exec .darkTestEnd s = .next s) ∧
    (s.sup.phase ≠ some .darkTest ∨ n < 1200 ∨ (∀ e ∈ s.bridge.queue, e.cls ≠ .startup) →
      exec .darkTestLimit s = .next s) ∧
    (s.sup.redInUse = none → exec .allRedEnd s = .next s) ∧
    (∀ red, s.sup.redInUse = some red →
      (s.sup.phase ≠ some .allRed ∨ n < red → exec .allRedEnd s = .next s) ∧
      (s.sup.phase = some .allRed → red ≤ n → s.sched.requested = none → exec .allRedEnd s =
        .next (event (fun u =>
          ({ u with seq := { u.seq with running := none, pending := none } } : State).indicate) s)) ∧
      (s.sup.phase = some .allRed → red ≤ n → ∀ p, s.sched.requested = some p →
        (∀ d, ({ s with seq := { s.seq with running := some p, pending := none } } : State).entryChoice p = some d →
          s.sup.presentCauses = 0 → s.vehicleShort = false → s.vehicleDark = false →
          ∃ t u, exec .allRedEnd s = .next t ∧
            u = ({ s with seq := { s.seq with running := some p, pending := none } } : State).startTransition none d ∧
            t.seq.running = some p ∧ t.seq.pending = none ∧ t.seq.current = some d ∧
            (t.seq.state = .interstage ∨ t.seq.state = .minGreen) ∧
            (∀ g : Fin 16, t.groups[g] = { u.groups[g] with
              rev := if s.groups[g].settled = u.groups[g].settled then s.groups[g].rev else s.groups[g].rev + 1 }) ∧
            (s.sup.mode = .starting →
              t = { s with
                sup := { s.sup with
                  mode := .running, fsr := true, phase := none, phaseTimer := none, redInUse := none }
                seq := { u.seq with allBarred := false }
                groups := t.groups, detectors := u.detectors
                attn := s.attn.post .plan (nameOf .junction 0)
                junctionRev := s.junctionRev + 1 })) ∧
        (({ s with seq := { s.seq with running := some p, pending := none } } : State).entryChoice p = none →
          exec .allRedEnd s =
            .next (event (fun u =>
              ({ u with seq := { u.seq with running := some p, pending := none } } : State).indicate) s))))) ∧
  (∀ s : State, s.sup.phaseTimer = none →
    exec .darkTestEnd s = .next s ∧ exec .darkTestLimit s = .next s ∧ exec .allRedEnd s = .next s) ∧
  (∀ s : State, s.base.mainPower = true → ∃ u,
    u = { s with sup := { s.sup with phaseTimer := s.sup.phaseTimer.map (· + 1) } } ∧
    (s.sup.phase = some .darkTest → (∀ e ∈ s.bridge.queue, e.cls ≠ .startup) →
      exec .darkTestEnd u = .next s.supervisorTenth) ∧
    (s.sup.phase = some .darkTest → (∃ e ∈ s.bridge.queue, e.cls = .startup) →
      exec .darkTestLimit u = .next s.supervisorTenth) ∧
    (s.sup.phase = some .allRed → exec .allRedEnd u = .next s.supervisorTenth) ∧
    (s.sup.phase = none → s.supervisorTenth = u))

/-- CAUSES RAISED. When the conditions are worked out, a condition-type cause is present exactly while its condition
holds and the acknowledge-type causes stay. A cause that becomes present in STARTING or RUNNING takes the mode to
FAILSAFE with FSR released, the port off, the sequencer STOPPED, every group that was not DARK RED, and (JUNCTION, 0)
posted to SAFETY, the first cause being the one of them that stands highest in the table and the further causes the
others present; in FAILSAFE it joins the further causes where it is not on record, posted to SAFETY; in another
mode, or where nothing becomes present, only the present causes change. The all-barred indication is yes exactly while
a plan runs of which every stage is barred. A working-out of the red availability gives each group RED_OUT exactly
while it is PEDESTRIAN and short of reds, a red being available where it is used and its verdict is not OUT; one of
the dark causes gives each group ISOLATED_CABLE exactly while it has a used channel on an ISOLATED cable (R6, R71,
R75, R76, R149, R155 to R158). When they are worked out is the model's reading (log entry 19). -/
def Obligations.CausesRaised : Prop :=
  (∀ s : State, ∃ (now new : CauseSet) (t : State), t = s.refresh ∧
    now = (s.sup.presentCauses &&& ackCauses) ||| s.conditions ∧ new = s.conditions &&& ~~~s.sup.presentCauses ∧
    (holds s.conditions .redOut = true ↔
      ∃ g : Fin 16, s.groups[g].cfg.kind = .vehicle ∧ s.availableReds g < s.groups[g].cfg.redsRequired) ∧
    (holds s.conditions .vehicleDark = true ↔
      ∃ g : Fin 16, s.groups[g].cfg.kind = .vehicle ∧ s.groups[g].aspect = .dark) ∧
    (holds s.conditions .allBarred = true ↔
      s.seq.allBarred = true ∨
        (s.seq.running = none ∧ ∃ p, s.sched.requested = some p ∧ ∀ d ∈ s.chain p, s.barred d = true)) ∧
    (new = 0 ∨ (s.sup.mode ≠ .starting ∧ s.sup.mode ≠ .running ∧ s.sup.mode ≠ .failsafe) →
      t = { s with sup := { s.sup with presentCauses := now } }) ∧
    (new ≠ 0 → (s.sup.mode = .starting ∨ s.sup.mode = .running) →
      t.sup.mode = .failsafe ∧ t.sup.firstCause = topCause new ∧ t.sup.fsr = false ∧ t.port = Machine.allOff ∧
      t.seq = s.seq.emptied .stopped ∧
      t.sup.presentCauses = (s.sup.presentCauses &&& ackCauses) ||| t.conditions ∧
      (∀ c : Cause, holds t.sup.furtherCauses c = true ↔
        topCause new ≠ some c ∧ (holds now c = true ∨ holds t.sup.presentCauses c = true)) ∧
      t = { s with
        sup := { s.sup.idledIn .failsafe false with
          presentCauses := t.sup.presentCauses, firstCause := t.sup.firstCause
          furtherCauses := t.sup.furtherCauses }
        seq := s.seq.emptied .stopped
        groups := s.groups.map fun g => { g.turnedRed with rev := g.rev }
        port := Machine.allOff
        attn := s.attn.post .safety (nameOf .junction 0) }) ∧
    (new ≠ 0 → s.sup.mode = .failsafe →
      t.sup.furtherCauses = s.sup.furtherCauses |||
        (new &&& ~~~(match s.sup.firstCause with
          | some c => c.only
          | none => 0)) ∧
      t = { s with
        sup := { s.sup with presentCauses := now, furtherCauses := t.sup.furtherCauses }
        attn := if t.sup.furtherCauses = s.sup.furtherCauses then s.attn
          else s.attn.post .safety (nameOf .junction 0) })) ∧
  (∀ s : State, ∃ barred : Bool,
    (barred = true ↔ ∃ p, s.seq.running = some p ∧ ∀ d ∈ s.chain p, s.barred d = true) ∧
    s.indicate = ({ s with seq := { s.seq with allBarred := barred } } : State).refresh) ∧
  (∀ (s : State) (g : Fin 16),
    (∀ c : Fin 64, s.redAvailable c = true ↔ s.used c = true ∧ s.channels[c].verdict ≠ some .out) ∧
    s.availableReds g =
      (if s.redAvailable (channelOf g 0) = true then 1 else 0) +
        (if s.redAvailable (channelOf g 1) = true then 1 else 0) ∧
    (∀ slot : Fin 4, s.used (channelOf g slot) = true ↔
      (s.groups[g].cfg.kind = .vehicle ∧ (slot = 1 → s.groups[g].cfg.secondRed = true)) ∨
        (s.groups[g].cfg.kind = .pedestrian ∧
          (slot = 0 ∨ slot = 3 ∨ (slot = 1 ∧ s.groups[g].cfg.secondRed = true)))) ∧
    (∀ c : Fin 64, s.onIsolated c = true ↔
      ∃ k, s.channels[c].cfg.cable = some k ∧ s.cables[k].state = .isolated)) ∧
  (∀ s : State, ∃ reds darks : Vector Group 16,
    s.redCauses = { s with groups := reds } ∧ s.darkCauses = { s with groups := darks } ∧
    (∀ g : Fin 16,
      reds[g] = { s.groups[g] with
        redOut := decide (s.groups[g].cfg.kind = .pedestrian ∧ s.availableReds g < s.groups[g].cfg.redsRequired) } ∧
      darks[g] = { s.groups[g] with
        isolatedCable := decide (∃ slot : Fin 4,
          s.used (channelOf g slot) = true ∧ s.onIsolated (channelOf g slot) = true) }))

/-- REVISIONS. One event moves the revision of a GROUP or CABLE record, and of JUNCTION 0, by one, wrapping from 255
to 0, exactly where a settled field of the record changed over the event, and adds nothing else to the work of the
event. Settled are, of a GROUP, the five written fields, the aspect state and the two dark causes; of a CABLE the five
written fields, the latched faults, the suspect mark, the last result and the test status; of JUNCTION 0 the mode, the
mains-out origin, the first, further and present causes, the mains state, the nominal frequency, the time-valid flag,
the plan source, the override, running and pending plans, the dimming override and state, the start red time and the
sweep, and whether the bridge is in BRIDGE_FAULT; of a CHANNEL the three written fields, the verdict, the learn-failed
note, and each part's learn state and reference (R1, R82, R123, R133, R146, and the section Records and revisions). -/
def Obligations.EventsMoveRevisions : Prop :=
  (∀ (f : State → State) (s : State), ∃ t, t = event f s ∧
    (∀ g : Fin 16, t.groups[g] =
      if s.groups[g].settled = (f s).groups[g].settled then (f s).groups[g]
      else { (f s).groups[g] with rev := (f s).groups[g].rev + 1 }) ∧
    (∀ k : Fin 16, t.cables[k] =
      if s.cables[k].settled = (f s).cables[k].settled then (f s).cables[k]
      else { (f s).cables[k] with rev := (f s).cables[k].rev + 1 }) ∧
    t.junctionRev =
      (if s.junctionSettled = (f s).junctionSettled then (f s).junctionRev else (f s).junctionRev + 1) ∧
    t = { f s with groups := t.groups, cables := t.cables, junctionRev := t.junctionRev }) ∧
  (∀ a b : Group, a.settled = b.settled ↔
    a.cfg.kind = b.cfg.kind ∧ a.cfg.secondRed = b.cfg.secondRed ∧ a.cfg.redsRequired = b.cfg.redsRequired ∧
    a.cfg.prepTime = b.cfg.prepTime ∧ a.cfg.leavingTime = b.cfg.leavingTime ∧ a.aspect = b.aspect ∧
    a.isolatedCable = b.isolatedCable ∧ a.redOut = b.redOut) ∧
  (∀ a b : Cable, a.settled = b.settled ↔
    a.state = b.state ∧ a.action = b.action ∧ a.route = b.route ∧ a.tolerance = b.tolerance ∧ a.limit = b.limit ∧
    a.faults = b.faults ∧ a.suspect = b.suspect ∧ a.result = b.result ∧ a.status = b.status) ∧
  (∀ a b : State, a.junctionSettled = b.junctionSettled ↔
    a.sup.mode = b.sup.mode ∧ a.sup.origin = b.sup.origin ∧ a.sup.firstCause = b.sup.firstCause ∧
    a.sup.furtherCauses = b.sup.furtherCauses ∧ a.sup.presentCauses = b.sup.presentCauses ∧
    a.base.tracker = b.base.tracker ∧ a.base.frequency = b.base.frequency ∧ a.base.timeValid = b.base.timeValid ∧
    a.sched.source = b.sched.source ∧ a.sched.overridePlan = b.sched.overridePlan ∧
    a.seq.running = b.seq.running ∧ a.seq.pending = b.seq.pending ∧ a.sched.dimOverride = b.sched.dimOverride ∧
    a.sched.dimState = b.sched.dimState ∧ a.sup.startRed = b.sup.startRed ∧ a.sup.sweep = b.sup.sweep ∧
    (a.bridge.state = .bridgeFault ↔ b.bridge.state = .bridgeFault)) ∧
  (∀ a b : Channel, a.settled = b.settled ↔
    a.cfg.profile = b.cfg.profile ∧ a.cfg.cable = b.cfg.cable ∧ a.cfg.dimmable = b.cfg.dimmable ∧
    a.verdict = b.verdict ∧ a.learnFailed = b.learnFailed ∧ a.bright.learned = b.bright.learned ∧
    a.bright.reference = b.bright.reference ∧ a.dim.map Part.learned = b.dim.map Part.learned ∧
    a.dim.map Part.reference = b.dim.map Part.reference)

/-! ## What every step keeps -/

/-- SAFETY OUTPUTS KEPT. From every state in which FSR is engaged only in STARTING, RUNNING and DARK, the port is off in
UNCONFIGURED, STANDBY, FAILSAFE and MAINS_OUT, the port lights no two conflicting greens, and the start phase is none
outside STARTING with its timer absent, every step leads to such a state, whatever the command and its operands (R149,
R153, R166). -/
def Obligations.SafetyOutputsKept : Prop :=
  ∀ s t : State, s.fsrSafe ∧ s.portSafe ∧ s.greensApart ∧ s.phaseRight → step s = .next t →
    t.fsrSafe ∧ t.portSafe ∧ t.greensApart ∧ t.phaseRight

/-- ATTENTION KEPT. From every state in which ATTNn is asserted exactly while a class qualifies, and each class on the
under-service chain ranks above those pushed before it, every step leads to such a state (R175). -/
def Obligations.AttentionKept : Prop :=
  ∀ s t : State, s.attn.lineRight ∧ s.attn.chainRight → step s = .next t → t.attn.lineRight ∧ t.attn.chainRight

/-- RECORDS KEPT. From every state in which the test queue holds at most one entry for a cable, DIM is driven exactly
in the dimming state DIM, a channel's worst kind is none exactly while its bad streak is 0, a dim part is present
exactly while dimmable is yes, and a disabled detector input holds the cleared values, every step leads to such a
state. From every state in which besides the bridge tests one queued cable exactly while it charges or measures, with
its timer and selection, every step leads to such a state; and from every state in which a context is held exactly in
a green and an interstage record exactly in INTERSTAGE, each of the current stage and of a running plan, the start
phase ALL_RED goes with the sequencer's ALL_RED, the pending plan is as R50 gives it, and owners of stages, the
running and the requested plan are LOADED, every step leads to such a state (R40, R42, R49, R50, R52, R55, R57, R64,
R68, R78, R79, R82, R133 to R135, R139, R166). -/
def Obligations.RecordsKept : Prop :=
  ∀ s t : State, step s = .next t →
    (s.queueRight ∧ s.dimRight ∧ s.streaksRight ∧ s.dimPartsRight ∧ s.detectorsRight →
      t.queueRight ∧ t.dimRight ∧ t.streaksRight ∧ t.dimPartsRight ∧ t.detectorsRight) ∧
    (s.queueRight ∧ s.bridgeRight → t.queueRight ∧ t.bridgeRight) ∧
    (s.sequencerRight ∧ s.plansRight → t.sequencerRight ∧ t.plansRight)

/-- SAFETY RECORDS FROZEN. No command but MAIN_RESET changes a written field of a GROUP, CONFLICT, PROFILE or CABLE record
unless the key is turned and the mode is UNCONFIGURED or STANDBY; of the state of a CABLE only the move between MONITORED
and ISOLATED is excepted, which the fault monitor and CLEAR_FAULT make, so that a cable is UNUSED after the command
exactly where it was before (R7, R11, R87, R124, R131, R132, R184, R186). -/
def Obligations.SafetyRecordsFrozen : Prop :=
  ∀ (c : Instr) (s t : State), c ≠ .mainReset → exec c s = .next t →
    (s.link.mkey = false ∨ (s.sup.mode ≠ .unconfigured ∧ s.sup.mode ≠ .standby)) →
    (∀ g : Fin 16, t.groups[g].cfg = s.groups[g].cfg) ∧ t.conflicts = s.conflicts ∧ t.profiles = s.profiles ∧
    (∀ k : Fin 16,
      t.cables[k].action = s.cables[k].action ∧ t.cables[k].route = s.cables[k].route ∧
      t.cables[k].tolerance = s.cables[k].tolerance ∧ t.cables[k].limit = s.cables[k].limit ∧
      (t.cables[k].state = .unused ↔ s.cables[k].state = .unused))

/-- RESET MEETS THE INVARIANTS. The machine right after reset meets every condition of the three invariants, is ready
for a frame, and holds the RESET response; its queue of commands is empty (R149, R153, R160, R166, R175, R179, R181).
That the queue is empty (log entry 1), and that main power is present there (log entry 3), are the model's choices. -/
def Obligations.ResetMeetsTheInvariants : Prop :=
  State.reset.fsrSafe ∧ State.reset.portSafe ∧ State.reset.greensApart ∧ State.reset.phaseRight ∧
  State.reset.attn.lineRight ∧ State.reset.attn.chainRight ∧
  State.reset.queueRight ∧ State.reset.dimRight ∧ State.reset.streaksRight ∧ State.reset.dimPartsRight ∧
  State.reset.detectorsRight ∧ State.reset.bridgeRight ∧ State.reset.sequencerRight ∧ State.reset.plansRight ∧
  State.reset.ready ∧ State.reset.link.slot.status = .reset ∧ State.reset.pending = []

end
end

