-- ==== Sys2Proof/Laws/State.lean ====
section
/-! SUPPORT. One lemma for each field and each update of State that is plain: what the field is after the update. All are
true by `rfl`, so that no later proof unfolds a record update. -/

namespace Sys2Proof.Machine

/-! `State.mapLink` -/

@[simp] theorem State.mapLink_pending (s : State) (f : Link → Link) : (s.mapLink f).pending = s.pending := rfl
@[simp] theorem State.mapLink_link (s : State) (f : Link → Link) : (s.mapLink f).link = f s.link := rfl
@[simp] theorem State.mapLink_base (s : State) (f : Link → Link) : (s.mapLink f).base = s.base := rfl
@[simp] theorem State.mapLink_sched (s : State) (f : Link → Link) : (s.mapLink f).sched = s.sched := rfl
@[simp] theorem State.mapLink_seq (s : State) (f : Link → Link) : (s.mapLink f).seq = s.seq := rfl
@[simp] theorem State.mapLink_sampler (s : State) (f : Link → Link) : (s.mapLink f).sampler = s.sampler := rfl
@[simp] theorem State.mapLink_sup (s : State) (f : Link → Link) : (s.mapLink f).sup = s.sup := rfl
@[simp] theorem State.mapLink_bridge (s : State) (f : Link → Link) : (s.mapLink f).bridge = s.bridge := rfl
@[simp] theorem State.mapLink_attn (s : State) (f : Link → Link) : (s.mapLink f).attn = s.attn := rfl
@[simp] theorem State.mapLink_port (s : State) (f : Link → Link) : (s.mapLink f).port = s.port := rfl
@[simp] theorem State.mapLink_groups (s : State) (f : Link → Link) : (s.mapLink f).groups = s.groups := rfl
@[simp] theorem State.mapLink_conflicts (s : State) (f : Link → Link) : (s.mapLink f).conflicts = s.conflicts := rfl
@[simp] theorem State.mapLink_channels (s : State) (f : Link → Link) : (s.mapLink f).channels = s.channels := rfl
@[simp] theorem State.mapLink_profiles (s : State) (f : Link → Link) : (s.mapLink f).profiles = s.profiles := rfl
@[simp] theorem State.mapLink_cables (s : State) (f : Link → Link) : (s.mapLink f).cables = s.cables := rfl
@[simp] theorem State.mapLink_plans (s : State) (f : Link → Link) : (s.mapLink f).plans = s.plans := rfl
@[simp] theorem State.mapLink_stages (s : State) (f : Link → Link) : (s.mapLink f).stages = s.stages := rfl
@[simp] theorem State.mapLink_schedule (s : State) (f : Link → Link) : (s.mapLink f).schedule = s.schedule := rfl
@[simp] theorem State.mapLink_detectors (s : State) (f : Link → Link) : (s.mapLink f).detectors = s.detectors := rfl
@[simp] theorem State.mapLink_junctionRev (s : State) (f : Link → Link) : (s.mapLink f).junctionRev = s.junctionRev := rfl
@[simp] theorem State.mapLink_counted (s : State) (f : Link → Link) : (s.mapLink f).counted = s.counted := rfl

/-! `State.mapBase` -/

@[simp] theorem State.mapBase_pending (s : State) (f : TimeBase → TimeBase) : (s.mapBase f).pending = s.pending := rfl
@[simp] theorem State.mapBase_link (s : State) (f : TimeBase → TimeBase) : (s.mapBase f).link = s.link := rfl
@[simp] theorem State.mapBase_base (s : State) (f : TimeBase → TimeBase) : (s.mapBase f).base = f s.base := rfl
@[simp] theorem State.mapBase_sched (s : State) (f : TimeBase → TimeBase) : (s.mapBase f).sched = s.sched := rfl
@[simp] theorem State.mapBase_seq (s : State) (f : TimeBase → TimeBase) : (s.mapBase f).seq = s.seq := rfl
@[simp] theorem State.mapBase_sampler (s : State) (f : TimeBase → TimeBase) : (s.mapBase f).sampler = s.sampler := rfl
@[simp] theorem State.mapBase_sup (s : State) (f : TimeBase → TimeBase) : (s.mapBase f).sup = s.sup := rfl
@[simp] theorem State.mapBase_bridge (s : State) (f : TimeBase → TimeBase) : (s.mapBase f).bridge = s.bridge := rfl
@[simp] theorem State.mapBase_attn (s : State) (f : TimeBase → TimeBase) : (s.mapBase f).attn = s.attn := rfl
@[simp] theorem State.mapBase_port (s : State) (f : TimeBase → TimeBase) : (s.mapBase f).port = s.port := rfl
@[simp] theorem State.mapBase_groups (s : State) (f : TimeBase → TimeBase) : (s.mapBase f).groups = s.groups := rfl
@[simp] theorem State.mapBase_conflicts (s : State) (f : TimeBase → TimeBase) : (s.mapBase f).conflicts = s.conflicts := rfl
@[simp] theorem State.mapBase_channels (s : State) (f : TimeBase → TimeBase) : (s.mapBase f).channels = s.channels := rfl
@[simp] theorem State.mapBase_profiles (s : State) (f : TimeBase → TimeBase) : (s.mapBase f).profiles = s.profiles := rfl
@[simp] theorem State.mapBase_cables (s : State) (f : TimeBase → TimeBase) : (s.mapBase f).cables = s.cables := rfl
@[simp] theorem State.mapBase_plans (s : State) (f : TimeBase → TimeBase) : (s.mapBase f).plans = s.plans := rfl
@[simp] theorem State.mapBase_stages (s : State) (f : TimeBase → TimeBase) : (s.mapBase f).stages = s.stages := rfl
@[simp] theorem State.mapBase_schedule (s : State) (f : TimeBase → TimeBase) : (s.mapBase f).schedule = s.schedule := rfl
@[simp] theorem State.mapBase_detectors (s : State) (f : TimeBase → TimeBase) : (s.mapBase f).detectors = s.detectors := rfl
@[simp] theorem State.mapBase_junctionRev (s : State) (f : TimeBase → TimeBase) : (s.mapBase f).junctionRev = s.junctionRev := rfl
@[simp] theorem State.mapBase_counted (s : State) (f : TimeBase → TimeBase) : (s.mapBase f).counted = s.counted := rfl

/-! `State.mapSched` -/

@[simp] theorem State.mapSched_pending (s : State) (f : ScheduleUnit → ScheduleUnit) : (s.mapSched f).pending = s.pending := rfl
@[simp] theorem State.mapSched_link (s : State) (f : ScheduleUnit → ScheduleUnit) : (s.mapSched f).link = s.link := rfl
@[simp] theorem State.mapSched_base (s : State) (f : ScheduleUnit → ScheduleUnit) : (s.mapSched f).base = s.base := rfl
@[simp] theorem State.mapSched_sched (s : State) (f : ScheduleUnit → ScheduleUnit) : (s.mapSched f).sched = f s.sched := rfl
@[simp] theorem State.mapSched_seq (s : State) (f : ScheduleUnit → ScheduleUnit) : (s.mapSched f).seq = s.seq := rfl
@[simp] theorem State.mapSched_sampler (s : State) (f : ScheduleUnit → ScheduleUnit) : (s.mapSched f).sampler = s.sampler := rfl
@[simp] theorem State.mapSched_sup (s : State) (f : ScheduleUnit → ScheduleUnit) : (s.mapSched f).sup = s.sup := rfl
@[simp] theorem State.mapSched_bridge (s : State) (f : ScheduleUnit → ScheduleUnit) : (s.mapSched f).bridge = s.bridge := rfl
@[simp] theorem State.mapSched_attn (s : State) (f : ScheduleUnit → ScheduleUnit) : (s.mapSched f).attn = s.attn := rfl
@[simp] theorem State.mapSched_port (s : State) (f : ScheduleUnit → ScheduleUnit) : (s.mapSched f).port = s.port := rfl
@[simp] theorem State.mapSched_groups (s : State) (f : ScheduleUnit → ScheduleUnit) : (s.mapSched f).groups = s.groups := rfl
@[simp] theorem State.mapSched_conflicts (s : State) (f : ScheduleUnit → ScheduleUnit) : (s.mapSched f).conflicts = s.conflicts := rfl
@[simp] theorem State.mapSched_channels (s : State) (f : ScheduleUnit → ScheduleUnit) : (s.mapSched f).channels = s.channels := rfl
@[simp] theorem State.mapSched_profiles (s : State) (f : ScheduleUnit → ScheduleUnit) : (s.mapSched f).profiles = s.profiles := rfl
@[simp] theorem State.mapSched_cables (s : State) (f : ScheduleUnit → ScheduleUnit) : (s.mapSched f).cables = s.cables := rfl
@[simp] theorem State.mapSched_plans (s : State) (f : ScheduleUnit → ScheduleUnit) : (s.mapSched f).plans = s.plans := rfl
@[simp] theorem State.mapSched_stages (s : State) (f : ScheduleUnit → ScheduleUnit) : (s.mapSched f).stages = s.stages := rfl
@[simp] theorem State.mapSched_schedule (s : State) (f : ScheduleUnit → ScheduleUnit) : (s.mapSched f).schedule = s.schedule := rfl
@[simp] theorem State.mapSched_detectors (s : State) (f : ScheduleUnit → ScheduleUnit) : (s.mapSched f).detectors = s.detectors := rfl
@[simp] theorem State.mapSched_junctionRev (s : State) (f : ScheduleUnit → ScheduleUnit) : (s.mapSched f).junctionRev = s.junctionRev := rfl
@[simp] theorem State.mapSched_counted (s : State) (f : ScheduleUnit → ScheduleUnit) : (s.mapSched f).counted = s.counted := rfl

/-! `State.mapSeq` -/

@[simp] theorem State.mapSeq_pending (s : State) (f : Sequencer → Sequencer) : (s.mapSeq f).pending = s.pending := rfl
@[simp] theorem State.mapSeq_link (s : State) (f : Sequencer → Sequencer) : (s.mapSeq f).link = s.link := rfl
@[simp] theorem State.mapSeq_base (s : State) (f : Sequencer → Sequencer) : (s.mapSeq f).base = s.base := rfl
@[simp] theorem State.mapSeq_sched (s : State) (f : Sequencer → Sequencer) : (s.mapSeq f).sched = s.sched := rfl
@[simp] theorem State.mapSeq_seq (s : State) (f : Sequencer → Sequencer) : (s.mapSeq f).seq = f s.seq := rfl
@[simp] theorem State.mapSeq_sampler (s : State) (f : Sequencer → Sequencer) : (s.mapSeq f).sampler = s.sampler := rfl
@[simp] theorem State.mapSeq_sup (s : State) (f : Sequencer → Sequencer) : (s.mapSeq f).sup = s.sup := rfl
@[simp] theorem State.mapSeq_bridge (s : State) (f : Sequencer → Sequencer) : (s.mapSeq f).bridge = s.bridge := rfl
@[simp] theorem State.mapSeq_attn (s : State) (f : Sequencer → Sequencer) : (s.mapSeq f).attn = s.attn := rfl
@[simp] theorem State.mapSeq_port (s : State) (f : Sequencer → Sequencer) : (s.mapSeq f).port = s.port := rfl
@[simp] theorem State.mapSeq_groups (s : State) (f : Sequencer → Sequencer) : (s.mapSeq f).groups = s.groups := rfl
@[simp] theorem State.mapSeq_conflicts (s : State) (f : Sequencer → Sequencer) : (s.mapSeq f).conflicts = s.conflicts := rfl
@[simp] theorem State.mapSeq_channels (s : State) (f : Sequencer → Sequencer) : (s.mapSeq f).channels = s.channels := rfl
@[simp] theorem State.mapSeq_profiles (s : State) (f : Sequencer → Sequencer) : (s.mapSeq f).profiles = s.profiles := rfl
@[simp] theorem State.mapSeq_cables (s : State) (f : Sequencer → Sequencer) : (s.mapSeq f).cables = s.cables := rfl
@[simp] theorem State.mapSeq_plans (s : State) (f : Sequencer → Sequencer) : (s.mapSeq f).plans = s.plans := rfl
@[simp] theorem State.mapSeq_stages (s : State) (f : Sequencer → Sequencer) : (s.mapSeq f).stages = s.stages := rfl
@[simp] theorem State.mapSeq_schedule (s : State) (f : Sequencer → Sequencer) : (s.mapSeq f).schedule = s.schedule := rfl
@[simp] theorem State.mapSeq_detectors (s : State) (f : Sequencer → Sequencer) : (s.mapSeq f).detectors = s.detectors := rfl
@[simp] theorem State.mapSeq_junctionRev (s : State) (f : Sequencer → Sequencer) : (s.mapSeq f).junctionRev = s.junctionRev := rfl
@[simp] theorem State.mapSeq_counted (s : State) (f : Sequencer → Sequencer) : (s.mapSeq f).counted = s.counted := rfl

/-! `State.mapSup` -/

@[simp] theorem State.mapSup_pending (s : State) (f : Supervisor → Supervisor) : (s.mapSup f).pending = s.pending := rfl
@[simp] theorem State.mapSup_link (s : State) (f : Supervisor → Supervisor) : (s.mapSup f).link = s.link := rfl
@[simp] theorem State.mapSup_base (s : State) (f : Supervisor → Supervisor) : (s.mapSup f).base = s.base := rfl
@[simp] theorem State.mapSup_sched (s : State) (f : Supervisor → Supervisor) : (s.mapSup f).sched = s.sched := rfl
@[simp] theorem State.mapSup_seq (s : State) (f : Supervisor → Supervisor) : (s.mapSup f).seq = s.seq := rfl
@[simp] theorem State.mapSup_sampler (s : State) (f : Supervisor → Supervisor) : (s.mapSup f).sampler = s.sampler := rfl
@[simp] theorem State.mapSup_sup (s : State) (f : Supervisor → Supervisor) : (s.mapSup f).sup = f s.sup := rfl
@[simp] theorem State.mapSup_bridge (s : State) (f : Supervisor → Supervisor) : (s.mapSup f).bridge = s.bridge := rfl
@[simp] theorem State.mapSup_attn (s : State) (f : Supervisor → Supervisor) : (s.mapSup f).attn = s.attn := rfl
@[simp] theorem State.mapSup_port (s : State) (f : Supervisor → Supervisor) : (s.mapSup f).port = s.port := rfl
@[simp] theorem State.mapSup_groups (s : State) (f : Supervisor → Supervisor) : (s.mapSup f).groups = s.groups := rfl
@[simp] theorem State.mapSup_conflicts (s : State) (f : Supervisor → Supervisor) : (s.mapSup f).conflicts = s.conflicts := rfl
@[simp] theorem State.mapSup_channels (s : State) (f : Supervisor → Supervisor) : (s.mapSup f).channels = s.channels := rfl
@[simp] theorem State.mapSup_profiles (s : State) (f : Supervisor → Supervisor) : (s.mapSup f).profiles = s.profiles := rfl
@[simp] theorem State.mapSup_cables (s : State) (f : Supervisor → Supervisor) : (s.mapSup f).cables = s.cables := rfl
@[simp] theorem State.mapSup_plans (s : State) (f : Supervisor → Supervisor) : (s.mapSup f).plans = s.plans := rfl
@[simp] theorem State.mapSup_stages (s : State) (f : Supervisor → Supervisor) : (s.mapSup f).stages = s.stages := rfl
@[simp] theorem State.mapSup_schedule (s : State) (f : Supervisor → Supervisor) : (s.mapSup f).schedule = s.schedule := rfl
@[simp] theorem State.mapSup_detectors (s : State) (f : Supervisor → Supervisor) : (s.mapSup f).detectors = s.detectors := rfl
@[simp] theorem State.mapSup_junctionRev (s : State) (f : Supervisor → Supervisor) : (s.mapSup f).junctionRev = s.junctionRev := rfl
@[simp] theorem State.mapSup_counted (s : State) (f : Supervisor → Supervisor) : (s.mapSup f).counted = s.counted := rfl

/-! `State.mapBridge` -/

@[simp] theorem State.mapBridge_pending (s : State) (f : Bridge → Bridge) : (s.mapBridge f).pending = s.pending := rfl
@[simp] theorem State.mapBridge_link (s : State) (f : Bridge → Bridge) : (s.mapBridge f).link = s.link := rfl
@[simp] theorem State.mapBridge_base (s : State) (f : Bridge → Bridge) : (s.mapBridge f).base = s.base := rfl
@[simp] theorem State.mapBridge_sched (s : State) (f : Bridge → Bridge) : (s.mapBridge f).sched = s.sched := rfl
@[simp] theorem State.mapBridge_seq (s : State) (f : Bridge → Bridge) : (s.mapBridge f).seq = s.seq := rfl
@[simp] theorem State.mapBridge_sampler (s : State) (f : Bridge → Bridge) : (s.mapBridge f).sampler = s.sampler := rfl
@[simp] theorem State.mapBridge_sup (s : State) (f : Bridge → Bridge) : (s.mapBridge f).sup = s.sup := rfl
@[simp] theorem State.mapBridge_bridge (s : State) (f : Bridge → Bridge) : (s.mapBridge f).bridge = f s.bridge := rfl
@[simp] theorem State.mapBridge_attn (s : State) (f : Bridge → Bridge) : (s.mapBridge f).attn = s.attn := rfl
@[simp] theorem State.mapBridge_port (s : State) (f : Bridge → Bridge) : (s.mapBridge f).port = s.port := rfl
@[simp] theorem State.mapBridge_groups (s : State) (f : Bridge → Bridge) : (s.mapBridge f).groups = s.groups := rfl
@[simp] theorem State.mapBridge_conflicts (s : State) (f : Bridge → Bridge) : (s.mapBridge f).conflicts = s.conflicts := rfl
@[simp] theorem State.mapBridge_channels (s : State) (f : Bridge → Bridge) : (s.mapBridge f).channels = s.channels := rfl
@[simp] theorem State.mapBridge_profiles (s : State) (f : Bridge → Bridge) : (s.mapBridge f).profiles = s.profiles := rfl
@[simp] theorem State.mapBridge_cables (s : State) (f : Bridge → Bridge) : (s.mapBridge f).cables = s.cables := rfl
@[simp] theorem State.mapBridge_plans (s : State) (f : Bridge → Bridge) : (s.mapBridge f).plans = s.plans := rfl
@[simp] theorem State.mapBridge_stages (s : State) (f : Bridge → Bridge) : (s.mapBridge f).stages = s.stages := rfl
@[simp] theorem State.mapBridge_schedule (s : State) (f : Bridge → Bridge) : (s.mapBridge f).schedule = s.schedule := rfl
@[simp] theorem State.mapBridge_detectors (s : State) (f : Bridge → Bridge) : (s.mapBridge f).detectors = s.detectors := rfl
@[simp] theorem State.mapBridge_junctionRev (s : State) (f : Bridge → Bridge) : (s.mapBridge f).junctionRev = s.junctionRev := rfl
@[simp] theorem State.mapBridge_counted (s : State) (f : Bridge → Bridge) : (s.mapBridge f).counted = s.counted := rfl

/-! `State.mapAttn` -/

@[simp] theorem State.mapAttn_pending (s : State) (f : Attention → Attention) : (s.mapAttn f).pending = s.pending := rfl
@[simp] theorem State.mapAttn_link (s : State) (f : Attention → Attention) : (s.mapAttn f).link = s.link := rfl
@[simp] theorem State.mapAttn_base (s : State) (f : Attention → Attention) : (s.mapAttn f).base = s.base := rfl
@[simp] theorem State.mapAttn_sched (s : State) (f : Attention → Attention) : (s.mapAttn f).sched = s.sched := rfl
@[simp] theorem State.mapAttn_seq (s : State) (f : Attention → Attention) : (s.mapAttn f).seq = s.seq := rfl
@[simp] theorem State.mapAttn_sampler (s : State) (f : Attention → Attention) : (s.mapAttn f).sampler = s.sampler := rfl
@[simp] theorem State.mapAttn_sup (s : State) (f : Attention → Attention) : (s.mapAttn f).sup = s.sup := rfl
@[simp] theorem State.mapAttn_bridge (s : State) (f : Attention → Attention) : (s.mapAttn f).bridge = s.bridge := rfl
@[simp] theorem State.mapAttn_attn (s : State) (f : Attention → Attention) : (s.mapAttn f).attn = f s.attn := rfl
@[simp] theorem State.mapAttn_port (s : State) (f : Attention → Attention) : (s.mapAttn f).port = s.port := rfl
@[simp] theorem State.mapAttn_groups (s : State) (f : Attention → Attention) : (s.mapAttn f).groups = s.groups := rfl
@[simp] theorem State.mapAttn_conflicts (s : State) (f : Attention → Attention) : (s.mapAttn f).conflicts = s.conflicts := rfl
@[simp] theorem State.mapAttn_channels (s : State) (f : Attention → Attention) : (s.mapAttn f).channels = s.channels := rfl
@[simp] theorem State.mapAttn_profiles (s : State) (f : Attention → Attention) : (s.mapAttn f).profiles = s.profiles := rfl
@[simp] theorem State.mapAttn_cables (s : State) (f : Attention → Attention) : (s.mapAttn f).cables = s.cables := rfl
@[simp] theorem State.mapAttn_plans (s : State) (f : Attention → Attention) : (s.mapAttn f).plans = s.plans := rfl
@[simp] theorem State.mapAttn_stages (s : State) (f : Attention → Attention) : (s.mapAttn f).stages = s.stages := rfl
@[simp] theorem State.mapAttn_schedule (s : State) (f : Attention → Attention) : (s.mapAttn f).schedule = s.schedule := rfl
@[simp] theorem State.mapAttn_detectors (s : State) (f : Attention → Attention) : (s.mapAttn f).detectors = s.detectors := rfl
@[simp] theorem State.mapAttn_junctionRev (s : State) (f : Attention → Attention) : (s.mapAttn f).junctionRev = s.junctionRev := rfl
@[simp] theorem State.mapAttn_counted (s : State) (f : Attention → Attention) : (s.mapAttn f).counted = s.counted := rfl

/-! `State.setGroup` -/

@[simp] theorem State.setGroup_pending (s : State) (i : Fin 16) (x : Group) : (s.setGroup i x).pending = s.pending := rfl
@[simp] theorem State.setGroup_link (s : State) (i : Fin 16) (x : Group) : (s.setGroup i x).link = s.link := rfl
@[simp] theorem State.setGroup_base (s : State) (i : Fin 16) (x : Group) : (s.setGroup i x).base = s.base := rfl
@[simp] theorem State.setGroup_sched (s : State) (i : Fin 16) (x : Group) : (s.setGroup i x).sched = s.sched := rfl
@[simp] theorem State.setGroup_seq (s : State) (i : Fin 16) (x : Group) : (s.setGroup i x).seq = s.seq := rfl
@[simp] theorem State.setGroup_sampler (s : State) (i : Fin 16) (x : Group) : (s.setGroup i x).sampler = s.sampler := rfl
@[simp] theorem State.setGroup_sup (s : State) (i : Fin 16) (x : Group) : (s.setGroup i x).sup = s.sup := rfl
@[simp] theorem State.setGroup_bridge (s : State) (i : Fin 16) (x : Group) : (s.setGroup i x).bridge = s.bridge := rfl
@[simp] theorem State.setGroup_attn (s : State) (i : Fin 16) (x : Group) : (s.setGroup i x).attn = s.attn := rfl
@[simp] theorem State.setGroup_port (s : State) (i : Fin 16) (x : Group) : (s.setGroup i x).port = s.port := rfl
@[simp] theorem State.setGroup_groups (s : State) (i : Fin 16) (x : Group) : (s.setGroup i x).groups = s.groups.set i x := rfl
@[simp] theorem State.setGroup_conflicts (s : State) (i : Fin 16) (x : Group) : (s.setGroup i x).conflicts = s.conflicts := rfl
@[simp] theorem State.setGroup_channels (s : State) (i : Fin 16) (x : Group) : (s.setGroup i x).channels = s.channels := rfl
@[simp] theorem State.setGroup_profiles (s : State) (i : Fin 16) (x : Group) : (s.setGroup i x).profiles = s.profiles := rfl
@[simp] theorem State.setGroup_cables (s : State) (i : Fin 16) (x : Group) : (s.setGroup i x).cables = s.cables := rfl
@[simp] theorem State.setGroup_plans (s : State) (i : Fin 16) (x : Group) : (s.setGroup i x).plans = s.plans := rfl
@[simp] theorem State.setGroup_stages (s : State) (i : Fin 16) (x : Group) : (s.setGroup i x).stages = s.stages := rfl
@[simp] theorem State.setGroup_schedule (s : State) (i : Fin 16) (x : Group) : (s.setGroup i x).schedule = s.schedule := rfl
@[simp] theorem State.setGroup_detectors (s : State) (i : Fin 16) (x : Group) : (s.setGroup i x).detectors = s.detectors := rfl
@[simp] theorem State.setGroup_junctionRev (s : State) (i : Fin 16) (x : Group) : (s.setGroup i x).junctionRev = s.junctionRev := rfl
@[simp] theorem State.setGroup_counted (s : State) (i : Fin 16) (x : Group) : (s.setGroup i x).counted = s.counted := rfl

/-! `State.setChannel` -/

@[simp] theorem State.setChannel_pending (s : State) (i : Fin 64) (x : Channel) : (s.setChannel i x).pending = s.pending := rfl
@[simp] theorem State.setChannel_link (s : State) (i : Fin 64) (x : Channel) : (s.setChannel i x).link = s.link := rfl
@[simp] theorem State.setChannel_base (s : State) (i : Fin 64) (x : Channel) : (s.setChannel i x).base = s.base := rfl
@[simp] theorem State.setChannel_sched (s : State) (i : Fin 64) (x : Channel) : (s.setChannel i x).sched = s.sched := rfl
@[simp] theorem State.setChannel_seq (s : State) (i : Fin 64) (x : Channel) : (s.setChannel i x).seq = s.seq := rfl
@[simp] theorem State.setChannel_sampler (s : State) (i : Fin 64) (x : Channel) : (s.setChannel i x).sampler = s.sampler := rfl
@[simp] theorem State.setChannel_sup (s : State) (i : Fin 64) (x : Channel) : (s.setChannel i x).sup = s.sup := rfl
@[simp] theorem State.setChannel_bridge (s : State) (i : Fin 64) (x : Channel) : (s.setChannel i x).bridge = s.bridge := rfl
@[simp] theorem State.setChannel_attn (s : State) (i : Fin 64) (x : Channel) : (s.setChannel i x).attn = s.attn := rfl
@[simp] theorem State.setChannel_port (s : State) (i : Fin 64) (x : Channel) : (s.setChannel i x).port = s.port := rfl
@[simp] theorem State.setChannel_groups (s : State) (i : Fin 64) (x : Channel) : (s.setChannel i x).groups = s.groups := rfl
@[simp] theorem State.setChannel_conflicts (s : State) (i : Fin 64) (x : Channel) : (s.setChannel i x).conflicts = s.conflicts := rfl
@[simp] theorem State.setChannel_channels (s : State) (i : Fin 64) (x : Channel) : (s.setChannel i x).channels = s.channels.set i x := rfl
@[simp] theorem State.setChannel_profiles (s : State) (i : Fin 64) (x : Channel) : (s.setChannel i x).profiles = s.profiles := rfl
@[simp] theorem State.setChannel_cables (s : State) (i : Fin 64) (x : Channel) : (s.setChannel i x).cables = s.cables := rfl
@[simp] theorem State.setChannel_plans (s : State) (i : Fin 64) (x : Channel) : (s.setChannel i x).plans = s.plans := rfl
@[simp] theorem State.setChannel_stages (s : State) (i : Fin 64) (x : Channel) : (s.setChannel i x).stages = s.stages := rfl
@[simp] theorem State.setChannel_schedule (s : State) (i : Fin 64) (x : Channel) : (s.setChannel i x).schedule = s.schedule := rfl
@[simp] theorem State.setChannel_detectors (s : State) (i : Fin 64) (x : Channel) : (s.setChannel i x).detectors = s.detectors := rfl
@[simp] theorem State.setChannel_junctionRev (s : State) (i : Fin 64) (x : Channel) : (s.setChannel i x).junctionRev = s.junctionRev := rfl
@[simp] theorem State.setChannel_counted (s : State) (i : Fin 64) (x : Channel) : (s.setChannel i x).counted = s.counted := rfl

/-! `State.setCable` -/

@[simp] theorem State.setCable_pending (s : State) (i : Fin 16) (x : Cable) : (s.setCable i x).pending = s.pending := rfl
@[simp] theorem State.setCable_link (s : State) (i : Fin 16) (x : Cable) : (s.setCable i x).link = s.link := rfl
@[simp] theorem State.setCable_base (s : State) (i : Fin 16) (x : Cable) : (s.setCable i x).base = s.base := rfl
@[simp] theorem State.setCable_sched (s : State) (i : Fin 16) (x : Cable) : (s.setCable i x).sched = s.sched := rfl
@[simp] theorem State.setCable_seq (s : State) (i : Fin 16) (x : Cable) : (s.setCable i x).seq = s.seq := rfl
@[simp] theorem State.setCable_sampler (s : State) (i : Fin 16) (x : Cable) : (s.setCable i x).sampler = s.sampler := rfl
@[simp] theorem State.setCable_sup (s : State) (i : Fin 16) (x : Cable) : (s.setCable i x).sup = s.sup := rfl
@[simp] theorem State.setCable_bridge (s : State) (i : Fin 16) (x : Cable) : (s.setCable i x).bridge = s.bridge := rfl
@[simp] theorem State.setCable_attn (s : State) (i : Fin 16) (x : Cable) : (s.setCable i x).attn = s.attn := rfl
@[simp] theorem State.setCable_port (s : State) (i : Fin 16) (x : Cable) : (s.setCable i x).port = s.port := rfl
@[simp] theorem State.setCable_groups (s : State) (i : Fin 16) (x : Cable) : (s.setCable i x).groups = s.groups := rfl
@[simp] theorem State.setCable_conflicts (s : State) (i : Fin 16) (x : Cable) : (s.setCable i x).conflicts = s.conflicts := rfl
@[simp] theorem State.setCable_channels (s : State) (i : Fin 16) (x : Cable) : (s.setCable i x).channels = s.channels := rfl
@[simp] theorem State.setCable_profiles (s : State) (i : Fin 16) (x : Cable) : (s.setCable i x).profiles = s.profiles := rfl
@[simp] theorem State.setCable_cables (s : State) (i : Fin 16) (x : Cable) : (s.setCable i x).cables = s.cables.set i x := rfl
@[simp] theorem State.setCable_plans (s : State) (i : Fin 16) (x : Cable) : (s.setCable i x).plans = s.plans := rfl
@[simp] theorem State.setCable_stages (s : State) (i : Fin 16) (x : Cable) : (s.setCable i x).stages = s.stages := rfl
@[simp] theorem State.setCable_schedule (s : State) (i : Fin 16) (x : Cable) : (s.setCable i x).schedule = s.schedule := rfl
@[simp] theorem State.setCable_detectors (s : State) (i : Fin 16) (x : Cable) : (s.setCable i x).detectors = s.detectors := rfl
@[simp] theorem State.setCable_junctionRev (s : State) (i : Fin 16) (x : Cable) : (s.setCable i x).junctionRev = s.junctionRev := rfl
@[simp] theorem State.setCable_counted (s : State) (i : Fin 16) (x : Cable) : (s.setCable i x).counted = s.counted := rfl

/-! `State.setPlan` -/

@[simp] theorem State.setPlan_pending (s : State) (i : Fin 8) (x : Plan) : (s.setPlan i x).pending = s.pending := rfl
@[simp] theorem State.setPlan_link (s : State) (i : Fin 8) (x : Plan) : (s.setPlan i x).link = s.link := rfl
@[simp] theorem State.setPlan_base (s : State) (i : Fin 8) (x : Plan) : (s.setPlan i x).base = s.base := rfl
@[simp] theorem State.setPlan_sched (s : State) (i : Fin 8) (x : Plan) : (s.setPlan i x).sched = s.sched := rfl
@[simp] theorem State.setPlan_seq (s : State) (i : Fin 8) (x : Plan) : (s.setPlan i x).seq = s.seq := rfl
@[simp] theorem State.setPlan_sampler (s : State) (i : Fin 8) (x : Plan) : (s.setPlan i x).sampler = s.sampler := rfl
@[simp] theorem State.setPlan_sup (s : State) (i : Fin 8) (x : Plan) : (s.setPlan i x).sup = s.sup := rfl
@[simp] theorem State.setPlan_bridge (s : State) (i : Fin 8) (x : Plan) : (s.setPlan i x).bridge = s.bridge := rfl
@[simp] theorem State.setPlan_attn (s : State) (i : Fin 8) (x : Plan) : (s.setPlan i x).attn = s.attn := rfl
@[simp] theorem State.setPlan_port (s : State) (i : Fin 8) (x : Plan) : (s.setPlan i x).port = s.port := rfl
@[simp] theorem State.setPlan_groups (s : State) (i : Fin 8) (x : Plan) : (s.setPlan i x).groups = s.groups := rfl
@[simp] theorem State.setPlan_conflicts (s : State) (i : Fin 8) (x : Plan) : (s.setPlan i x).conflicts = s.conflicts := rfl
@[simp] theorem State.setPlan_channels (s : State) (i : Fin 8) (x : Plan) : (s.setPlan i x).channels = s.channels := rfl
@[simp] theorem State.setPlan_profiles (s : State) (i : Fin 8) (x : Plan) : (s.setPlan i x).profiles = s.profiles := rfl
@[simp] theorem State.setPlan_cables (s : State) (i : Fin 8) (x : Plan) : (s.setPlan i x).cables = s.cables := rfl
@[simp] theorem State.setPlan_plans (s : State) (i : Fin 8) (x : Plan) : (s.setPlan i x).plans = s.plans.set i x := rfl
@[simp] theorem State.setPlan_stages (s : State) (i : Fin 8) (x : Plan) : (s.setPlan i x).stages = s.stages := rfl
@[simp] theorem State.setPlan_schedule (s : State) (i : Fin 8) (x : Plan) : (s.setPlan i x).schedule = s.schedule := rfl
@[simp] theorem State.setPlan_detectors (s : State) (i : Fin 8) (x : Plan) : (s.setPlan i x).detectors = s.detectors := rfl
@[simp] theorem State.setPlan_junctionRev (s : State) (i : Fin 8) (x : Plan) : (s.setPlan i x).junctionRev = s.junctionRev := rfl
@[simp] theorem State.setPlan_counted (s : State) (i : Fin 8) (x : Plan) : (s.setPlan i x).counted = s.counted := rfl

/-! `State.setStage` -/

@[simp] theorem State.setStage_pending (s : State) (i : Fin 96) (x : Stage) : (s.setStage i x).pending = s.pending := rfl
@[simp] theorem State.setStage_link (s : State) (i : Fin 96) (x : Stage) : (s.setStage i x).link = s.link := rfl
@[simp] theorem State.setStage_base (s : State) (i : Fin 96) (x : Stage) : (s.setStage i x).base = s.base := rfl
@[simp] theorem State.setStage_sched (s : State) (i : Fin 96) (x : Stage) : (s.setStage i x).sched = s.sched := rfl
@[simp] theorem State.setStage_seq (s : State) (i : Fin 96) (x : Stage) : (s.setStage i x).seq = s.seq := rfl
@[simp] theorem State.setStage_sampler (s : State) (i : Fin 96) (x : Stage) : (s.setStage i x).sampler = s.sampler := rfl
@[simp] theorem State.setStage_sup (s : State) (i : Fin 96) (x : Stage) : (s.setStage i x).sup = s.sup := rfl
@[simp] theorem State.setStage_bridge (s : State) (i : Fin 96) (x : Stage) : (s.setStage i x).bridge = s.bridge := rfl
@[simp] theorem State.setStage_attn (s : State) (i : Fin 96) (x : Stage) : (s.setStage i x).attn = s.attn := rfl
@[simp] theorem State.setStage_port (s : State) (i : Fin 96) (x : Stage) : (s.setStage i x).port = s.port := rfl
@[simp] theorem State.setStage_groups (s : State) (i : Fin 96) (x : Stage) : (s.setStage i x).groups = s.groups := rfl
@[simp] theorem State.setStage_conflicts (s : State) (i : Fin 96) (x : Stage) : (s.setStage i x).conflicts = s.conflicts := rfl
@[simp] theorem State.setStage_channels (s : State) (i : Fin 96) (x : Stage) : (s.setStage i x).channels = s.channels := rfl
@[simp] theorem State.setStage_profiles (s : State) (i : Fin 96) (x : Stage) : (s.setStage i x).profiles = s.profiles := rfl
@[simp] theorem State.setStage_cables (s : State) (i : Fin 96) (x : Stage) : (s.setStage i x).cables = s.cables := rfl
@[simp] theorem State.setStage_plans (s : State) (i : Fin 96) (x : Stage) : (s.setStage i x).plans = s.plans := rfl
@[simp] theorem State.setStage_stages (s : State) (i : Fin 96) (x : Stage) : (s.setStage i x).stages = s.stages.set i x := rfl
@[simp] theorem State.setStage_schedule (s : State) (i : Fin 96) (x : Stage) : (s.setStage i x).schedule = s.schedule := rfl
@[simp] theorem State.setStage_detectors (s : State) (i : Fin 96) (x : Stage) : (s.setStage i x).detectors = s.detectors := rfl
@[simp] theorem State.setStage_junctionRev (s : State) (i : Fin 96) (x : Stage) : (s.setStage i x).junctionRev = s.junctionRev := rfl
@[simp] theorem State.setStage_counted (s : State) (i : Fin 96) (x : Stage) : (s.setStage i x).counted = s.counted := rfl

/-! `State.setDetector` -/

@[simp] theorem State.setDetector_pending (s : State) (i : Fin 16) (x : Detector) : (s.setDetector i x).pending = s.pending := rfl
@[simp] theorem State.setDetector_link (s : State) (i : Fin 16) (x : Detector) : (s.setDetector i x).link = s.link := rfl
@[simp] theorem State.setDetector_base (s : State) (i : Fin 16) (x : Detector) : (s.setDetector i x).base = s.base := rfl
@[simp] theorem State.setDetector_sched (s : State) (i : Fin 16) (x : Detector) : (s.setDetector i x).sched = s.sched := rfl
@[simp] theorem State.setDetector_seq (s : State) (i : Fin 16) (x : Detector) : (s.setDetector i x).seq = s.seq := rfl
@[simp] theorem State.setDetector_sampler (s : State) (i : Fin 16) (x : Detector) : (s.setDetector i x).sampler = s.sampler := rfl
@[simp] theorem State.setDetector_sup (s : State) (i : Fin 16) (x : Detector) : (s.setDetector i x).sup = s.sup := rfl
@[simp] theorem State.setDetector_bridge (s : State) (i : Fin 16) (x : Detector) : (s.setDetector i x).bridge = s.bridge := rfl
@[simp] theorem State.setDetector_attn (s : State) (i : Fin 16) (x : Detector) : (s.setDetector i x).attn = s.attn := rfl
@[simp] theorem State.setDetector_port (s : State) (i : Fin 16) (x : Detector) : (s.setDetector i x).port = s.port := rfl
@[simp] theorem State.setDetector_groups (s : State) (i : Fin 16) (x : Detector) : (s.setDetector i x).groups = s.groups := rfl
@[simp] theorem State.setDetector_conflicts (s : State) (i : Fin 16) (x : Detector) : (s.setDetector i x).conflicts = s.conflicts := rfl
@[simp] theorem State.setDetector_channels (s : State) (i : Fin 16) (x : Detector) : (s.setDetector i x).channels = s.channels := rfl
@[simp] theorem State.setDetector_profiles (s : State) (i : Fin 16) (x : Detector) : (s.setDetector i x).profiles = s.profiles := rfl
@[simp] theorem State.setDetector_cables (s : State) (i : Fin 16) (x : Detector) : (s.setDetector i x).cables = s.cables := rfl
@[simp] theorem State.setDetector_plans (s : State) (i : Fin 16) (x : Detector) : (s.setDetector i x).plans = s.plans := rfl
@[simp] theorem State.setDetector_stages (s : State) (i : Fin 16) (x : Detector) : (s.setDetector i x).stages = s.stages := rfl
@[simp] theorem State.setDetector_schedule (s : State) (i : Fin 16) (x : Detector) : (s.setDetector i x).schedule = s.schedule := rfl
@[simp] theorem State.setDetector_detectors (s : State) (i : Fin 16) (x : Detector) : (s.setDetector i x).detectors = s.detectors.set i x := rfl
@[simp] theorem State.setDetector_junctionRev (s : State) (i : Fin 16) (x : Detector) : (s.setDetector i x).junctionRev = s.junctionRev := rfl
@[simp] theorem State.setDetector_counted (s : State) (i : Fin 16) (x : Detector) : (s.setDetector i x).counted = s.counted := rfl

/-! `State.post` -/

@[simp] theorem State.post_pending (s : State) (c : AClass) (t : Table) (i : Nat) : (s.post c t i).pending = s.pending := rfl
@[simp] theorem State.post_link (s : State) (c : AClass) (t : Table) (i : Nat) : (s.post c t i).link = s.link := rfl
@[simp] theorem State.post_base (s : State) (c : AClass) (t : Table) (i : Nat) : (s.post c t i).base = s.base := rfl
@[simp] theorem State.post_sched (s : State) (c : AClass) (t : Table) (i : Nat) : (s.post c t i).sched = s.sched := rfl
@[simp] theorem State.post_seq (s : State) (c : AClass) (t : Table) (i : Nat) : (s.post c t i).seq = s.seq := rfl
@[simp] theorem State.post_sampler (s : State) (c : AClass) (t : Table) (i : Nat) : (s.post c t i).sampler = s.sampler := rfl
@[simp] theorem State.post_sup (s : State) (c : AClass) (t : Table) (i : Nat) : (s.post c t i).sup = s.sup := rfl
@[simp] theorem State.post_bridge (s : State) (c : AClass) (t : Table) (i : Nat) : (s.post c t i).bridge = s.bridge := rfl
@[simp] theorem State.post_attn (s : State) (c : AClass) (t : Table) (i : Nat) : (s.post c t i).attn = s.attn.post c { table := t, index := i } := rfl
@[simp] theorem State.post_port (s : State) (c : AClass) (t : Table) (i : Nat) : (s.post c t i).port = s.port := rfl
@[simp] theorem State.post_groups (s : State) (c : AClass) (t : Table) (i : Nat) : (s.post c t i).groups = s.groups := rfl
@[simp] theorem State.post_conflicts (s : State) (c : AClass) (t : Table) (i : Nat) : (s.post c t i).conflicts = s.conflicts := rfl
@[simp] theorem State.post_channels (s : State) (c : AClass) (t : Table) (i : Nat) : (s.post c t i).channels = s.channels := rfl
@[simp] theorem State.post_profiles (s : State) (c : AClass) (t : Table) (i : Nat) : (s.post c t i).profiles = s.profiles := rfl
@[simp] theorem State.post_cables (s : State) (c : AClass) (t : Table) (i : Nat) : (s.post c t i).cables = s.cables := rfl
@[simp] theorem State.post_plans (s : State) (c : AClass) (t : Table) (i : Nat) : (s.post c t i).plans = s.plans := rfl
@[simp] theorem State.post_stages (s : State) (c : AClass) (t : Table) (i : Nat) : (s.post c t i).stages = s.stages := rfl
@[simp] theorem State.post_schedule (s : State) (c : AClass) (t : Table) (i : Nat) : (s.post c t i).schedule = s.schedule := rfl
@[simp] theorem State.post_detectors (s : State) (c : AClass) (t : Table) (i : Nat) : (s.post c t i).detectors = s.detectors := rfl
@[simp] theorem State.post_junctionRev (s : State) (c : AClass) (t : Table) (i : Nat) : (s.post c t i).junctionRev = s.junctionRev := rfl
@[simp] theorem State.post_counted (s : State) (c : AClass) (t : Table) (i : Nat) : (s.post c t i).counted = s.counted := rfl

/-! `State.shiftOut` -/

@[simp] theorem State.shiftOut_pending (s : State) (n : Nat) : (s.shiftOut n).pending = s.pending := rfl
@[simp] theorem State.shiftOut_link (s : State) (n : Nat) : (s.shiftOut n).link = { s.link with sdo := s.link.slot.shifted n } := rfl
@[simp] theorem State.shiftOut_base (s : State) (n : Nat) : (s.shiftOut n).base = s.base := rfl
@[simp] theorem State.shiftOut_sched (s : State) (n : Nat) : (s.shiftOut n).sched = s.sched := rfl
@[simp] theorem State.shiftOut_seq (s : State) (n : Nat) : (s.shiftOut n).seq = s.seq := rfl
@[simp] theorem State.shiftOut_sampler (s : State) (n : Nat) : (s.shiftOut n).sampler = s.sampler := rfl
@[simp] theorem State.shiftOut_sup (s : State) (n : Nat) : (s.shiftOut n).sup = s.sup := rfl
@[simp] theorem State.shiftOut_bridge (s : State) (n : Nat) : (s.shiftOut n).bridge = s.bridge := rfl
@[simp] theorem State.shiftOut_attn (s : State) (n : Nat) : (s.shiftOut n).attn = s.attn := rfl
@[simp] theorem State.shiftOut_port (s : State) (n : Nat) : (s.shiftOut n).port = s.port := rfl
@[simp] theorem State.shiftOut_groups (s : State) (n : Nat) : (s.shiftOut n).groups = s.groups := rfl
@[simp] theorem State.shiftOut_conflicts (s : State) (n : Nat) : (s.shiftOut n).conflicts = s.conflicts := rfl
@[simp] theorem State.shiftOut_channels (s : State) (n : Nat) : (s.shiftOut n).channels = s.channels := rfl
@[simp] theorem State.shiftOut_profiles (s : State) (n : Nat) : (s.shiftOut n).profiles = s.profiles := rfl
@[simp] theorem State.shiftOut_cables (s : State) (n : Nat) : (s.shiftOut n).cables = s.cables := rfl
@[simp] theorem State.shiftOut_plans (s : State) (n : Nat) : (s.shiftOut n).plans = s.plans := rfl
@[simp] theorem State.shiftOut_stages (s : State) (n : Nat) : (s.shiftOut n).stages = s.stages := rfl
@[simp] theorem State.shiftOut_schedule (s : State) (n : Nat) : (s.shiftOut n).schedule = s.schedule := rfl
@[simp] theorem State.shiftOut_detectors (s : State) (n : Nat) : (s.shiftOut n).detectors = s.detectors := rfl
@[simp] theorem State.shiftOut_junctionRev (s : State) (n : Nat) : (s.shiftOut n).junctionRev = s.junctionRev := rfl
@[simp] theorem State.shiftOut_counted (s : State) (n : Nat) : (s.shiftOut n).counted = s.counted := rfl

/-! `State.setSlot` -/

@[simp] theorem State.setSlot_pending (s : State) (r : Response) : (s.setSlot r).pending = s.pending := rfl
@[simp] theorem State.setSlot_link (s : State) (r : Response) : (s.setSlot r).link = { s.link with slot := r } := rfl
@[simp] theorem State.setSlot_base (s : State) (r : Response) : (s.setSlot r).base = s.base := rfl
@[simp] theorem State.setSlot_sched (s : State) (r : Response) : (s.setSlot r).sched = s.sched := rfl
@[simp] theorem State.setSlot_seq (s : State) (r : Response) : (s.setSlot r).seq = s.seq := rfl
@[simp] theorem State.setSlot_sampler (s : State) (r : Response) : (s.setSlot r).sampler = s.sampler := rfl
@[simp] theorem State.setSlot_sup (s : State) (r : Response) : (s.setSlot r).sup = s.sup := rfl
@[simp] theorem State.setSlot_bridge (s : State) (r : Response) : (s.setSlot r).bridge = s.bridge := rfl
@[simp] theorem State.setSlot_attn (s : State) (r : Response) : (s.setSlot r).attn = s.attn := rfl
@[simp] theorem State.setSlot_port (s : State) (r : Response) : (s.setSlot r).port = s.port := rfl
@[simp] theorem State.setSlot_groups (s : State) (r : Response) : (s.setSlot r).groups = s.groups := rfl
@[simp] theorem State.setSlot_conflicts (s : State) (r : Response) : (s.setSlot r).conflicts = s.conflicts := rfl
@[simp] theorem State.setSlot_channels (s : State) (r : Response) : (s.setSlot r).channels = s.channels := rfl
@[simp] theorem State.setSlot_profiles (s : State) (r : Response) : (s.setSlot r).profiles = s.profiles := rfl
@[simp] theorem State.setSlot_cables (s : State) (r : Response) : (s.setSlot r).cables = s.cables := rfl
@[simp] theorem State.setSlot_plans (s : State) (r : Response) : (s.setSlot r).plans = s.plans := rfl
@[simp] theorem State.setSlot_stages (s : State) (r : Response) : (s.setSlot r).stages = s.stages := rfl
@[simp] theorem State.setSlot_schedule (s : State) (r : Response) : (s.setSlot r).schedule = s.schedule := rfl
@[simp] theorem State.setSlot_detectors (s : State) (r : Response) : (s.setSlot r).detectors = s.detectors := rfl
@[simp] theorem State.setSlot_junctionRev (s : State) (r : Response) : (s.setSlot r).junctionRev = s.junctionRev := rfl
@[simp] theorem State.setSlot_counted (s : State) (r : Response) : (s.setSlot r).counted = s.counted := rfl

/-! `State.land` -/

@[simp] theorem State.land_pending (s : State) (r : Response) : (s.land r).pending = s.pending := rfl
@[simp] theorem State.land_link (s : State) (r : Response) : (s.land r).link = { s.link with inFlight := none, slot := r } := rfl
@[simp] theorem State.land_base (s : State) (r : Response) : (s.land r).base = s.base := rfl
@[simp] theorem State.land_sched (s : State) (r : Response) : (s.land r).sched = s.sched := rfl
@[simp] theorem State.land_seq (s : State) (r : Response) : (s.land r).seq = s.seq := rfl
@[simp] theorem State.land_sampler (s : State) (r : Response) : (s.land r).sampler = s.sampler := rfl
@[simp] theorem State.land_sup (s : State) (r : Response) : (s.land r).sup = s.sup := rfl
@[simp] theorem State.land_bridge (s : State) (r : Response) : (s.land r).bridge = s.bridge := rfl
@[simp] theorem State.land_attn (s : State) (r : Response) : (s.land r).attn = s.attn := rfl
@[simp] theorem State.land_port (s : State) (r : Response) : (s.land r).port = s.port := rfl
@[simp] theorem State.land_groups (s : State) (r : Response) : (s.land r).groups = s.groups := rfl
@[simp] theorem State.land_conflicts (s : State) (r : Response) : (s.land r).conflicts = s.conflicts := rfl
@[simp] theorem State.land_channels (s : State) (r : Response) : (s.land r).channels = s.channels := rfl
@[simp] theorem State.land_profiles (s : State) (r : Response) : (s.land r).profiles = s.profiles := rfl
@[simp] theorem State.land_cables (s : State) (r : Response) : (s.land r).cables = s.cables := rfl
@[simp] theorem State.land_plans (s : State) (r : Response) : (s.land r).plans = s.plans := rfl
@[simp] theorem State.land_stages (s : State) (r : Response) : (s.land r).stages = s.stages := rfl
@[simp] theorem State.land_schedule (s : State) (r : Response) : (s.land r).schedule = s.schedule := rfl
@[simp] theorem State.land_detectors (s : State) (r : Response) : (s.land r).detectors = s.detectors := rfl
@[simp] theorem State.land_junctionRev (s : State) (r : Response) : (s.land r).junctionRev = s.junctionRev := rfl
@[simp] theorem State.land_counted (s : State) (r : Response) : (s.land r).counted = s.counted := rfl

/-! `State.withPending` -/

@[simp] theorem State.withPending_pending (s : State) (q : List Instr) : (s.withPending q).pending = q := rfl
@[simp] theorem State.withPending_link (s : State) (q : List Instr) : (s.withPending q).link = s.link := rfl
@[simp] theorem State.withPending_base (s : State) (q : List Instr) : (s.withPending q).base = s.base := rfl
@[simp] theorem State.withPending_sched (s : State) (q : List Instr) : (s.withPending q).sched = s.sched := rfl
@[simp] theorem State.withPending_seq (s : State) (q : List Instr) : (s.withPending q).seq = s.seq := rfl
@[simp] theorem State.withPending_sampler (s : State) (q : List Instr) : (s.withPending q).sampler = s.sampler := rfl
@[simp] theorem State.withPending_sup (s : State) (q : List Instr) : (s.withPending q).sup = s.sup := rfl
@[simp] theorem State.withPending_bridge (s : State) (q : List Instr) : (s.withPending q).bridge = s.bridge := rfl
@[simp] theorem State.withPending_attn (s : State) (q : List Instr) : (s.withPending q).attn = s.attn := rfl
@[simp] theorem State.withPending_port (s : State) (q : List Instr) : (s.withPending q).port = s.port := rfl
@[simp] theorem State.withPending_groups (s : State) (q : List Instr) : (s.withPending q).groups = s.groups := rfl
@[simp] theorem State.withPending_conflicts (s : State) (q : List Instr) : (s.withPending q).conflicts = s.conflicts := rfl
@[simp] theorem State.withPending_channels (s : State) (q : List Instr) : (s.withPending q).channels = s.channels := rfl
@[simp] theorem State.withPending_profiles (s : State) (q : List Instr) : (s.withPending q).profiles = s.profiles := rfl
@[simp] theorem State.withPending_cables (s : State) (q : List Instr) : (s.withPending q).cables = s.cables := rfl
@[simp] theorem State.withPending_plans (s : State) (q : List Instr) : (s.withPending q).plans = s.plans := rfl
@[simp] theorem State.withPending_stages (s : State) (q : List Instr) : (s.withPending q).stages = s.stages := rfl
@[simp] theorem State.withPending_schedule (s : State) (q : List Instr) : (s.withPending q).schedule = s.schedule := rfl
@[simp] theorem State.withPending_detectors (s : State) (q : List Instr) : (s.withPending q).detectors = s.detectors := rfl
@[simp] theorem State.withPending_junctionRev (s : State) (q : List Instr) : (s.withPending q).junctionRev = s.junctionRev := rfl
@[simp] theorem State.withPending_counted (s : State) (q : List Instr) : (s.withPending q).counted = s.counted := rfl

/-! `State.setSeqState` -/

@[simp] theorem State.setSeqState_pending (s : State) (q : SeqState) : (s.setSeqState q).pending = s.pending := rfl
@[simp] theorem State.setSeqState_link (s : State) (q : SeqState) : (s.setSeqState q).link = s.link := rfl
@[simp] theorem State.setSeqState_base (s : State) (q : SeqState) : (s.setSeqState q).base = s.base := rfl
@[simp] theorem State.setSeqState_sched (s : State) (q : SeqState) : (s.setSeqState q).sched = s.sched := rfl
@[simp] theorem State.setSeqState_seq (s : State) (q : SeqState) : (s.setSeqState q).seq = { s.seq with state := q } := rfl
@[simp] theorem State.setSeqState_sampler (s : State) (q : SeqState) : (s.setSeqState q).sampler = s.sampler := rfl
@[simp] theorem State.setSeqState_sup (s : State) (q : SeqState) : (s.setSeqState q).sup = s.sup := rfl
@[simp] theorem State.setSeqState_bridge (s : State) (q : SeqState) : (s.setSeqState q).bridge = s.bridge := rfl
@[simp] theorem State.setSeqState_attn (s : State) (q : SeqState) : (s.setSeqState q).attn = s.attn := rfl
@[simp] theorem State.setSeqState_port (s : State) (q : SeqState) : (s.setSeqState q).port = s.port := rfl
@[simp] theorem State.setSeqState_groups (s : State) (q : SeqState) : (s.setSeqState q).groups = s.groups := rfl
@[simp] theorem State.setSeqState_conflicts (s : State) (q : SeqState) : (s.setSeqState q).conflicts = s.conflicts := rfl
@[simp] theorem State.setSeqState_channels (s : State) (q : SeqState) : (s.setSeqState q).channels = s.channels := rfl
@[simp] theorem State.setSeqState_profiles (s : State) (q : SeqState) : (s.setSeqState q).profiles = s.profiles := rfl
@[simp] theorem State.setSeqState_cables (s : State) (q : SeqState) : (s.setSeqState q).cables = s.cables := rfl
@[simp] theorem State.setSeqState_plans (s : State) (q : SeqState) : (s.setSeqState q).plans = s.plans := rfl
@[simp] theorem State.setSeqState_stages (s : State) (q : SeqState) : (s.setSeqState q).stages = s.stages := rfl
@[simp] theorem State.setSeqState_schedule (s : State) (q : SeqState) : (s.setSeqState q).schedule = s.schedule := rfl
@[simp] theorem State.setSeqState_detectors (s : State) (q : SeqState) : (s.setSeqState q).detectors = s.detectors := rfl
@[simp] theorem State.setSeqState_junctionRev (s : State) (q : SeqState) : (s.setSeqState q).junctionRev = s.junctionRev := rfl
@[simp] theorem State.setSeqState_counted (s : State) (q : SeqState) : (s.setSeqState q).counted = s.counted := rfl

/-! `State.groupsToRed` -/

@[simp] theorem State.groupsToRed_pending (s : State) : (s.groupsToRed).pending = s.pending := rfl
@[simp] theorem State.groupsToRed_link (s : State) : (s.groupsToRed).link = s.link := rfl
@[simp] theorem State.groupsToRed_base (s : State) : (s.groupsToRed).base = s.base := rfl
@[simp] theorem State.groupsToRed_sched (s : State) : (s.groupsToRed).sched = s.sched := rfl
@[simp] theorem State.groupsToRed_seq (s : State) : (s.groupsToRed).seq = s.seq := rfl
@[simp] theorem State.groupsToRed_sampler (s : State) : (s.groupsToRed).sampler = s.sampler := rfl
@[simp] theorem State.groupsToRed_sup (s : State) : (s.groupsToRed).sup = s.sup := rfl
@[simp] theorem State.groupsToRed_bridge (s : State) : (s.groupsToRed).bridge = s.bridge := rfl
@[simp] theorem State.groupsToRed_attn (s : State) : (s.groupsToRed).attn = s.attn := rfl
@[simp] theorem State.groupsToRed_port (s : State) : (s.groupsToRed).port = s.port := rfl
@[simp] theorem State.groupsToRed_groups (s : State) : (s.groupsToRed).groups = s.groups.map Group.toRed := rfl
@[simp] theorem State.groupsToRed_conflicts (s : State) : (s.groupsToRed).conflicts = s.conflicts := rfl
@[simp] theorem State.groupsToRed_channels (s : State) : (s.groupsToRed).channels = s.channels := rfl
@[simp] theorem State.groupsToRed_profiles (s : State) : (s.groupsToRed).profiles = s.profiles := rfl
@[simp] theorem State.groupsToRed_cables (s : State) : (s.groupsToRed).cables = s.cables := rfl
@[simp] theorem State.groupsToRed_plans (s : State) : (s.groupsToRed).plans = s.plans := rfl
@[simp] theorem State.groupsToRed_stages (s : State) : (s.groupsToRed).stages = s.stages := rfl
@[simp] theorem State.groupsToRed_schedule (s : State) : (s.groupsToRed).schedule = s.schedule := rfl
@[simp] theorem State.groupsToRed_detectors (s : State) : (s.groupsToRed).detectors = s.detectors := rfl
@[simp] theorem State.groupsToRed_junctionRev (s : State) : (s.groupsToRed).junctionRev = s.junctionRev := rfl
@[simp] theorem State.groupsToRed_counted (s : State) : (s.groupsToRed).counted = s.counted := rfl

/-! `State.directStopped` -/

@[simp] theorem State.directStopped_pending (s : State) : (s.directStopped).pending = s.pending := rfl
@[simp] theorem State.directStopped_link (s : State) : (s.directStopped).link = s.link := rfl
@[simp] theorem State.directStopped_base (s : State) : (s.directStopped).base = s.base := rfl
@[simp] theorem State.directStopped_sched (s : State) : (s.directStopped).sched = s.sched := rfl
@[simp] theorem State.directStopped_seq (s : State) : (s.directStopped).seq = { s.seq with state := .stopped, running := none, pending := none, current := none, context := none, interstage := none, allBarred := false } := rfl
@[simp] theorem State.directStopped_sampler (s : State) : (s.directStopped).sampler = s.sampler := rfl
@[simp] theorem State.directStopped_sup (s : State) : (s.directStopped).sup = s.sup := rfl
@[simp] theorem State.directStopped_bridge (s : State) : (s.directStopped).bridge = s.bridge := rfl
@[simp] theorem State.directStopped_attn (s : State) : (s.directStopped).attn = s.attn := rfl
@[simp] theorem State.directStopped_port (s : State) : (s.directStopped).port = s.port := rfl
@[simp] theorem State.directStopped_groups (s : State) : (s.directStopped).groups = s.groups.map Group.toRed := rfl
@[simp] theorem State.directStopped_conflicts (s : State) : (s.directStopped).conflicts = s.conflicts := rfl
@[simp] theorem State.directStopped_channels (s : State) : (s.directStopped).channels = s.channels := rfl
@[simp] theorem State.directStopped_profiles (s : State) : (s.directStopped).profiles = s.profiles := rfl
@[simp] theorem State.directStopped_cables (s : State) : (s.directStopped).cables = s.cables := rfl
@[simp] theorem State.directStopped_plans (s : State) : (s.directStopped).plans = s.plans := rfl
@[simp] theorem State.directStopped_stages (s : State) : (s.directStopped).stages = s.stages := rfl
@[simp] theorem State.directStopped_schedule (s : State) : (s.directStopped).schedule = s.schedule := rfl
@[simp] theorem State.directStopped_detectors (s : State) : (s.directStopped).detectors = s.detectors := rfl
@[simp] theorem State.directStopped_junctionRev (s : State) : (s.directStopped).junctionRev = s.junctionRev := rfl
@[simp] theorem State.directStopped_counted (s : State) : (s.directStopped).counted = s.counted := rfl

/-! `State.directSuspended` -/

@[simp] theorem State.directSuspended_pending (s : State) : (s.directSuspended).pending = s.pending := rfl
@[simp] theorem State.directSuspended_link (s : State) : (s.directSuspended).link = s.link := rfl
@[simp] theorem State.directSuspended_base (s : State) : (s.directSuspended).base = s.base := rfl
@[simp] theorem State.directSuspended_sched (s : State) : (s.directSuspended).sched = s.sched := rfl
@[simp] theorem State.directSuspended_seq (s : State) : (s.directSuspended).seq = { s.seq with state := .suspended, context := none, interstage := none, allBarred := false } := rfl
@[simp] theorem State.directSuspended_sampler (s : State) : (s.directSuspended).sampler = s.sampler := rfl
@[simp] theorem State.directSuspended_sup (s : State) : (s.directSuspended).sup = s.sup := rfl
@[simp] theorem State.directSuspended_bridge (s : State) : (s.directSuspended).bridge = s.bridge := rfl
@[simp] theorem State.directSuspended_attn (s : State) : (s.directSuspended).attn = s.attn := rfl
@[simp] theorem State.directSuspended_port (s : State) : (s.directSuspended).port = s.port := rfl
@[simp] theorem State.directSuspended_groups (s : State) : (s.directSuspended).groups = s.groups.map Group.toRed := rfl
@[simp] theorem State.directSuspended_conflicts (s : State) : (s.directSuspended).conflicts = s.conflicts := rfl
@[simp] theorem State.directSuspended_channels (s : State) : (s.directSuspended).channels = s.channels := rfl
@[simp] theorem State.directSuspended_profiles (s : State) : (s.directSuspended).profiles = s.profiles := rfl
@[simp] theorem State.directSuspended_cables (s : State) : (s.directSuspended).cables = s.cables := rfl
@[simp] theorem State.directSuspended_plans (s : State) : (s.directSuspended).plans = s.plans := rfl
@[simp] theorem State.directSuspended_stages (s : State) : (s.directSuspended).stages = s.stages := rfl
@[simp] theorem State.directSuspended_schedule (s : State) : (s.directSuspended).schedule = s.schedule := rfl
@[simp] theorem State.directSuspended_detectors (s : State) : (s.directSuspended).detectors = s.detectors := rfl
@[simp] theorem State.directSuspended_junctionRev (s : State) : (s.directSuspended).junctionRev = s.junctionRev := rfl
@[simp] theorem State.directSuspended_counted (s : State) : (s.directSuspended).counted = s.counted := rfl

/-! `State.directAllRed` -/

@[simp] theorem State.directAllRed_pending (s : State) : (s.directAllRed).pending = s.pending := rfl
@[simp] theorem State.directAllRed_link (s : State) : (s.directAllRed).link = s.link := rfl
@[simp] theorem State.directAllRed_base (s : State) : (s.directAllRed).base = s.base := rfl
@[simp] theorem State.directAllRed_sched (s : State) : (s.directAllRed).sched = s.sched := rfl
@[simp] theorem State.directAllRed_seq (s : State) : (s.directAllRed).seq = { s.seq with state := .allRed, running := none, pending := none, current := none, context := none, interstage := none, allBarred := false } := rfl
@[simp] theorem State.directAllRed_sampler (s : State) : (s.directAllRed).sampler = s.sampler := rfl
@[simp] theorem State.directAllRed_sup (s : State) : (s.directAllRed).sup = s.sup := rfl
@[simp] theorem State.directAllRed_bridge (s : State) : (s.directAllRed).bridge = s.bridge := rfl
@[simp] theorem State.directAllRed_attn (s : State) : (s.directAllRed).attn = s.attn := rfl
@[simp] theorem State.directAllRed_port (s : State) : (s.directAllRed).port = s.port := rfl
@[simp] theorem State.directAllRed_groups (s : State) : (s.directAllRed).groups = s.groups.map Group.toRed := rfl
@[simp] theorem State.directAllRed_conflicts (s : State) : (s.directAllRed).conflicts = s.conflicts := rfl
@[simp] theorem State.directAllRed_channels (s : State) : (s.directAllRed).channels = s.channels := rfl
@[simp] theorem State.directAllRed_profiles (s : State) : (s.directAllRed).profiles = s.profiles := rfl
@[simp] theorem State.directAllRed_cables (s : State) : (s.directAllRed).cables = s.cables := rfl
@[simp] theorem State.directAllRed_plans (s : State) : (s.directAllRed).plans = s.plans := rfl
@[simp] theorem State.directAllRed_stages (s : State) : (s.directAllRed).stages = s.stages := rfl
@[simp] theorem State.directAllRed_schedule (s : State) : (s.directAllRed).schedule = s.schedule := rfl
@[simp] theorem State.directAllRed_detectors (s : State) : (s.directAllRed).detectors = s.detectors := rfl
@[simp] theorem State.directAllRed_junctionRev (s : State) : (s.directAllRed).junctionRev = s.junctionRev := rfl
@[simp] theorem State.directAllRed_counted (s : State) : (s.directAllRed).counted = s.counted := rfl

/-! `State.beginAllRed` -/

@[simp] theorem State.beginAllRed_pending (s : State) : (s.beginAllRed).pending = s.pending := rfl
@[simp] theorem State.beginAllRed_link (s : State) : (s.beginAllRed).link = s.link := rfl
@[simp] theorem State.beginAllRed_base (s : State) : (s.beginAllRed).base = s.base := rfl
@[simp] theorem State.beginAllRed_sched (s : State) : (s.beginAllRed).sched = s.sched := rfl
@[simp] theorem State.beginAllRed_seq (s : State) : (s.beginAllRed).seq = s.directAllRed.seq := rfl
@[simp] theorem State.beginAllRed_sampler (s : State) : (s.beginAllRed).sampler = s.sampler := rfl
@[simp] theorem State.beginAllRed_sup (s : State) : (s.beginAllRed).sup = { s.sup with phase := some .allRed, phaseTimer := some 0, redInUse := some s.sup.startRed } := rfl
@[simp] theorem State.beginAllRed_bridge (s : State) : (s.beginAllRed).bridge = s.bridge := rfl
@[simp] theorem State.beginAllRed_attn (s : State) : (s.beginAllRed).attn = s.attn := rfl
@[simp] theorem State.beginAllRed_port (s : State) : (s.beginAllRed).port = s.port := rfl
@[simp] theorem State.beginAllRed_groups (s : State) : (s.beginAllRed).groups = s.groups.map Group.toRed := rfl
@[simp] theorem State.beginAllRed_conflicts (s : State) : (s.beginAllRed).conflicts = s.conflicts := rfl
@[simp] theorem State.beginAllRed_channels (s : State) : (s.beginAllRed).channels = s.channels := rfl
@[simp] theorem State.beginAllRed_profiles (s : State) : (s.beginAllRed).profiles = s.profiles := rfl
@[simp] theorem State.beginAllRed_cables (s : State) : (s.beginAllRed).cables = s.cables := rfl
@[simp] theorem State.beginAllRed_plans (s : State) : (s.beginAllRed).plans = s.plans := rfl
@[simp] theorem State.beginAllRed_stages (s : State) : (s.beginAllRed).stages = s.stages := rfl
@[simp] theorem State.beginAllRed_schedule (s : State) : (s.beginAllRed).schedule = s.schedule := rfl
@[simp] theorem State.beginAllRed_detectors (s : State) : (s.beginAllRed).detectors = s.detectors := rfl
@[simp] theorem State.beginAllRed_junctionRev (s : State) : (s.beginAllRed).junctionRev = s.junctionRev := rfl
@[simp] theorem State.beginAllRed_counted (s : State) : (s.beginAllRed).counted = s.counted := rfl

/-! `State.workOutPending` -/

@[simp] theorem State.workOutPending_pending (s : State) : (s.workOutPending).pending = s.pending := rfl
@[simp] theorem State.workOutPending_link (s : State) : (s.workOutPending).link = s.link := rfl
@[simp] theorem State.workOutPending_base (s : State) : (s.workOutPending).base = s.base := rfl
@[simp] theorem State.workOutPending_sched (s : State) : (s.workOutPending).sched = s.sched := rfl
@[simp] theorem State.workOutPending_seq (s : State) : (s.workOutPending).seq = { s.seq with pending := pendingFor s.seq.running s.sched.requested } := rfl
@[simp] theorem State.workOutPending_sampler (s : State) : (s.workOutPending).sampler = s.sampler := rfl
@[simp] theorem State.workOutPending_sup (s : State) : (s.workOutPending).sup = s.sup := rfl
@[simp] theorem State.workOutPending_bridge (s : State) : (s.workOutPending).bridge = s.bridge := rfl
@[simp] theorem State.workOutPending_attn (s : State) : (s.workOutPending).attn = s.attn := rfl
@[simp] theorem State.workOutPending_port (s : State) : (s.workOutPending).port = s.port := rfl
@[simp] theorem State.workOutPending_groups (s : State) : (s.workOutPending).groups = s.groups := rfl
@[simp] theorem State.workOutPending_conflicts (s : State) : (s.workOutPending).conflicts = s.conflicts := rfl
@[simp] theorem State.workOutPending_channels (s : State) : (s.workOutPending).channels = s.channels := rfl
@[simp] theorem State.workOutPending_profiles (s : State) : (s.workOutPending).profiles = s.profiles := rfl
@[simp] theorem State.workOutPending_cables (s : State) : (s.workOutPending).cables = s.cables := rfl
@[simp] theorem State.workOutPending_plans (s : State) : (s.workOutPending).plans = s.plans := rfl
@[simp] theorem State.workOutPending_stages (s : State) : (s.workOutPending).stages = s.stages := rfl
@[simp] theorem State.workOutPending_schedule (s : State) : (s.workOutPending).schedule = s.schedule := rfl
@[simp] theorem State.workOutPending_detectors (s : State) : (s.workOutPending).detectors = s.detectors := rfl
@[simp] theorem State.workOutPending_junctionRev (s : State) : (s.workOutPending).junctionRev = s.junctionRev := rfl
@[simp] theorem State.workOutPending_counted (s : State) : (s.workOutPending).counted = s.counted := rfl

/-! `State.darkCauses` -/

@[simp] theorem State.darkCauses_pending (s : State) : (s.darkCauses).pending = s.pending := by simp only [State.darkCauses]
@[simp] theorem State.darkCauses_link (s : State) : (s.darkCauses).link = s.link := by simp only [State.darkCauses]
@[simp] theorem State.darkCauses_base (s : State) : (s.darkCauses).base = s.base := by simp only [State.darkCauses]
@[simp] theorem State.darkCauses_sched (s : State) : (s.darkCauses).sched = s.sched := by simp only [State.darkCauses]
@[simp] theorem State.darkCauses_seq (s : State) : (s.darkCauses).seq = s.seq := by simp only [State.darkCauses]
@[simp] theorem State.darkCauses_sampler (s : State) : (s.darkCauses).sampler = s.sampler := by simp only [State.darkCauses]
@[simp] theorem State.darkCauses_sup (s : State) : (s.darkCauses).sup = s.sup := by simp only [State.darkCauses]
@[simp] theorem State.darkCauses_bridge (s : State) : (s.darkCauses).bridge = s.bridge := by simp only [State.darkCauses]
@[simp] theorem State.darkCauses_attn (s : State) : (s.darkCauses).attn = s.attn := by simp only [State.darkCauses]
@[simp] theorem State.darkCauses_port (s : State) : (s.darkCauses).port = s.port := by simp only [State.darkCauses]
@[simp] theorem State.darkCauses_conflicts (s : State) : (s.darkCauses).conflicts = s.conflicts := by simp only [State.darkCauses]
@[simp] theorem State.darkCauses_channels (s : State) : (s.darkCauses).channels = s.channels := by simp only [State.darkCauses]
@[simp] theorem State.darkCauses_profiles (s : State) : (s.darkCauses).profiles = s.profiles := by simp only [State.darkCauses]
@[simp] theorem State.darkCauses_cables (s : State) : (s.darkCauses).cables = s.cables := by simp only [State.darkCauses]
@[simp] theorem State.darkCauses_plans (s : State) : (s.darkCauses).plans = s.plans := by simp only [State.darkCauses]
@[simp] theorem State.darkCauses_stages (s : State) : (s.darkCauses).stages = s.stages := by simp only [State.darkCauses]
@[simp] theorem State.darkCauses_schedule (s : State) : (s.darkCauses).schedule = s.schedule := by simp only [State.darkCauses]
@[simp] theorem State.darkCauses_detectors (s : State) : (s.darkCauses).detectors = s.detectors := by simp only [State.darkCauses]
@[simp] theorem State.darkCauses_junctionRev (s : State) : (s.darkCauses).junctionRev = s.junctionRev := by simp only [State.darkCauses]
@[simp] theorem State.darkCauses_counted (s : State) : (s.darkCauses).counted = s.counted := by simp only [State.darkCauses]

/-! `State.redCauses` -/

@[simp] theorem State.redCauses_pending (s : State) : (s.redCauses).pending = s.pending := by simp only [State.redCauses]
@[simp] theorem State.redCauses_link (s : State) : (s.redCauses).link = s.link := by simp only [State.redCauses]
@[simp] theorem State.redCauses_base (s : State) : (s.redCauses).base = s.base := by simp only [State.redCauses]
@[simp] theorem State.redCauses_sched (s : State) : (s.redCauses).sched = s.sched := by simp only [State.redCauses]
@[simp] theorem State.redCauses_seq (s : State) : (s.redCauses).seq = s.seq := by simp only [State.redCauses]
@[simp] theorem State.redCauses_sampler (s : State) : (s.redCauses).sampler = s.sampler := by simp only [State.redCauses]
@[simp] theorem State.redCauses_sup (s : State) : (s.redCauses).sup = s.sup := by simp only [State.redCauses]
@[simp] theorem State.redCauses_bridge (s : State) : (s.redCauses).bridge = s.bridge := by simp only [State.redCauses]
@[simp] theorem State.redCauses_attn (s : State) : (s.redCauses).attn = s.attn := by simp only [State.redCauses]
@[simp] theorem State.redCauses_port (s : State) : (s.redCauses).port = s.port := by simp only [State.redCauses]
@[simp] theorem State.redCauses_conflicts (s : State) : (s.redCauses).conflicts = s.conflicts := by simp only [State.redCauses]
@[simp] theorem State.redCauses_channels (s : State) : (s.redCauses).channels = s.channels := by simp only [State.redCauses]
@[simp] theorem State.redCauses_profiles (s : State) : (s.redCauses).profiles = s.profiles := by simp only [State.redCauses]
@[simp] theorem State.redCauses_cables (s : State) : (s.redCauses).cables = s.cables := by simp only [State.redCauses]
@[simp] theorem State.redCauses_plans (s : State) : (s.redCauses).plans = s.plans := by simp only [State.redCauses]
@[simp] theorem State.redCauses_stages (s : State) : (s.redCauses).stages = s.stages := by simp only [State.redCauses]
@[simp] theorem State.redCauses_schedule (s : State) : (s.redCauses).schedule = s.schedule := by simp only [State.redCauses]
@[simp] theorem State.redCauses_detectors (s : State) : (s.redCauses).detectors = s.detectors := by simp only [State.redCauses]
@[simp] theorem State.redCauses_junctionRev (s : State) : (s.redCauses).junctionRev = s.junctionRev := by simp only [State.redCauses]
@[simp] theorem State.redCauses_counted (s : State) : (s.redCauses).counted = s.counted := by simp only [State.redCauses]

/-! `State.setStatus` -/

@[simp] theorem State.setStatus_pending (s : State) (k : Fin 16) (t : TestStatus) : (s.setStatus k t).pending = s.pending := rfl
@[simp] theorem State.setStatus_link (s : State) (k : Fin 16) (t : TestStatus) : (s.setStatus k t).link = s.link := rfl
@[simp] theorem State.setStatus_base (s : State) (k : Fin 16) (t : TestStatus) : (s.setStatus k t).base = s.base := rfl
@[simp] theorem State.setStatus_sched (s : State) (k : Fin 16) (t : TestStatus) : (s.setStatus k t).sched = s.sched := rfl
@[simp] theorem State.setStatus_seq (s : State) (k : Fin 16) (t : TestStatus) : (s.setStatus k t).seq = s.seq := rfl
@[simp] theorem State.setStatus_sampler (s : State) (k : Fin 16) (t : TestStatus) : (s.setStatus k t).sampler = s.sampler := rfl
@[simp] theorem State.setStatus_sup (s : State) (k : Fin 16) (t : TestStatus) : (s.setStatus k t).sup = s.sup := rfl
@[simp] theorem State.setStatus_bridge (s : State) (k : Fin 16) (t : TestStatus) : (s.setStatus k t).bridge = s.bridge := rfl
@[simp] theorem State.setStatus_attn (s : State) (k : Fin 16) (t : TestStatus) : (s.setStatus k t).attn = s.attn := rfl
@[simp] theorem State.setStatus_port (s : State) (k : Fin 16) (t : TestStatus) : (s.setStatus k t).port = s.port := rfl
@[simp] theorem State.setStatus_groups (s : State) (k : Fin 16) (t : TestStatus) : (s.setStatus k t).groups = s.groups := rfl
@[simp] theorem State.setStatus_conflicts (s : State) (k : Fin 16) (t : TestStatus) : (s.setStatus k t).conflicts = s.conflicts := rfl
@[simp] theorem State.setStatus_channels (s : State) (k : Fin 16) (t : TestStatus) : (s.setStatus k t).channels = s.channels := rfl
@[simp] theorem State.setStatus_profiles (s : State) (k : Fin 16) (t : TestStatus) : (s.setStatus k t).profiles = s.profiles := rfl
@[simp] theorem State.setStatus_cables (s : State) (k : Fin 16) (t : TestStatus) : (s.setStatus k t).cables = s.cables.set k { s.cables[k] with status := t } := rfl
@[simp] theorem State.setStatus_plans (s : State) (k : Fin 16) (t : TestStatus) : (s.setStatus k t).plans = s.plans := rfl
@[simp] theorem State.setStatus_stages (s : State) (k : Fin 16) (t : TestStatus) : (s.setStatus k t).stages = s.stages := rfl
@[simp] theorem State.setStatus_schedule (s : State) (k : Fin 16) (t : TestStatus) : (s.setStatus k t).schedule = s.schedule := rfl
@[simp] theorem State.setStatus_detectors (s : State) (k : Fin 16) (t : TestStatus) : (s.setStatus k t).detectors = s.detectors := rfl
@[simp] theorem State.setStatus_junctionRev (s : State) (k : Fin 16) (t : TestStatus) : (s.setStatus k t).junctionRev = s.junctionRev := rfl
@[simp] theorem State.setStatus_counted (s : State) (k : Fin 16) (t : TestStatus) : (s.setStatus k t).counted = s.counted := rfl

/-! `State.countChannels` -/

@[simp] theorem State.countChannels_pending (s : State) : (s.countChannels).pending = s.pending := rfl
@[simp] theorem State.countChannels_link (s : State) : (s.countChannels).link = s.link := rfl
@[simp] theorem State.countChannels_base (s : State) : (s.countChannels).base = s.base := rfl
@[simp] theorem State.countChannels_sched (s : State) : (s.countChannels).sched = s.sched := rfl
@[simp] theorem State.countChannels_seq (s : State) : (s.countChannels).seq = s.seq := rfl
@[simp] theorem State.countChannels_sampler (s : State) : (s.countChannels).sampler = s.sampler := rfl
@[simp] theorem State.countChannels_sup (s : State) : (s.countChannels).sup = s.sup := rfl
@[simp] theorem State.countChannels_bridge (s : State) : (s.countChannels).bridge = s.bridge := rfl
@[simp] theorem State.countChannels_attn (s : State) : (s.countChannels).attn = s.attn := rfl
@[simp] theorem State.countChannels_port (s : State) : (s.countChannels).port = s.port := rfl
@[simp] theorem State.countChannels_groups (s : State) : (s.countChannels).groups = s.groups := rfl
@[simp] theorem State.countChannels_conflicts (s : State) : (s.countChannels).conflicts = s.conflicts := rfl
@[simp] theorem State.countChannels_channels (s : State) : (s.countChannels).channels = s.channels := rfl
@[simp] theorem State.countChannels_profiles (s : State) : (s.countChannels).profiles = s.profiles := rfl
@[simp] theorem State.countChannels_cables (s : State) : (s.countChannels).cables = s.cables := rfl
@[simp] theorem State.countChannels_plans (s : State) : (s.countChannels).plans = s.plans := rfl
@[simp] theorem State.countChannels_stages (s : State) : (s.countChannels).stages = s.stages := rfl
@[simp] theorem State.countChannels_schedule (s : State) : (s.countChannels).schedule = s.schedule := rfl
@[simp] theorem State.countChannels_detectors (s : State) : (s.countChannels).detectors = s.detectors := rfl
@[simp] theorem State.countChannels_junctionRev (s : State) : (s.countChannels).junctionRev = s.junctionRev := rfl
@[simp] theorem State.countChannels_counted (s : State) : (s.countChannels).counted = s.channels.map fun c => c.cfg.cable := rfl

/-! `State.selectReference` -/

@[simp] theorem State.selectReference_pending (s : State) : (s.selectReference).pending = s.pending := rfl
@[simp] theorem State.selectReference_link (s : State) : (s.selectReference).link = s.link := rfl
@[simp] theorem State.selectReference_base (s : State) : (s.selectReference).base = s.base := rfl
@[simp] theorem State.selectReference_sched (s : State) : (s.selectReference).sched = s.sched := rfl
@[simp] theorem State.selectReference_seq (s : State) : (s.selectReference).seq = s.seq := rfl
@[simp] theorem State.selectReference_sampler (s : State) : (s.selectReference).sampler = s.sampler := rfl
@[simp] theorem State.selectReference_sup (s : State) : (s.selectReference).sup = s.sup := rfl
@[simp] theorem State.selectReference_bridge (s : State) : (s.selectReference).bridge = { s.bridge with selection := .reference } := rfl
@[simp] theorem State.selectReference_attn (s : State) : (s.selectReference).attn = s.attn := rfl
@[simp] theorem State.selectReference_port (s : State) : (s.selectReference).port = s.port := rfl
@[simp] theorem State.selectReference_groups (s : State) : (s.selectReference).groups = s.groups := rfl
@[simp] theorem State.selectReference_conflicts (s : State) : (s.selectReference).conflicts = s.conflicts := rfl
@[simp] theorem State.selectReference_channels (s : State) : (s.selectReference).channels = s.channels := rfl
@[simp] theorem State.selectReference_profiles (s : State) : (s.selectReference).profiles = s.profiles := rfl
@[simp] theorem State.selectReference_cables (s : State) : (s.selectReference).cables = s.cables := rfl
@[simp] theorem State.selectReference_plans (s : State) : (s.selectReference).plans = s.plans := rfl
@[simp] theorem State.selectReference_stages (s : State) : (s.selectReference).stages = s.stages := rfl
@[simp] theorem State.selectReference_schedule (s : State) : (s.selectReference).schedule = s.schedule := rfl
@[simp] theorem State.selectReference_detectors (s : State) : (s.selectReference).detectors = s.detectors := rfl
@[simp] theorem State.selectReference_junctionRev (s : State) : (s.selectReference).junctionRev = s.junctionRev := rfl
@[simp] theorem State.selectReference_counted (s : State) : (s.selectReference).counted = s.counted := rfl

/-! `State.openCycle` -/

@[simp] theorem State.openCycle_pending (s : State) : (s.openCycle).pending = s.pending := rfl
@[simp] theorem State.openCycle_link (s : State) : (s.openCycle).link = s.link := rfl
@[simp] theorem State.openCycle_base (s : State) : (s.openCycle).base = s.base := rfl
@[simp] theorem State.openCycle_sched (s : State) : (s.openCycle).sched = s.sched := rfl
@[simp] theorem State.openCycle_seq (s : State) : (s.openCycle).seq = s.seq := rfl
@[simp] theorem State.openCycle_sup (s : State) : (s.openCycle).sup = s.sup := rfl
@[simp] theorem State.openCycle_bridge (s : State) : (s.openCycle).bridge = s.bridge := rfl
@[simp] theorem State.openCycle_attn (s : State) : (s.openCycle).attn = s.attn := rfl
@[simp] theorem State.openCycle_port (s : State) : (s.openCycle).port = s.port := rfl
@[simp] theorem State.openCycle_groups (s : State) : (s.openCycle).groups = s.groups := rfl
@[simp] theorem State.openCycle_conflicts (s : State) : (s.openCycle).conflicts = s.conflicts := rfl
@[simp] theorem State.openCycle_channels (s : State) : (s.openCycle).channels = s.channels := rfl
@[simp] theorem State.openCycle_profiles (s : State) : (s.openCycle).profiles = s.profiles := rfl
@[simp] theorem State.openCycle_cables (s : State) : (s.openCycle).cables = s.cables := rfl
@[simp] theorem State.openCycle_plans (s : State) : (s.openCycle).plans = s.plans := rfl
@[simp] theorem State.openCycle_stages (s : State) : (s.openCycle).stages = s.stages := rfl
@[simp] theorem State.openCycle_schedule (s : State) : (s.openCycle).schedule = s.schedule := rfl
@[simp] theorem State.openCycle_detectors (s : State) : (s.openCycle).detectors = s.detectors := rfl
@[simp] theorem State.openCycle_junctionRev (s : State) : (s.openCycle).junctionRev = s.junctionRev := rfl
@[simp] theorem State.openCycle_counted (s : State) : (s.openCycle).counted = s.counted := rfl

/-! `State.settleTick` -/

@[simp] theorem State.settleTick_pending (s : State) : (s.settleTick).pending = s.pending := rfl
@[simp] theorem State.settleTick_link (s : State) : (s.settleTick).link = s.link := rfl
@[simp] theorem State.settleTick_base (s : State) : (s.settleTick).base = s.base := rfl
@[simp] theorem State.settleTick_sched (s : State) : (s.settleTick).sched = { s.sched with dimSettle := s.sched.dimSettle - 1 } := rfl
@[simp] theorem State.settleTick_seq (s : State) : (s.settleTick).seq = s.seq := rfl
@[simp] theorem State.settleTick_sampler (s : State) : (s.settleTick).sampler = s.sampler := rfl
@[simp] theorem State.settleTick_sup (s : State) : (s.settleTick).sup = s.sup := rfl
@[simp] theorem State.settleTick_bridge (s : State) : (s.settleTick).bridge = s.bridge := rfl
@[simp] theorem State.settleTick_attn (s : State) : (s.settleTick).attn = s.attn := rfl
@[simp] theorem State.settleTick_port (s : State) : (s.settleTick).port = s.port := rfl
@[simp] theorem State.settleTick_groups (s : State) : (s.settleTick).groups = s.groups := rfl
@[simp] theorem State.settleTick_conflicts (s : State) : (s.settleTick).conflicts = s.conflicts := rfl
@[simp] theorem State.settleTick_channels (s : State) : (s.settleTick).channels = s.channels := rfl
@[simp] theorem State.settleTick_profiles (s : State) : (s.settleTick).profiles = s.profiles := rfl
@[simp] theorem State.settleTick_cables (s : State) : (s.settleTick).cables = s.cables := rfl
@[simp] theorem State.settleTick_plans (s : State) : (s.settleTick).plans = s.plans := rfl
@[simp] theorem State.settleTick_stages (s : State) : (s.settleTick).stages = s.stages := rfl
@[simp] theorem State.settleTick_schedule (s : State) : (s.settleTick).schedule = s.schedule := rfl
@[simp] theorem State.settleTick_detectors (s : State) : (s.settleTick).detectors = s.detectors := rfl
@[simp] theorem State.settleTick_junctionRev (s : State) : (s.settleTick).junctionRev = s.junctionRev := rfl
@[simp] theorem State.settleTick_counted (s : State) : (s.settleTick).counted = s.counted := rfl

/-! `State.putChannel` -/

@[simp] theorem State.putChannel_pending (s : State) (c : Fin 64) (x : Channel) : (s.putChannel c x).pending = s.pending := rfl
@[simp] theorem State.putChannel_link (s : State) (c : Fin 64) (x : Channel) : (s.putChannel c x).link = s.link := rfl
@[simp] theorem State.putChannel_base (s : State) (c : Fin 64) (x : Channel) : (s.putChannel c x).base = s.base := rfl
@[simp] theorem State.putChannel_sched (s : State) (c : Fin 64) (x : Channel) : (s.putChannel c x).sched = s.sched := rfl
@[simp] theorem State.putChannel_seq (s : State) (c : Fin 64) (x : Channel) : (s.putChannel c x).seq = s.seq := rfl
@[simp] theorem State.putChannel_sampler (s : State) (c : Fin 64) (x : Channel) : (s.putChannel c x).sampler = s.sampler := rfl
@[simp] theorem State.putChannel_sup (s : State) (c : Fin 64) (x : Channel) : (s.putChannel c x).sup = s.sup := rfl
@[simp] theorem State.putChannel_bridge (s : State) (c : Fin 64) (x : Channel) : (s.putChannel c x).bridge = s.bridge := rfl
@[simp] theorem State.putChannel_attn (s : State) (c : Fin 64) (x : Channel) : (s.putChannel c x).attn = s.attn := rfl
@[simp] theorem State.putChannel_port (s : State) (c : Fin 64) (x : Channel) : (s.putChannel c x).port = s.port := rfl
@[simp] theorem State.putChannel_groups (s : State) (c : Fin 64) (x : Channel) : (s.putChannel c x).groups = s.groups := rfl
@[simp] theorem State.putChannel_conflicts (s : State) (c : Fin 64) (x : Channel) : (s.putChannel c x).conflicts = s.conflicts := rfl
@[simp] theorem State.putChannel_channels (s : State) (c : Fin 64) (x : Channel) : (s.putChannel c x).channels = s.channels.set c (Channel.moved s.channels[c] x) := rfl
@[simp] theorem State.putChannel_profiles (s : State) (c : Fin 64) (x : Channel) : (s.putChannel c x).profiles = s.profiles := rfl
@[simp] theorem State.putChannel_cables (s : State) (c : Fin 64) (x : Channel) : (s.putChannel c x).cables = s.cables := rfl
@[simp] theorem State.putChannel_plans (s : State) (c : Fin 64) (x : Channel) : (s.putChannel c x).plans = s.plans := rfl
@[simp] theorem State.putChannel_stages (s : State) (c : Fin 64) (x : Channel) : (s.putChannel c x).stages = s.stages := rfl
@[simp] theorem State.putChannel_schedule (s : State) (c : Fin 64) (x : Channel) : (s.putChannel c x).schedule = s.schedule := rfl
@[simp] theorem State.putChannel_detectors (s : State) (c : Fin 64) (x : Channel) : (s.putChannel c x).detectors = s.detectors := rfl
@[simp] theorem State.putChannel_junctionRev (s : State) (c : Fin 64) (x : Channel) : (s.putChannel c x).junctionRev = s.junctionRev := rfl
@[simp] theorem State.putChannel_counted (s : State) (c : Fin 64) (x : Channel) : (s.putChannel c x).counted = s.counted := rfl

/-! `event`: only the revisions of GROUP, CABLE and JUNCTION records differ from what the work leaves -/

@[simp] theorem event_pending (f : State → State) (s : State) : (event f s).pending = (f s).pending := rfl
@[simp] theorem event_link (f : State → State) (s : State) : (event f s).link = (f s).link := rfl
@[simp] theorem event_base (f : State → State) (s : State) : (event f s).base = (f s).base := rfl
@[simp] theorem event_sched (f : State → State) (s : State) : (event f s).sched = (f s).sched := rfl
@[simp] theorem event_seq (f : State → State) (s : State) : (event f s).seq = (f s).seq := rfl
@[simp] theorem event_sampler (f : State → State) (s : State) : (event f s).sampler = (f s).sampler := rfl
@[simp] theorem event_sup (f : State → State) (s : State) : (event f s).sup = (f s).sup := rfl
@[simp] theorem event_bridge (f : State → State) (s : State) : (event f s).bridge = (f s).bridge := rfl
@[simp] theorem event_attn (f : State → State) (s : State) : (event f s).attn = (f s).attn := rfl
@[simp] theorem event_port (f : State → State) (s : State) : (event f s).port = (f s).port := rfl
@[simp] theorem event_groups (f : State → State) (s : State) : (event f s).groups = Vector.zipWith Group.moved s.groups (f s).groups := rfl
@[simp] theorem event_conflicts (f : State → State) (s : State) : (event f s).conflicts = (f s).conflicts := rfl
@[simp] theorem event_channels (f : State → State) (s : State) : (event f s).channels = (f s).channels := rfl
@[simp] theorem event_profiles (f : State → State) (s : State) : (event f s).profiles = (f s).profiles := rfl
@[simp] theorem event_cables (f : State → State) (s : State) : (event f s).cables = Vector.zipWith Cable.moved s.cables (f s).cables := rfl
@[simp] theorem event_plans (f : State → State) (s : State) : (event f s).plans = (f s).plans := rfl
@[simp] theorem event_stages (f : State → State) (s : State) : (event f s).stages = (f s).stages := rfl
@[simp] theorem event_schedule (f : State → State) (s : State) : (event f s).schedule = (f s).schedule := rfl
@[simp] theorem event_detectors (f : State → State) (s : State) : (event f s).detectors = (f s).detectors := rfl
@[simp] theorem event_junctionRev (f : State → State) (s : State) : (event f s).junctionRev = junctionMoved s (f s) := rfl
@[simp] theorem event_counted (f : State → State) (s : State) : (event f s).counted = (f s).counted := rfl

end Sys2Proof.Machine
end

