-- ==== Sys2Proof/Laws/Frames.lean ====
section
/-! SUPPORT. The frame of each shared operation: the fields of State it never changes. -/

namespace Sys2Proof.Machine

set_option Elab.async false

/-- A fold whose step keeps a value keeps it. -/
theorem foldl_keeps {σ β γ : Type} (g : σ → γ) (f : σ → β → σ) (h : ∀ a b, g (f a b) = g a) (l : List β) (a : σ) :
    g (l.foldl f a) = g a := by
  induction l generalizing a with
  | nil => rfl
  | cons b l ih => rw [List.foldl_cons, ih, h]

@[simp] theorem State.postIf_pending (s : State) (b : Bool) (c : AClass) (t : Table) (i : Nat) :
    (s.postIf b c t i).pending = s.pending := by simp only [State.postIf] <;> (repeat' split) <;> simp
@[simp] theorem State.postIf_link (s : State) (b : Bool) (c : AClass) (t : Table) (i : Nat) :
    (s.postIf b c t i).link = s.link := by simp only [State.postIf] <;> (repeat' split) <;> simp
@[simp] theorem State.postIf_base (s : State) (b : Bool) (c : AClass) (t : Table) (i : Nat) :
    (s.postIf b c t i).base = s.base := by simp only [State.postIf] <;> (repeat' split) <;> simp
@[simp] theorem State.postIf_sched (s : State) (b : Bool) (c : AClass) (t : Table) (i : Nat) :
    (s.postIf b c t i).sched = s.sched := by simp only [State.postIf] <;> (repeat' split) <;> simp
@[simp] theorem State.postIf_seq (s : State) (b : Bool) (c : AClass) (t : Table) (i : Nat) :
    (s.postIf b c t i).seq = s.seq := by simp only [State.postIf] <;> (repeat' split) <;> simp
@[simp] theorem State.postIf_sampler (s : State) (b : Bool) (c : AClass) (t : Table) (i : Nat) :
    (s.postIf b c t i).sampler = s.sampler := by simp only [State.postIf] <;> (repeat' split) <;> simp
@[simp] theorem State.postIf_sup (s : State) (b : Bool) (c : AClass) (t : Table) (i : Nat) :
    (s.postIf b c t i).sup = s.sup := by simp only [State.postIf] <;> (repeat' split) <;> simp
@[simp] theorem State.postIf_bridge (s : State) (b : Bool) (c : AClass) (t : Table) (i : Nat) :
    (s.postIf b c t i).bridge = s.bridge := by simp only [State.postIf] <;> (repeat' split) <;> simp
@[simp] theorem State.postIf_port (s : State) (b : Bool) (c : AClass) (t : Table) (i : Nat) :
    (s.postIf b c t i).port = s.port := by simp only [State.postIf] <;> (repeat' split) <;> simp
@[simp] theorem State.postIf_groups (s : State) (b : Bool) (c : AClass) (t : Table) (i : Nat) :
    (s.postIf b c t i).groups = s.groups := by simp only [State.postIf] <;> (repeat' split) <;> simp
@[simp] theorem State.postIf_conflicts (s : State) (b : Bool) (c : AClass) (t : Table) (i : Nat) :
    (s.postIf b c t i).conflicts = s.conflicts := by simp only [State.postIf] <;> (repeat' split) <;> simp
@[simp] theorem State.postIf_channels (s : State) (b : Bool) (c : AClass) (t : Table) (i : Nat) :
    (s.postIf b c t i).channels = s.channels := by simp only [State.postIf] <;> (repeat' split) <;> simp
@[simp] theorem State.postIf_profiles (s : State) (b : Bool) (c : AClass) (t : Table) (i : Nat) :
    (s.postIf b c t i).profiles = s.profiles := by simp only [State.postIf] <;> (repeat' split) <;> simp
@[simp] theorem State.postIf_cables (s : State) (b : Bool) (c : AClass) (t : Table) (i : Nat) :
    (s.postIf b c t i).cables = s.cables := by simp only [State.postIf] <;> (repeat' split) <;> simp
@[simp] theorem State.postIf_plans (s : State) (b : Bool) (c : AClass) (t : Table) (i : Nat) :
    (s.postIf b c t i).plans = s.plans := by simp only [State.postIf] <;> (repeat' split) <;> simp
@[simp] theorem State.postIf_stages (s : State) (b : Bool) (c : AClass) (t : Table) (i : Nat) :
    (s.postIf b c t i).stages = s.stages := by simp only [State.postIf] <;> (repeat' split) <;> simp
@[simp] theorem State.postIf_schedule (s : State) (b : Bool) (c : AClass) (t : Table) (i : Nat) :
    (s.postIf b c t i).schedule = s.schedule := by simp only [State.postIf] <;> (repeat' split) <;> simp
@[simp] theorem State.postIf_detectors (s : State) (b : Bool) (c : AClass) (t : Table) (i : Nat) :
    (s.postIf b c t i).detectors = s.detectors := by simp only [State.postIf] <;> (repeat' split) <;> simp
@[simp] theorem State.postIf_junctionRev (s : State) (b : Bool) (c : AClass) (t : Table) (i : Nat) :
    (s.postIf b c t i).junctionRev = s.junctionRev := by simp only [State.postIf] <;> (repeat' split) <;> simp
@[simp] theorem State.postIf_counted (s : State) (b : Bool) (c : AClass) (t : Table) (i : Nat) :
    (s.postIf b c t i).counted = s.counted := by simp only [State.postIf] <;> (repeat' split) <;> simp

@[simp] theorem State.request_pending (s : State) (r : TestRequest) :
    (s.request r).pending = s.pending := by simp only [State.request] <;> (repeat' split) <;> simp
@[simp] theorem State.request_link (s : State) (r : TestRequest) :
    (s.request r).link = s.link := by simp only [State.request] <;> (repeat' split) <;> simp
@[simp] theorem State.request_base (s : State) (r : TestRequest) :
    (s.request r).base = s.base := by simp only [State.request] <;> (repeat' split) <;> simp
@[simp] theorem State.request_sched (s : State) (r : TestRequest) :
    (s.request r).sched = s.sched := by simp only [State.request] <;> (repeat' split) <;> simp
@[simp] theorem State.request_seq (s : State) (r : TestRequest) :
    (s.request r).seq = s.seq := by simp only [State.request] <;> (repeat' split) <;> simp
@[simp] theorem State.request_sampler (s : State) (r : TestRequest) :
    (s.request r).sampler = s.sampler := by simp only [State.request] <;> (repeat' split) <;> simp
@[simp] theorem State.request_sup (s : State) (r : TestRequest) :
    (s.request r).sup = s.sup := by simp only [State.request] <;> (repeat' split) <;> simp
@[simp] theorem State.request_attn (s : State) (r : TestRequest) :
    (s.request r).attn = s.attn := by simp only [State.request] <;> (repeat' split) <;> simp
@[simp] theorem State.request_port (s : State) (r : TestRequest) :
    (s.request r).port = s.port := by simp only [State.request] <;> (repeat' split) <;> simp
@[simp] theorem State.request_groups (s : State) (r : TestRequest) :
    (s.request r).groups = s.groups := by simp only [State.request] <;> (repeat' split) <;> simp
@[simp] theorem State.request_conflicts (s : State) (r : TestRequest) :
    (s.request r).conflicts = s.conflicts := by simp only [State.request] <;> (repeat' split) <;> simp
@[simp] theorem State.request_channels (s : State) (r : TestRequest) :
    (s.request r).channels = s.channels := by simp only [State.request] <;> (repeat' split) <;> simp
@[simp] theorem State.request_profiles (s : State) (r : TestRequest) :
    (s.request r).profiles = s.profiles := by simp only [State.request] <;> (repeat' split) <;> simp
@[simp] theorem State.request_plans (s : State) (r : TestRequest) :
    (s.request r).plans = s.plans := by simp only [State.request] <;> (repeat' split) <;> simp
@[simp] theorem State.request_stages (s : State) (r : TestRequest) :
    (s.request r).stages = s.stages := by simp only [State.request] <;> (repeat' split) <;> simp
@[simp] theorem State.request_schedule (s : State) (r : TestRequest) :
    (s.request r).schedule = s.schedule := by simp only [State.request] <;> (repeat' split) <;> simp
@[simp] theorem State.request_detectors (s : State) (r : TestRequest) :
    (s.request r).detectors = s.detectors := by simp only [State.request] <;> (repeat' split) <;> simp
@[simp] theorem State.request_junctionRev (s : State) (r : TestRequest) :
    (s.request r).junctionRev = s.junctionRev := by simp only [State.request] <;> (repeat' split) <;> simp
@[simp] theorem State.request_counted (s : State) (r : TestRequest) :
    (s.request r).counted = s.counted := by simp only [State.request] <;> (repeat' split) <;> simp

@[simp] theorem State.removeEntry_pending (s : State) (k : Fin 16) (t : TestStatus) :
    (s.removeEntry k t).pending = s.pending := by simp only [State.removeEntry] <;> (repeat' split) <;> simp
@[simp] theorem State.removeEntry_link (s : State) (k : Fin 16) (t : TestStatus) :
    (s.removeEntry k t).link = s.link := by simp only [State.removeEntry] <;> (repeat' split) <;> simp
@[simp] theorem State.removeEntry_base (s : State) (k : Fin 16) (t : TestStatus) :
    (s.removeEntry k t).base = s.base := by simp only [State.removeEntry] <;> (repeat' split) <;> simp
@[simp] theorem State.removeEntry_sched (s : State) (k : Fin 16) (t : TestStatus) :
    (s.removeEntry k t).sched = s.sched := by simp only [State.removeEntry] <;> (repeat' split) <;> simp
@[simp] theorem State.removeEntry_seq (s : State) (k : Fin 16) (t : TestStatus) :
    (s.removeEntry k t).seq = s.seq := by simp only [State.removeEntry] <;> (repeat' split) <;> simp
@[simp] theorem State.removeEntry_sampler (s : State) (k : Fin 16) (t : TestStatus) :
    (s.removeEntry k t).sampler = s.sampler := by simp only [State.removeEntry] <;> (repeat' split) <;> simp
@[simp] theorem State.removeEntry_sup (s : State) (k : Fin 16) (t : TestStatus) :
    (s.removeEntry k t).sup = s.sup := by simp only [State.removeEntry] <;> (repeat' split) <;> simp
@[simp] theorem State.removeEntry_port (s : State) (k : Fin 16) (t : TestStatus) :
    (s.removeEntry k t).port = s.port := by simp only [State.removeEntry] <;> (repeat' split) <;> simp
@[simp] theorem State.removeEntry_groups (s : State) (k : Fin 16) (t : TestStatus) :
    (s.removeEntry k t).groups = s.groups := by simp only [State.removeEntry] <;> (repeat' split) <;> simp
@[simp] theorem State.removeEntry_conflicts (s : State) (k : Fin 16) (t : TestStatus) :
    (s.removeEntry k t).conflicts = s.conflicts := by simp only [State.removeEntry] <;> (repeat' split) <;> simp
@[simp] theorem State.removeEntry_channels (s : State) (k : Fin 16) (t : TestStatus) :
    (s.removeEntry k t).channels = s.channels := by simp only [State.removeEntry] <;> (repeat' split) <;> simp
@[simp] theorem State.removeEntry_profiles (s : State) (k : Fin 16) (t : TestStatus) :
    (s.removeEntry k t).profiles = s.profiles := by simp only [State.removeEntry] <;> (repeat' split) <;> simp
@[simp] theorem State.removeEntry_plans (s : State) (k : Fin 16) (t : TestStatus) :
    (s.removeEntry k t).plans = s.plans := by simp only [State.removeEntry] <;> (repeat' split) <;> simp
@[simp] theorem State.removeEntry_stages (s : State) (k : Fin 16) (t : TestStatus) :
    (s.removeEntry k t).stages = s.stages := by simp only [State.removeEntry] <;> (repeat' split) <;> simp
@[simp] theorem State.removeEntry_schedule (s : State) (k : Fin 16) (t : TestStatus) :
    (s.removeEntry k t).schedule = s.schedule := by simp only [State.removeEntry] <;> (repeat' split) <;> simp
@[simp] theorem State.removeEntry_detectors (s : State) (k : Fin 16) (t : TestStatus) :
    (s.removeEntry k t).detectors = s.detectors := by simp only [State.removeEntry] <;> (repeat' split) <;> simp
@[simp] theorem State.removeEntry_junctionRev (s : State) (k : Fin 16) (t : TestStatus) :
    (s.removeEntry k t).junctionRev = s.junctionRev := by simp only [State.removeEntry] <;> (repeat' split) <;> simp
@[simp] theorem State.removeEntry_counted (s : State) (k : Fin 16) (t : TestStatus) :
    (s.removeEntry k t).counted = s.counted := by simp only [State.removeEntry] <;> (repeat' split) <;> simp

@[simp] theorem State.abandonTest_pending (s : State) :
    (s.abandonTest).pending = s.pending := by simp only [State.abandonTest] <;> (repeat' split) <;> simp
@[simp] theorem State.abandonTest_link (s : State) :
    (s.abandonTest).link = s.link := by simp only [State.abandonTest] <;> (repeat' split) <;> simp
@[simp] theorem State.abandonTest_base (s : State) :
    (s.abandonTest).base = s.base := by simp only [State.abandonTest] <;> (repeat' split) <;> simp
@[simp] theorem State.abandonTest_sched (s : State) :
    (s.abandonTest).sched = s.sched := by simp only [State.abandonTest] <;> (repeat' split) <;> simp
@[simp] theorem State.abandonTest_seq (s : State) :
    (s.abandonTest).seq = s.seq := by simp only [State.abandonTest] <;> (repeat' split) <;> simp
@[simp] theorem State.abandonTest_sampler (s : State) :
    (s.abandonTest).sampler = s.sampler := by simp only [State.abandonTest] <;> (repeat' split) <;> simp
@[simp] theorem State.abandonTest_sup (s : State) :
    (s.abandonTest).sup = s.sup := by simp only [State.abandonTest] <;> (repeat' split) <;> simp
@[simp] theorem State.abandonTest_port (s : State) :
    (s.abandonTest).port = s.port := by simp only [State.abandonTest] <;> (repeat' split) <;> simp
@[simp] theorem State.abandonTest_groups (s : State) :
    (s.abandonTest).groups = s.groups := by simp only [State.abandonTest] <;> (repeat' split) <;> simp
@[simp] theorem State.abandonTest_conflicts (s : State) :
    (s.abandonTest).conflicts = s.conflicts := by simp only [State.abandonTest] <;> (repeat' split) <;> simp
@[simp] theorem State.abandonTest_channels (s : State) :
    (s.abandonTest).channels = s.channels := by simp only [State.abandonTest] <;> (repeat' split) <;> simp
@[simp] theorem State.abandonTest_profiles (s : State) :
    (s.abandonTest).profiles = s.profiles := by simp only [State.abandonTest] <;> (repeat' split) <;> simp
@[simp] theorem State.abandonTest_plans (s : State) :
    (s.abandonTest).plans = s.plans := by simp only [State.abandonTest] <;> (repeat' split) <;> simp
@[simp] theorem State.abandonTest_stages (s : State) :
    (s.abandonTest).stages = s.stages := by simp only [State.abandonTest] <;> (repeat' split) <;> simp
@[simp] theorem State.abandonTest_schedule (s : State) :
    (s.abandonTest).schedule = s.schedule := by simp only [State.abandonTest] <;> (repeat' split) <;> simp
@[simp] theorem State.abandonTest_detectors (s : State) :
    (s.abandonTest).detectors = s.detectors := by simp only [State.abandonTest] <;> (repeat' split) <;> simp
@[simp] theorem State.abandonTest_junctionRev (s : State) :
    (s.abandonTest).junctionRev = s.junctionRev := by simp only [State.abandonTest] <;> (repeat' split) <;> simp
@[simp] theorem State.abandonTest_counted (s : State) :
    (s.abandonTest).counted = s.counted := by simp only [State.abandonTest] <;> (repeat' split) <;> simp

@[simp] theorem State.isolate_pending (s : State) (k : Fin 16) :
    (s.isolate k).pending = s.pending := by simp only [State.isolate] <;> (repeat' split) <;> simp
@[simp] theorem State.isolate_link (s : State) (k : Fin 16) :
    (s.isolate k).link = s.link := by simp only [State.isolate] <;> (repeat' split) <;> simp
@[simp] theorem State.isolate_base (s : State) (k : Fin 16) :
    (s.isolate k).base = s.base := by simp only [State.isolate] <;> (repeat' split) <;> simp
@[simp] theorem State.isolate_sched (s : State) (k : Fin 16) :
    (s.isolate k).sched = s.sched := by simp only [State.isolate] <;> (repeat' split) <;> simp
@[simp] theorem State.isolate_seq (s : State) (k : Fin 16) :
    (s.isolate k).seq = s.seq := by simp only [State.isolate] <;> (repeat' split) <;> simp
@[simp] theorem State.isolate_sampler (s : State) (k : Fin 16) :
    (s.isolate k).sampler = s.sampler := by simp only [State.isolate] <;> (repeat' split) <;> simp
@[simp] theorem State.isolate_sup (s : State) (k : Fin 16) :
    (s.isolate k).sup = s.sup := by simp only [State.isolate] <;> (repeat' split) <;> simp
@[simp] theorem State.isolate_bridge (s : State) (k : Fin 16) :
    (s.isolate k).bridge = s.bridge := by simp only [State.isolate] <;> (repeat' split) <;> simp
@[simp] theorem State.isolate_attn (s : State) (k : Fin 16) :
    (s.isolate k).attn = s.attn := by simp only [State.isolate] <;> (repeat' split) <;> simp
@[simp] theorem State.isolate_port (s : State) (k : Fin 16) :
    (s.isolate k).port = s.port := by simp only [State.isolate] <;> (repeat' split) <;> simp
@[simp] theorem State.isolate_conflicts (s : State) (k : Fin 16) :
    (s.isolate k).conflicts = s.conflicts := by simp only [State.isolate] <;> (repeat' split) <;> simp
@[simp] theorem State.isolate_channels (s : State) (k : Fin 16) :
    (s.isolate k).channels = s.channels := by simp only [State.isolate] <;> (repeat' split) <;> simp
@[simp] theorem State.isolate_profiles (s : State) (k : Fin 16) :
    (s.isolate k).profiles = s.profiles := by simp only [State.isolate] <;> (repeat' split) <;> simp
@[simp] theorem State.isolate_plans (s : State) (k : Fin 16) :
    (s.isolate k).plans = s.plans := by simp only [State.isolate] <;> (repeat' split) <;> simp
@[simp] theorem State.isolate_stages (s : State) (k : Fin 16) :
    (s.isolate k).stages = s.stages := by simp only [State.isolate] <;> (repeat' split) <;> simp
@[simp] theorem State.isolate_schedule (s : State) (k : Fin 16) :
    (s.isolate k).schedule = s.schedule := by simp only [State.isolate] <;> (repeat' split) <;> simp
@[simp] theorem State.isolate_detectors (s : State) (k : Fin 16) :
    (s.isolate k).detectors = s.detectors := by simp only [State.isolate] <;> (repeat' split) <;> simp
@[simp] theorem State.isolate_junctionRev (s : State) (k : Fin 16) :
    (s.isolate k).junctionRev = s.junctionRev := by simp only [State.isolate] <;> (repeat' split) <;> simp
@[simp] theorem State.isolate_counted (s : State) (k : Fin 16) :
    (s.isolate k).counted = s.counted := by simp only [State.isolate] <;> (repeat' split) <;> simp

@[simp] theorem State.confirmFault_pending (s : State) (k : Fin 16) (f : CableFault) :
    (s.confirmFault k f).pending = s.pending := by simp only [State.confirmFault] <;> (repeat' split) <;> simp
@[simp] theorem State.confirmFault_link (s : State) (k : Fin 16) (f : CableFault) :
    (s.confirmFault k f).link = s.link := by simp only [State.confirmFault] <;> (repeat' split) <;> simp
@[simp] theorem State.confirmFault_base (s : State) (k : Fin 16) (f : CableFault) :
    (s.confirmFault k f).base = s.base := by simp only [State.confirmFault] <;> (repeat' split) <;> simp
@[simp] theorem State.confirmFault_sched (s : State) (k : Fin 16) (f : CableFault) :
    (s.confirmFault k f).sched = s.sched := by simp only [State.confirmFault] <;> (repeat' split) <;> simp
@[simp] theorem State.confirmFault_seq (s : State) (k : Fin 16) (f : CableFault) :
    (s.confirmFault k f).seq = s.seq := by simp only [State.confirmFault] <;> (repeat' split) <;> simp
@[simp] theorem State.confirmFault_sampler (s : State) (k : Fin 16) (f : CableFault) :
    (s.confirmFault k f).sampler = s.sampler := by simp only [State.confirmFault] <;> (repeat' split) <;> simp
@[simp] theorem State.confirmFault_sup (s : State) (k : Fin 16) (f : CableFault) :
    (s.confirmFault k f).sup = s.sup := by simp only [State.confirmFault] <;> (repeat' split) <;> simp
@[simp] theorem State.confirmFault_bridge (s : State) (k : Fin 16) (f : CableFault) :
    (s.confirmFault k f).bridge = s.bridge := by simp only [State.confirmFault] <;> (repeat' split) <;> simp
@[simp] theorem State.confirmFault_port (s : State) (k : Fin 16) (f : CableFault) :
    (s.confirmFault k f).port = s.port := by simp only [State.confirmFault] <;> (repeat' split) <;> simp
@[simp] theorem State.confirmFault_conflicts (s : State) (k : Fin 16) (f : CableFault) :
    (s.confirmFault k f).conflicts = s.conflicts := by simp only [State.confirmFault] <;> (repeat' split) <;> simp
@[simp] theorem State.confirmFault_channels (s : State) (k : Fin 16) (f : CableFault) :
    (s.confirmFault k f).channels = s.channels := by simp only [State.confirmFault] <;> (repeat' split) <;> simp
@[simp] theorem State.confirmFault_profiles (s : State) (k : Fin 16) (f : CableFault) :
    (s.confirmFault k f).profiles = s.profiles := by simp only [State.confirmFault] <;> (repeat' split) <;> simp
@[simp] theorem State.confirmFault_plans (s : State) (k : Fin 16) (f : CableFault) :
    (s.confirmFault k f).plans = s.plans := by simp only [State.confirmFault] <;> (repeat' split) <;> simp
@[simp] theorem State.confirmFault_stages (s : State) (k : Fin 16) (f : CableFault) :
    (s.confirmFault k f).stages = s.stages := by simp only [State.confirmFault] <;> (repeat' split) <;> simp
@[simp] theorem State.confirmFault_schedule (s : State) (k : Fin 16) (f : CableFault) :
    (s.confirmFault k f).schedule = s.schedule := by simp only [State.confirmFault] <;> (repeat' split) <;> simp
@[simp] theorem State.confirmFault_detectors (s : State) (k : Fin 16) (f : CableFault) :
    (s.confirmFault k f).detectors = s.detectors := by simp only [State.confirmFault] <;> (repeat' split) <;> simp
@[simp] theorem State.confirmFault_junctionRev (s : State) (k : Fin 16) (f : CableFault) :
    (s.confirmFault k f).junctionRev = s.junctionRev := by simp only [State.confirmFault] <;> (repeat' split) <;> simp
@[simp] theorem State.confirmFault_counted (s : State) (k : Fin 16) (f : CableFault) :
    (s.confirmFault k f).counted = s.counted := by simp only [State.confirmFault] <;> (repeat' split) <;> simp

@[simp] theorem State.beginTest_pending (s : State) (k : Fin 16) :
    (s.beginTest k).pending = s.pending := by simp only [State.beginTest] <;> (repeat' split) <;> simp
@[simp] theorem State.beginTest_link (s : State) (k : Fin 16) :
    (s.beginTest k).link = s.link := by simp only [State.beginTest] <;> (repeat' split) <;> simp
@[simp] theorem State.beginTest_base (s : State) (k : Fin 16) :
    (s.beginTest k).base = s.base := by simp only [State.beginTest] <;> (repeat' split) <;> simp
@[simp] theorem State.beginTest_sched (s : State) (k : Fin 16) :
    (s.beginTest k).sched = s.sched := by simp only [State.beginTest] <;> (repeat' split) <;> simp
@[simp] theorem State.beginTest_seq (s : State) (k : Fin 16) :
    (s.beginTest k).seq = s.seq := by simp only [State.beginTest] <;> (repeat' split) <;> simp
@[simp] theorem State.beginTest_sampler (s : State) (k : Fin 16) :
    (s.beginTest k).sampler = s.sampler := by simp only [State.beginTest] <;> (repeat' split) <;> simp
@[simp] theorem State.beginTest_sup (s : State) (k : Fin 16) :
    (s.beginTest k).sup = s.sup := by simp only [State.beginTest] <;> (repeat' split) <;> simp
@[simp] theorem State.beginTest_attn (s : State) (k : Fin 16) :
    (s.beginTest k).attn = s.attn := by simp only [State.beginTest] <;> (repeat' split) <;> simp
@[simp] theorem State.beginTest_port (s : State) (k : Fin 16) :
    (s.beginTest k).port = s.port := by simp only [State.beginTest] <;> (repeat' split) <;> simp
@[simp] theorem State.beginTest_groups (s : State) (k : Fin 16) :
    (s.beginTest k).groups = s.groups := by simp only [State.beginTest] <;> (repeat' split) <;> simp
@[simp] theorem State.beginTest_conflicts (s : State) (k : Fin 16) :
    (s.beginTest k).conflicts = s.conflicts := by simp only [State.beginTest] <;> (repeat' split) <;> simp
@[simp] theorem State.beginTest_channels (s : State) (k : Fin 16) :
    (s.beginTest k).channels = s.channels := by simp only [State.beginTest] <;> (repeat' split) <;> simp
@[simp] theorem State.beginTest_profiles (s : State) (k : Fin 16) :
    (s.beginTest k).profiles = s.profiles := by simp only [State.beginTest] <;> (repeat' split) <;> simp
@[simp] theorem State.beginTest_plans (s : State) (k : Fin 16) :
    (s.beginTest k).plans = s.plans := by simp only [State.beginTest] <;> (repeat' split) <;> simp
@[simp] theorem State.beginTest_stages (s : State) (k : Fin 16) :
    (s.beginTest k).stages = s.stages := by simp only [State.beginTest] <;> (repeat' split) <;> simp
@[simp] theorem State.beginTest_schedule (s : State) (k : Fin 16) :
    (s.beginTest k).schedule = s.schedule := by simp only [State.beginTest] <;> (repeat' split) <;> simp
@[simp] theorem State.beginTest_detectors (s : State) (k : Fin 16) :
    (s.beginTest k).detectors = s.detectors := by simp only [State.beginTest] <;> (repeat' split) <;> simp
@[simp] theorem State.beginTest_junctionRev (s : State) (k : Fin 16) :
    (s.beginTest k).junctionRev = s.junctionRev := by simp only [State.beginTest] <;> (repeat' split) <;> simp
@[simp] theorem State.beginTest_counted (s : State) (k : Fin 16) :
    (s.beginTest k).counted = s.counted := by simp only [State.beginTest] <;> (repeat' split) <;> simp

@[simp] theorem State.bridgeFault_pending (s : State) :
    (s.bridgeFault).pending = s.pending := by simp only [State.bridgeFault] <;> (repeat' split) <;> simp
@[simp] theorem State.bridgeFault_link (s : State) :
    (s.bridgeFault).link = s.link := by simp only [State.bridgeFault] <;> (repeat' split) <;> simp
@[simp] theorem State.bridgeFault_base (s : State) :
    (s.bridgeFault).base = s.base := by simp only [State.bridgeFault] <;> (repeat' split) <;> simp
@[simp] theorem State.bridgeFault_sched (s : State) :
    (s.bridgeFault).sched = s.sched := by simp only [State.bridgeFault] <;> (repeat' split) <;> simp
@[simp] theorem State.bridgeFault_seq (s : State) :
    (s.bridgeFault).seq = s.seq := by simp only [State.bridgeFault] <;> (repeat' split) <;> simp
@[simp] theorem State.bridgeFault_sampler (s : State) :
    (s.bridgeFault).sampler = s.sampler := by simp only [State.bridgeFault] <;> (repeat' split) <;> simp
@[simp] theorem State.bridgeFault_sup (s : State) :
    (s.bridgeFault).sup = s.sup := by simp only [State.bridgeFault] <;> (repeat' split) <;> simp
@[simp] theorem State.bridgeFault_port (s : State) :
    (s.bridgeFault).port = s.port := by simp only [State.bridgeFault] <;> (repeat' split) <;> simp
@[simp] theorem State.bridgeFault_groups (s : State) :
    (s.bridgeFault).groups = s.groups := by simp only [State.bridgeFault] <;> (repeat' split) <;> simp
@[simp] theorem State.bridgeFault_conflicts (s : State) :
    (s.bridgeFault).conflicts = s.conflicts := by simp only [State.bridgeFault] <;> (repeat' split) <;> simp
@[simp] theorem State.bridgeFault_channels (s : State) :
    (s.bridgeFault).channels = s.channels := by simp only [State.bridgeFault] <;> (repeat' split) <;> simp
@[simp] theorem State.bridgeFault_profiles (s : State) :
    (s.bridgeFault).profiles = s.profiles := by simp only [State.bridgeFault] <;> (repeat' split) <;> simp
@[simp] theorem State.bridgeFault_cables (s : State) :
    (s.bridgeFault).cables = s.cables := by simp only [State.bridgeFault] <;> (repeat' split) <;> simp
@[simp] theorem State.bridgeFault_plans (s : State) :
    (s.bridgeFault).plans = s.plans := by simp only [State.bridgeFault] <;> (repeat' split) <;> simp
@[simp] theorem State.bridgeFault_stages (s : State) :
    (s.bridgeFault).stages = s.stages := by simp only [State.bridgeFault] <;> (repeat' split) <;> simp
@[simp] theorem State.bridgeFault_schedule (s : State) :
    (s.bridgeFault).schedule = s.schedule := by simp only [State.bridgeFault] <;> (repeat' split) <;> simp
@[simp] theorem State.bridgeFault_detectors (s : State) :
    (s.bridgeFault).detectors = s.detectors := by simp only [State.bridgeFault] <;> (repeat' split) <;> simp
@[simp] theorem State.bridgeFault_junctionRev (s : State) :
    (s.bridgeFault).junctionRev = s.junctionRev := by simp only [State.bridgeFault] <;> (repeat' split) <;> simp
@[simp] theorem State.bridgeFault_counted (s : State) :
    (s.bridgeFault).counted = s.counted := by simp only [State.bridgeFault] <;> (repeat' split) <;> simp

@[simp] theorem State.arbitrate_pending (s : State) (b : Microamps) :
    (s.arbitrate b).pending = s.pending := by simp only [State.arbitrate] <;> (repeat' split) <;> simp
@[simp] theorem State.arbitrate_link (s : State) (b : Microamps) :
    (s.arbitrate b).link = s.link := by simp only [State.arbitrate] <;> (repeat' split) <;> simp
@[simp] theorem State.arbitrate_base (s : State) (b : Microamps) :
    (s.arbitrate b).base = s.base := by simp only [State.arbitrate] <;> (repeat' split) <;> simp
@[simp] theorem State.arbitrate_sched (s : State) (b : Microamps) :
    (s.arbitrate b).sched = s.sched := by simp only [State.arbitrate] <;> (repeat' split) <;> simp
@[simp] theorem State.arbitrate_seq (s : State) (b : Microamps) :
    (s.arbitrate b).seq = s.seq := by simp only [State.arbitrate] <;> (repeat' split) <;> simp
@[simp] theorem State.arbitrate_sampler (s : State) (b : Microamps) :
    (s.arbitrate b).sampler = s.sampler := by simp only [State.arbitrate] <;> (repeat' split) <;> simp
@[simp] theorem State.arbitrate_sup (s : State) (b : Microamps) :
    (s.arbitrate b).sup = s.sup := by simp only [State.arbitrate] <;> (repeat' split) <;> simp
@[simp] theorem State.arbitrate_port (s : State) (b : Microamps) :
    (s.arbitrate b).port = s.port := by simp only [State.arbitrate] <;> (repeat' split) <;> simp
@[simp] theorem State.arbitrate_groups (s : State) (b : Microamps) :
    (s.arbitrate b).groups = s.groups := by simp only [State.arbitrate] <;> (repeat' split) <;> simp
@[simp] theorem State.arbitrate_conflicts (s : State) (b : Microamps) :
    (s.arbitrate b).conflicts = s.conflicts := by simp only [State.arbitrate] <;> (repeat' split) <;> simp
@[simp] theorem State.arbitrate_channels (s : State) (b : Microamps) :
    (s.arbitrate b).channels = s.channels := by simp only [State.arbitrate] <;> (repeat' split) <;> simp
@[simp] theorem State.arbitrate_profiles (s : State) (b : Microamps) :
    (s.arbitrate b).profiles = s.profiles := by simp only [State.arbitrate] <;> (repeat' split) <;> simp
@[simp] theorem State.arbitrate_plans (s : State) (b : Microamps) :
    (s.arbitrate b).plans = s.plans := by simp only [State.arbitrate] <;> (repeat' split) <;> simp
@[simp] theorem State.arbitrate_stages (s : State) (b : Microamps) :
    (s.arbitrate b).stages = s.stages := by simp only [State.arbitrate] <;> (repeat' split) <;> simp
@[simp] theorem State.arbitrate_schedule (s : State) (b : Microamps) :
    (s.arbitrate b).schedule = s.schedule := by simp only [State.arbitrate] <;> (repeat' split) <;> simp
@[simp] theorem State.arbitrate_detectors (s : State) (b : Microamps) :
    (s.arbitrate b).detectors = s.detectors := by simp only [State.arbitrate] <;> (repeat' split) <;> simp
@[simp] theorem State.arbitrate_junctionRev (s : State) (b : Microamps) :
    (s.arbitrate b).junctionRev = s.junctionRev := by simp only [State.arbitrate] <;> (repeat' split) <;> simp
@[simp] theorem State.arbitrate_counted (s : State) (b : Microamps) :
    (s.arbitrate b).counted = s.counted := by simp only [State.arbitrate] <;> (repeat' split) <;> simp

@[simp] theorem State.chargeEnd_pending (s : State) :
    (s.chargeEnd).pending = s.pending := by simp only [State.chargeEnd] <;> (repeat' split) <;> simp
@[simp] theorem State.chargeEnd_link (s : State) :
    (s.chargeEnd).link = s.link := by simp only [State.chargeEnd] <;> (repeat' split) <;> simp
@[simp] theorem State.chargeEnd_base (s : State) :
    (s.chargeEnd).base = s.base := by simp only [State.chargeEnd] <;> (repeat' split) <;> simp
@[simp] theorem State.chargeEnd_sched (s : State) :
    (s.chargeEnd).sched = s.sched := by simp only [State.chargeEnd] <;> (repeat' split) <;> simp
@[simp] theorem State.chargeEnd_seq (s : State) :
    (s.chargeEnd).seq = s.seq := by simp only [State.chargeEnd] <;> (repeat' split) <;> simp
@[simp] theorem State.chargeEnd_sampler (s : State) :
    (s.chargeEnd).sampler = s.sampler := by simp only [State.chargeEnd] <;> (repeat' split) <;> simp
@[simp] theorem State.chargeEnd_sup (s : State) :
    (s.chargeEnd).sup = s.sup := by simp only [State.chargeEnd] <;> (repeat' split) <;> simp
@[simp] theorem State.chargeEnd_attn (s : State) :
    (s.chargeEnd).attn = s.attn := by simp only [State.chargeEnd] <;> (repeat' split) <;> simp
@[simp] theorem State.chargeEnd_port (s : State) :
    (s.chargeEnd).port = s.port := by simp only [State.chargeEnd] <;> (repeat' split) <;> simp
@[simp] theorem State.chargeEnd_groups (s : State) :
    (s.chargeEnd).groups = s.groups := by simp only [State.chargeEnd] <;> (repeat' split) <;> simp
@[simp] theorem State.chargeEnd_conflicts (s : State) :
    (s.chargeEnd).conflicts = s.conflicts := by simp only [State.chargeEnd] <;> (repeat' split) <;> simp
@[simp] theorem State.chargeEnd_channels (s : State) :
    (s.chargeEnd).channels = s.channels := by simp only [State.chargeEnd] <;> (repeat' split) <;> simp
@[simp] theorem State.chargeEnd_profiles (s : State) :
    (s.chargeEnd).profiles = s.profiles := by simp only [State.chargeEnd] <;> (repeat' split) <;> simp
@[simp] theorem State.chargeEnd_cables (s : State) :
    (s.chargeEnd).cables = s.cables := by simp only [State.chargeEnd] <;> (repeat' split) <;> simp
@[simp] theorem State.chargeEnd_plans (s : State) :
    (s.chargeEnd).plans = s.plans := by simp only [State.chargeEnd] <;> (repeat' split) <;> simp
@[simp] theorem State.chargeEnd_stages (s : State) :
    (s.chargeEnd).stages = s.stages := by simp only [State.chargeEnd] <;> (repeat' split) <;> simp
@[simp] theorem State.chargeEnd_schedule (s : State) :
    (s.chargeEnd).schedule = s.schedule := by simp only [State.chargeEnd] <;> (repeat' split) <;> simp
@[simp] theorem State.chargeEnd_detectors (s : State) :
    (s.chargeEnd).detectors = s.detectors := by simp only [State.chargeEnd] <;> (repeat' split) <;> simp
@[simp] theorem State.chargeEnd_junctionRev (s : State) :
    (s.chargeEnd).junctionRev = s.junctionRev := by simp only [State.chargeEnd] <;> (repeat' split) <;> simp
@[simp] theorem State.chargeEnd_counted (s : State) :
    (s.chargeEnd).counted = s.counted := by simp only [State.chargeEnd] <;> (repeat' split) <;> simp

@[simp] theorem State.applyResult_pending (s : State) (k : Fin 16) (r p : Bool) :
    (s.applyResult k r p).pending = s.pending := by simp only [State.applyResult] <;> (repeat' split) <;> simp
@[simp] theorem State.applyResult_link (s : State) (k : Fin 16) (r p : Bool) :
    (s.applyResult k r p).link = s.link := by simp only [State.applyResult] <;> (repeat' split) <;> simp
@[simp] theorem State.applyResult_base (s : State) (k : Fin 16) (r p : Bool) :
    (s.applyResult k r p).base = s.base := by simp only [State.applyResult] <;> (repeat' split) <;> simp
@[simp] theorem State.applyResult_sched (s : State) (k : Fin 16) (r p : Bool) :
    (s.applyResult k r p).sched = s.sched := by simp only [State.applyResult] <;> (repeat' split) <;> simp
@[simp] theorem State.applyResult_seq (s : State) (k : Fin 16) (r p : Bool) :
    (s.applyResult k r p).seq = s.seq := by simp only [State.applyResult] <;> (repeat' split) <;> simp
@[simp] theorem State.applyResult_sampler (s : State) (k : Fin 16) (r p : Bool) :
    (s.applyResult k r p).sampler = s.sampler := by simp only [State.applyResult] <;> (repeat' split) <;> simp
@[simp] theorem State.applyResult_sup (s : State) (k : Fin 16) (r p : Bool) :
    (s.applyResult k r p).sup = s.sup := by simp only [State.applyResult] <;> (repeat' split) <;> simp
@[simp] theorem State.applyResult_port (s : State) (k : Fin 16) (r p : Bool) :
    (s.applyResult k r p).port = s.port := by simp only [State.applyResult] <;> (repeat' split) <;> simp
@[simp] theorem State.applyResult_conflicts (s : State) (k : Fin 16) (r p : Bool) :
    (s.applyResult k r p).conflicts = s.conflicts := by simp only [State.applyResult] <;> (repeat' split) <;> simp
@[simp] theorem State.applyResult_channels (s : State) (k : Fin 16) (r p : Bool) :
    (s.applyResult k r p).channels = s.channels := by simp only [State.applyResult] <;> (repeat' split) <;> simp
@[simp] theorem State.applyResult_profiles (s : State) (k : Fin 16) (r p : Bool) :
    (s.applyResult k r p).profiles = s.profiles := by simp only [State.applyResult] <;> (repeat' split) <;> simp
@[simp] theorem State.applyResult_plans (s : State) (k : Fin 16) (r p : Bool) :
    (s.applyResult k r p).plans = s.plans := by simp only [State.applyResult] <;> (repeat' split) <;> simp
@[simp] theorem State.applyResult_stages (s : State) (k : Fin 16) (r p : Bool) :
    (s.applyResult k r p).stages = s.stages := by simp only [State.applyResult] <;> (repeat' split) <;> simp
@[simp] theorem State.applyResult_schedule (s : State) (k : Fin 16) (r p : Bool) :
    (s.applyResult k r p).schedule = s.schedule := by simp only [State.applyResult] <;> (repeat' split) <;> simp
@[simp] theorem State.applyResult_detectors (s : State) (k : Fin 16) (r p : Bool) :
    (s.applyResult k r p).detectors = s.detectors := by simp only [State.applyResult] <;> (repeat' split) <;> simp
@[simp] theorem State.applyResult_junctionRev (s : State) (k : Fin 16) (r p : Bool) :
    (s.applyResult k r p).junctionRev = s.junctionRev := by simp only [State.applyResult] <;> (repeat' split) <;> simp
@[simp] theorem State.applyResult_counted (s : State) (k : Fin 16) (r p : Bool) :
    (s.applyResult k r p).counted = s.counted := by simp only [State.applyResult] <;> (repeat' split) <;> simp

@[simp] theorem State.completeTest_pending (s : State) (b : Microamps) :
    (s.completeTest b).pending = s.pending := by simp only [State.completeTest] <;> (repeat' split) <;> simp
@[simp] theorem State.completeTest_link (s : State) (b : Microamps) :
    (s.completeTest b).link = s.link := by simp only [State.completeTest] <;> (repeat' split) <;> simp
@[simp] theorem State.completeTest_base (s : State) (b : Microamps) :
    (s.completeTest b).base = s.base := by simp only [State.completeTest] <;> (repeat' split) <;> simp
@[simp] theorem State.completeTest_sched (s : State) (b : Microamps) :
    (s.completeTest b).sched = s.sched := by simp only [State.completeTest] <;> (repeat' split) <;> simp
@[simp] theorem State.completeTest_seq (s : State) (b : Microamps) :
    (s.completeTest b).seq = s.seq := by simp only [State.completeTest] <;> (repeat' split) <;> simp
@[simp] theorem State.completeTest_sampler (s : State) (b : Microamps) :
    (s.completeTest b).sampler = s.sampler := by simp only [State.completeTest] <;> (repeat' split) <;> simp
@[simp] theorem State.completeTest_sup (s : State) (b : Microamps) :
    (s.completeTest b).sup = s.sup := by simp only [State.completeTest] <;> (repeat' split) <;> simp
@[simp] theorem State.completeTest_port (s : State) (b : Microamps) :
    (s.completeTest b).port = s.port := by simp only [State.completeTest] <;> (repeat' split) <;> simp
@[simp] theorem State.completeTest_conflicts (s : State) (b : Microamps) :
    (s.completeTest b).conflicts = s.conflicts := by simp only [State.completeTest] <;> (repeat' split) <;> simp
@[simp] theorem State.completeTest_channels (s : State) (b : Microamps) :
    (s.completeTest b).channels = s.channels := by simp only [State.completeTest] <;> (repeat' split) <;> simp
@[simp] theorem State.completeTest_profiles (s : State) (b : Microamps) :
    (s.completeTest b).profiles = s.profiles := by simp only [State.completeTest] <;> (repeat' split) <;> simp
@[simp] theorem State.completeTest_plans (s : State) (b : Microamps) :
    (s.completeTest b).plans = s.plans := by simp only [State.completeTest] <;> (repeat' split) <;> simp
@[simp] theorem State.completeTest_stages (s : State) (b : Microamps) :
    (s.completeTest b).stages = s.stages := by simp only [State.completeTest] <;> (repeat' split) <;> simp
@[simp] theorem State.completeTest_schedule (s : State) (b : Microamps) :
    (s.completeTest b).schedule = s.schedule := by simp only [State.completeTest] <;> (repeat' split) <;> simp
@[simp] theorem State.completeTest_detectors (s : State) (b : Microamps) :
    (s.completeTest b).detectors = s.detectors := by simp only [State.completeTest] <;> (repeat' split) <;> simp
@[simp] theorem State.completeTest_junctionRev (s : State) (b : Microamps) :
    (s.completeTest b).junctionRev = s.junctionRev := by simp only [State.completeTest] <;> (repeat' split) <;> simp
@[simp] theorem State.completeTest_counted (s : State) (b : Microamps) :
    (s.completeTest b).counted = s.counted := by simp only [State.completeTest] <;> (repeat' split) <;> simp

@[simp] theorem State.advanceTest_pending (s : State) (b : Microamps) :
    (s.advanceTest b).pending = s.pending := by simp only [State.advanceTest] <;> (repeat' split) <;> simp
@[simp] theorem State.advanceTest_link (s : State) (b : Microamps) :
    (s.advanceTest b).link = s.link := by simp only [State.advanceTest] <;> (repeat' split) <;> simp
@[simp] theorem State.advanceTest_base (s : State) (b : Microamps) :
    (s.advanceTest b).base = s.base := by simp only [State.advanceTest] <;> (repeat' split) <;> simp
@[simp] theorem State.advanceTest_sched (s : State) (b : Microamps) :
    (s.advanceTest b).sched = s.sched := by simp only [State.advanceTest] <;> (repeat' split) <;> simp
@[simp] theorem State.advanceTest_seq (s : State) (b : Microamps) :
    (s.advanceTest b).seq = s.seq := by simp only [State.advanceTest] <;> (repeat' split) <;> simp
@[simp] theorem State.advanceTest_sampler (s : State) (b : Microamps) :
    (s.advanceTest b).sampler = s.sampler := by simp only [State.advanceTest] <;> (repeat' split) <;> simp
@[simp] theorem State.advanceTest_sup (s : State) (b : Microamps) :
    (s.advanceTest b).sup = s.sup := by simp only [State.advanceTest] <;> (repeat' split) <;> simp
@[simp] theorem State.advanceTest_port (s : State) (b : Microamps) :
    (s.advanceTest b).port = s.port := by simp only [State.advanceTest] <;> (repeat' split) <;> simp
@[simp] theorem State.advanceTest_conflicts (s : State) (b : Microamps) :
    (s.advanceTest b).conflicts = s.conflicts := by simp only [State.advanceTest] <;> (repeat' split) <;> simp
@[simp] theorem State.advanceTest_channels (s : State) (b : Microamps) :
    (s.advanceTest b).channels = s.channels := by simp only [State.advanceTest] <;> (repeat' split) <;> simp
@[simp] theorem State.advanceTest_profiles (s : State) (b : Microamps) :
    (s.advanceTest b).profiles = s.profiles := by simp only [State.advanceTest] <;> (repeat' split) <;> simp
@[simp] theorem State.advanceTest_plans (s : State) (b : Microamps) :
    (s.advanceTest b).plans = s.plans := by simp only [State.advanceTest] <;> (repeat' split) <;> simp
@[simp] theorem State.advanceTest_stages (s : State) (b : Microamps) :
    (s.advanceTest b).stages = s.stages := by simp only [State.advanceTest] <;> (repeat' split) <;> simp
@[simp] theorem State.advanceTest_schedule (s : State) (b : Microamps) :
    (s.advanceTest b).schedule = s.schedule := by simp only [State.advanceTest] <;> (repeat' split) <;> simp
@[simp] theorem State.advanceTest_detectors (s : State) (b : Microamps) :
    (s.advanceTest b).detectors = s.detectors := by simp only [State.advanceTest] <;> (repeat' split) <;> simp
@[simp] theorem State.advanceTest_junctionRev (s : State) (b : Microamps) :
    (s.advanceTest b).junctionRev = s.junctionRev := by simp only [State.advanceTest] <;> (repeat' split) <;> simp
@[simp] theorem State.advanceTest_counted (s : State) (b : Microamps) :
    (s.advanceTest b).counted = s.counted := by simp only [State.advanceTest] <;> (repeat' split) <;> simp

@[simp] theorem State.timeOut_pending (s : State) :
    (s.timeOut).pending = s.pending := foldl_keeps State.pending _ (by intros; simp) _ _
@[simp] theorem State.timeOut_link (s : State) :
    (s.timeOut).link = s.link := foldl_keeps State.link _ (by intros; simp) _ _
@[simp] theorem State.timeOut_base (s : State) :
    (s.timeOut).base = s.base := foldl_keeps State.base _ (by intros; simp) _ _
@[simp] theorem State.timeOut_sched (s : State) :
    (s.timeOut).sched = s.sched := foldl_keeps State.sched _ (by intros; simp) _ _
@[simp] theorem State.timeOut_seq (s : State) :
    (s.timeOut).seq = s.seq := foldl_keeps State.seq _ (by intros; simp) _ _
@[simp] theorem State.timeOut_sampler (s : State) :
    (s.timeOut).sampler = s.sampler := foldl_keeps State.sampler _ (by intros; simp) _ _
@[simp] theorem State.timeOut_sup (s : State) :
    (s.timeOut).sup = s.sup := foldl_keeps State.sup _ (by intros; simp) _ _
@[simp] theorem State.timeOut_port (s : State) :
    (s.timeOut).port = s.port := foldl_keeps State.port _ (by intros; simp) _ _
@[simp] theorem State.timeOut_groups (s : State) :
    (s.timeOut).groups = s.groups := foldl_keeps State.groups _ (by intros; simp) _ _
@[simp] theorem State.timeOut_conflicts (s : State) :
    (s.timeOut).conflicts = s.conflicts := foldl_keeps State.conflicts _ (by intros; simp) _ _
@[simp] theorem State.timeOut_channels (s : State) :
    (s.timeOut).channels = s.channels := foldl_keeps State.channels _ (by intros; simp) _ _
@[simp] theorem State.timeOut_profiles (s : State) :
    (s.timeOut).profiles = s.profiles := foldl_keeps State.profiles _ (by intros; simp) _ _
@[simp] theorem State.timeOut_plans (s : State) :
    (s.timeOut).plans = s.plans := foldl_keeps State.plans _ (by intros; simp) _ _
@[simp] theorem State.timeOut_stages (s : State) :
    (s.timeOut).stages = s.stages := foldl_keeps State.stages _ (by intros; simp) _ _
@[simp] theorem State.timeOut_schedule (s : State) :
    (s.timeOut).schedule = s.schedule := foldl_keeps State.schedule _ (by intros; simp) _ _
@[simp] theorem State.timeOut_detectors (s : State) :
    (s.timeOut).detectors = s.detectors := foldl_keeps State.detectors _ (by intros; simp) _ _
@[simp] theorem State.timeOut_junctionRev (s : State) :
    (s.timeOut).junctionRev = s.junctionRev := foldl_keeps State.junctionRev _ (by intros; simp) _ _
@[simp] theorem State.timeOut_counted (s : State) :
    (s.timeOut).counted = s.counted := foldl_keeps State.counted _ (by intros; simp) _ _

@[simp] theorem State.ageQueue_pending (s : State) :
    (s.ageQueue).pending = s.pending := by simp only [State.ageQueue] <;> (repeat' split) <;> simp
@[simp] theorem State.ageQueue_link (s : State) :
    (s.ageQueue).link = s.link := by simp only [State.ageQueue] <;> (repeat' split) <;> simp
@[simp] theorem State.ageQueue_base (s : State) :
    (s.ageQueue).base = s.base := by simp only [State.ageQueue] <;> (repeat' split) <;> simp
@[simp] theorem State.ageQueue_sched (s : State) :
    (s.ageQueue).sched = s.sched := by simp only [State.ageQueue] <;> (repeat' split) <;> simp
@[simp] theorem State.ageQueue_seq (s : State) :
    (s.ageQueue).seq = s.seq := by simp only [State.ageQueue] <;> (repeat' split) <;> simp
@[simp] theorem State.ageQueue_sampler (s : State) :
    (s.ageQueue).sampler = s.sampler := by simp only [State.ageQueue] <;> (repeat' split) <;> simp
@[simp] theorem State.ageQueue_sup (s : State) :
    (s.ageQueue).sup = s.sup := by simp only [State.ageQueue] <;> (repeat' split) <;> simp
@[simp] theorem State.ageQueue_attn (s : State) :
    (s.ageQueue).attn = s.attn := by simp only [State.ageQueue] <;> (repeat' split) <;> simp
@[simp] theorem State.ageQueue_port (s : State) :
    (s.ageQueue).port = s.port := by simp only [State.ageQueue] <;> (repeat' split) <;> simp
@[simp] theorem State.ageQueue_groups (s : State) :
    (s.ageQueue).groups = s.groups := by simp only [State.ageQueue] <;> (repeat' split) <;> simp
@[simp] theorem State.ageQueue_conflicts (s : State) :
    (s.ageQueue).conflicts = s.conflicts := by simp only [State.ageQueue] <;> (repeat' split) <;> simp
@[simp] theorem State.ageQueue_channels (s : State) :
    (s.ageQueue).channels = s.channels := by simp only [State.ageQueue] <;> (repeat' split) <;> simp
@[simp] theorem State.ageQueue_profiles (s : State) :
    (s.ageQueue).profiles = s.profiles := by simp only [State.ageQueue] <;> (repeat' split) <;> simp
@[simp] theorem State.ageQueue_cables (s : State) :
    (s.ageQueue).cables = s.cables := by simp only [State.ageQueue] <;> (repeat' split) <;> simp
@[simp] theorem State.ageQueue_plans (s : State) :
    (s.ageQueue).plans = s.plans := by simp only [State.ageQueue] <;> (repeat' split) <;> simp
@[simp] theorem State.ageQueue_stages (s : State) :
    (s.ageQueue).stages = s.stages := by simp only [State.ageQueue] <;> (repeat' split) <;> simp
@[simp] theorem State.ageQueue_schedule (s : State) :
    (s.ageQueue).schedule = s.schedule := by simp only [State.ageQueue] <;> (repeat' split) <;> simp
@[simp] theorem State.ageQueue_detectors (s : State) :
    (s.ageQueue).detectors = s.detectors := by simp only [State.ageQueue] <;> (repeat' split) <;> simp
@[simp] theorem State.ageQueue_junctionRev (s : State) :
    (s.ageQueue).junctionRev = s.junctionRev := by simp only [State.ageQueue] <;> (repeat' split) <;> simp
@[simp] theorem State.ageQueue_counted (s : State) :
    (s.ageQueue).counted = s.counted := by simp only [State.ageQueue] <;> (repeat' split) <;> simp

@[simp] theorem State.queueTenth_pending (s : State) (i : TenthInput) :
    (s.queueTenth i).pending = s.pending := by simp only [State.queueTenth]; simp
@[simp] theorem State.queueTenth_link (s : State) (i : TenthInput) :
    (s.queueTenth i).link = s.link := by simp only [State.queueTenth]; simp
@[simp] theorem State.queueTenth_base (s : State) (i : TenthInput) :
    (s.queueTenth i).base = s.base := by simp only [State.queueTenth]; simp
@[simp] theorem State.queueTenth_sched (s : State) (i : TenthInput) :
    (s.queueTenth i).sched = s.sched := by simp only [State.queueTenth]; simp
@[simp] theorem State.queueTenth_seq (s : State) (i : TenthInput) :
    (s.queueTenth i).seq = s.seq := by simp only [State.queueTenth]; simp
@[simp] theorem State.queueTenth_sampler (s : State) (i : TenthInput) :
    (s.queueTenth i).sampler = s.sampler := by simp only [State.queueTenth]; simp
@[simp] theorem State.queueTenth_sup (s : State) (i : TenthInput) :
    (s.queueTenth i).sup = s.sup := by simp only [State.queueTenth]; simp
@[simp] theorem State.queueTenth_port (s : State) (i : TenthInput) :
    (s.queueTenth i).port = s.port := by simp only [State.queueTenth]; simp
@[simp] theorem State.queueTenth_conflicts (s : State) (i : TenthInput) :
    (s.queueTenth i).conflicts = s.conflicts := by simp only [State.queueTenth]; simp
@[simp] theorem State.queueTenth_channels (s : State) (i : TenthInput) :
    (s.queueTenth i).channels = s.channels := by simp only [State.queueTenth]; simp
@[simp] theorem State.queueTenth_profiles (s : State) (i : TenthInput) :
    (s.queueTenth i).profiles = s.profiles := by simp only [State.queueTenth]; simp
@[simp] theorem State.queueTenth_plans (s : State) (i : TenthInput) :
    (s.queueTenth i).plans = s.plans := by simp only [State.queueTenth]; simp
@[simp] theorem State.queueTenth_stages (s : State) (i : TenthInput) :
    (s.queueTenth i).stages = s.stages := by simp only [State.queueTenth]; simp
@[simp] theorem State.queueTenth_schedule (s : State) (i : TenthInput) :
    (s.queueTenth i).schedule = s.schedule := by simp only [State.queueTenth]; simp
@[simp] theorem State.queueTenth_detectors (s : State) (i : TenthInput) :
    (s.queueTenth i).detectors = s.detectors := by simp only [State.queueTenth]; simp
@[simp] theorem State.queueTenth_counted (s : State) (i : TenthInput) :
    (s.queueTenth i).counted = s.counted := by simp only [State.queueTenth]; simp

@[simp] theorem State.startSweep_pending (s : State) :
    (s.startSweep).pending = s.pending := foldl_keeps State.pending _ (by intros; split <;> simp) _ _
@[simp] theorem State.startSweep_link (s : State) :
    (s.startSweep).link = s.link := foldl_keeps State.link _ (by intros; split <;> simp) _ _
@[simp] theorem State.startSweep_base (s : State) :
    (s.startSweep).base = s.base := foldl_keeps State.base _ (by intros; split <;> simp) _ _
@[simp] theorem State.startSweep_sched (s : State) :
    (s.startSweep).sched = s.sched := foldl_keeps State.sched _ (by intros; split <;> simp) _ _
@[simp] theorem State.startSweep_seq (s : State) :
    (s.startSweep).seq = s.seq := foldl_keeps State.seq _ (by intros; split <;> simp) _ _
@[simp] theorem State.startSweep_sampler (s : State) :
    (s.startSweep).sampler = s.sampler := foldl_keeps State.sampler _ (by intros; split <;> simp) _ _
@[simp] theorem State.startSweep_sup (s : State) :
    (s.startSweep).sup = s.sup := foldl_keeps State.sup _ (by intros; split <;> simp) _ _
@[simp] theorem State.startSweep_attn (s : State) :
    (s.startSweep).attn = s.attn := foldl_keeps State.attn _ (by intros; split <;> simp) _ _
@[simp] theorem State.startSweep_port (s : State) :
    (s.startSweep).port = s.port := foldl_keeps State.port _ (by intros; split <;> simp) _ _
@[simp] theorem State.startSweep_groups (s : State) :
    (s.startSweep).groups = s.groups := foldl_keeps State.groups _ (by intros; split <;> simp) _ _
@[simp] theorem State.startSweep_conflicts (s : State) :
    (s.startSweep).conflicts = s.conflicts := foldl_keeps State.conflicts _ (by intros; split <;> simp) _ _
@[simp] theorem State.startSweep_channels (s : State) :
    (s.startSweep).channels = s.channels := foldl_keeps State.channels _ (by intros; split <;> simp) _ _
@[simp] theorem State.startSweep_profiles (s : State) :
    (s.startSweep).profiles = s.profiles := foldl_keeps State.profiles _ (by intros; split <;> simp) _ _
@[simp] theorem State.startSweep_plans (s : State) :
    (s.startSweep).plans = s.plans := foldl_keeps State.plans _ (by intros; split <;> simp) _ _
@[simp] theorem State.startSweep_stages (s : State) :
    (s.startSweep).stages = s.stages := foldl_keeps State.stages _ (by intros; split <;> simp) _ _
@[simp] theorem State.startSweep_schedule (s : State) :
    (s.startSweep).schedule = s.schedule := foldl_keeps State.schedule _ (by intros; split <;> simp) _ _
@[simp] theorem State.startSweep_detectors (s : State) :
    (s.startSweep).detectors = s.detectors := foldl_keeps State.detectors _ (by intros; split <;> simp) _ _
@[simp] theorem State.startSweep_junctionRev (s : State) :
    (s.startSweep).junctionRev = s.junctionRev := foldl_keeps State.junctionRev _ (by intros; split <;> simp) _ _
@[simp] theorem State.startSweep_counted (s : State) :
    (s.startSweep).counted = s.counted := foldl_keeps State.counted _ (by intros; split <;> simp) _ _

@[simp] theorem State.clearPortFor_pending (s : State) (m : Mode) :
    (s.clearPortFor m).pending = s.pending := by simp only [State.clearPortFor] <;> (repeat' split) <;> simp
@[simp] theorem State.clearPortFor_link (s : State) (m : Mode) :
    (s.clearPortFor m).link = s.link := by simp only [State.clearPortFor] <;> (repeat' split) <;> simp
@[simp] theorem State.clearPortFor_base (s : State) (m : Mode) :
    (s.clearPortFor m).base = s.base := by simp only [State.clearPortFor] <;> (repeat' split) <;> simp
@[simp] theorem State.clearPortFor_sched (s : State) (m : Mode) :
    (s.clearPortFor m).sched = s.sched := by simp only [State.clearPortFor] <;> (repeat' split) <;> simp
@[simp] theorem State.clearPortFor_seq (s : State) (m : Mode) :
    (s.clearPortFor m).seq = s.seq := by simp only [State.clearPortFor] <;> (repeat' split) <;> simp
@[simp] theorem State.clearPortFor_sampler (s : State) (m : Mode) :
    (s.clearPortFor m).sampler = s.sampler := by simp only [State.clearPortFor] <;> (repeat' split) <;> simp
@[simp] theorem State.clearPortFor_sup (s : State) (m : Mode) :
    (s.clearPortFor m).sup = s.sup := by simp only [State.clearPortFor] <;> (repeat' split) <;> simp
@[simp] theorem State.clearPortFor_bridge (s : State) (m : Mode) :
    (s.clearPortFor m).bridge = s.bridge := by simp only [State.clearPortFor] <;> (repeat' split) <;> simp
@[simp] theorem State.clearPortFor_attn (s : State) (m : Mode) :
    (s.clearPortFor m).attn = s.attn := by simp only [State.clearPortFor] <;> (repeat' split) <;> simp
@[simp] theorem State.clearPortFor_groups (s : State) (m : Mode) :
    (s.clearPortFor m).groups = s.groups := by simp only [State.clearPortFor] <;> (repeat' split) <;> simp
@[simp] theorem State.clearPortFor_conflicts (s : State) (m : Mode) :
    (s.clearPortFor m).conflicts = s.conflicts := by simp only [State.clearPortFor] <;> (repeat' split) <;> simp
@[simp] theorem State.clearPortFor_channels (s : State) (m : Mode) :
    (s.clearPortFor m).channels = s.channels := by simp only [State.clearPortFor] <;> (repeat' split) <;> simp
@[simp] theorem State.clearPortFor_profiles (s : State) (m : Mode) :
    (s.clearPortFor m).profiles = s.profiles := by simp only [State.clearPortFor] <;> (repeat' split) <;> simp
@[simp] theorem State.clearPortFor_cables (s : State) (m : Mode) :
    (s.clearPortFor m).cables = s.cables := by simp only [State.clearPortFor] <;> (repeat' split) <;> simp
@[simp] theorem State.clearPortFor_plans (s : State) (m : Mode) :
    (s.clearPortFor m).plans = s.plans := by simp only [State.clearPortFor] <;> (repeat' split) <;> simp
@[simp] theorem State.clearPortFor_stages (s : State) (m : Mode) :
    (s.clearPortFor m).stages = s.stages := by simp only [State.clearPortFor] <;> (repeat' split) <;> simp
@[simp] theorem State.clearPortFor_schedule (s : State) (m : Mode) :
    (s.clearPortFor m).schedule = s.schedule := by simp only [State.clearPortFor] <;> (repeat' split) <;> simp
@[simp] theorem State.clearPortFor_detectors (s : State) (m : Mode) :
    (s.clearPortFor m).detectors = s.detectors := by simp only [State.clearPortFor] <;> (repeat' split) <;> simp
@[simp] theorem State.clearPortFor_junctionRev (s : State) (m : Mode) :
    (s.clearPortFor m).junctionRev = s.junctionRev := by simp only [State.clearPortFor] <;> (repeat' split) <;> simp
@[simp] theorem State.clearPortFor_counted (s : State) (m : Mode) :
    (s.clearPortFor m).counted = s.counted := by simp only [State.clearPortFor] <;> (repeat' split) <;> simp

@[simp] theorem State.directFor_pending (s : State) (m : Mode) :
    (s.directFor m).pending = s.pending := by cases m <;> simp [State.directFor]
@[simp] theorem State.directFor_link (s : State) (m : Mode) :
    (s.directFor m).link = s.link := by cases m <;> simp [State.directFor]
@[simp] theorem State.directFor_base (s : State) (m : Mode) :
    (s.directFor m).base = s.base := by cases m <;> simp [State.directFor]
@[simp] theorem State.directFor_sched (s : State) (m : Mode) :
    (s.directFor m).sched = s.sched := by cases m <;> simp [State.directFor]
@[simp] theorem State.directFor_sampler (s : State) (m : Mode) :
    (s.directFor m).sampler = s.sampler := by cases m <;> simp [State.directFor]
@[simp] theorem State.directFor_sup (s : State) (m : Mode) :
    (s.directFor m).sup = s.sup := by cases m <;> simp [State.directFor]
@[simp] theorem State.directFor_bridge (s : State) (m : Mode) :
    (s.directFor m).bridge = s.bridge := by cases m <;> simp [State.directFor]
@[simp] theorem State.directFor_attn (s : State) (m : Mode) :
    (s.directFor m).attn = s.attn := by cases m <;> simp [State.directFor]
@[simp] theorem State.directFor_port (s : State) (m : Mode) :
    (s.directFor m).port = s.port := by cases m <;> simp [State.directFor]
@[simp] theorem State.directFor_conflicts (s : State) (m : Mode) :
    (s.directFor m).conflicts = s.conflicts := by cases m <;> simp [State.directFor]
@[simp] theorem State.directFor_channels (s : State) (m : Mode) :
    (s.directFor m).channels = s.channels := by cases m <;> simp [State.directFor]
@[simp] theorem State.directFor_profiles (s : State) (m : Mode) :
    (s.directFor m).profiles = s.profiles := by cases m <;> simp [State.directFor]
@[simp] theorem State.directFor_cables (s : State) (m : Mode) :
    (s.directFor m).cables = s.cables := by cases m <;> simp [State.directFor]
@[simp] theorem State.directFor_plans (s : State) (m : Mode) :
    (s.directFor m).plans = s.plans := by cases m <;> simp [State.directFor]
@[simp] theorem State.directFor_stages (s : State) (m : Mode) :
    (s.directFor m).stages = s.stages := by cases m <;> simp [State.directFor]
@[simp] theorem State.directFor_schedule (s : State) (m : Mode) :
    (s.directFor m).schedule = s.schedule := by cases m <;> simp [State.directFor]
@[simp] theorem State.directFor_detectors (s : State) (m : Mode) :
    (s.directFor m).detectors = s.detectors := by cases m <;> simp [State.directFor]
@[simp] theorem State.directFor_junctionRev (s : State) (m : Mode) :
    (s.directFor m).junctionRev = s.junctionRev := by cases m <;> simp [State.directFor]
@[simp] theorem State.directFor_counted (s : State) (m : Mode) :
    (s.directFor m).counted = s.counted := by cases m <;> simp [State.directFor]

@[simp] theorem State.enterMode_pending (s : State) (m : Mode) :
    (s.enterMode m).pending = s.pending := by simp only [State.enterMode] <;> (repeat' split) <;> simp
@[simp] theorem State.enterMode_link (s : State) (m : Mode) :
    (s.enterMode m).link = s.link := by simp only [State.enterMode] <;> (repeat' split) <;> simp
@[simp] theorem State.enterMode_base (s : State) (m : Mode) :
    (s.enterMode m).base = s.base := by simp only [State.enterMode] <;> (repeat' split) <;> simp
@[simp] theorem State.enterMode_sched (s : State) (m : Mode) :
    (s.enterMode m).sched = s.sched := by simp only [State.enterMode] <;> (repeat' split) <;> simp
@[simp] theorem State.enterMode_sampler (s : State) (m : Mode) :
    (s.enterMode m).sampler = s.sampler := by simp only [State.enterMode] <;> (repeat' split) <;> simp
@[simp] theorem State.enterMode_conflicts (s : State) (m : Mode) :
    (s.enterMode m).conflicts = s.conflicts := by simp only [State.enterMode] <;> (repeat' split) <;> simp
@[simp] theorem State.enterMode_channels (s : State) (m : Mode) :
    (s.enterMode m).channels = s.channels := by simp only [State.enterMode] <;> (repeat' split) <;> simp
@[simp] theorem State.enterMode_profiles (s : State) (m : Mode) :
    (s.enterMode m).profiles = s.profiles := by simp only [State.enterMode] <;> (repeat' split) <;> simp
@[simp] theorem State.enterMode_plans (s : State) (m : Mode) :
    (s.enterMode m).plans = s.plans := by simp only [State.enterMode] <;> (repeat' split) <;> simp
@[simp] theorem State.enterMode_stages (s : State) (m : Mode) :
    (s.enterMode m).stages = s.stages := by simp only [State.enterMode] <;> (repeat' split) <;> simp
@[simp] theorem State.enterMode_schedule (s : State) (m : Mode) :
    (s.enterMode m).schedule = s.schedule := by simp only [State.enterMode] <;> (repeat' split) <;> simp
@[simp] theorem State.enterMode_detectors (s : State) (m : Mode) :
    (s.enterMode m).detectors = s.detectors := by simp only [State.enterMode] <;> (repeat' split) <;> simp
@[simp] theorem State.enterMode_junctionRev (s : State) (m : Mode) :
    (s.enterMode m).junctionRev = s.junctionRev := by simp only [State.enterMode] <;> (repeat' split) <;> simp
@[simp] theorem State.enterMode_counted (s : State) (m : Mode) :
    (s.enterMode m).counted = s.counted := by simp only [State.enterMode] <;> (repeat' split) <;> simp

@[simp] theorem State.changeMode_pending (s : State) (m : Mode) (c : AClass) :
    (s.changeMode m c).pending = s.pending := by simp [State.changeMode]
@[simp] theorem State.changeMode_link (s : State) (m : Mode) (c : AClass) :
    (s.changeMode m c).link = s.link := by simp [State.changeMode]
@[simp] theorem State.changeMode_base (s : State) (m : Mode) (c : AClass) :
    (s.changeMode m c).base = s.base := by simp [State.changeMode]
@[simp] theorem State.changeMode_sched (s : State) (m : Mode) (c : AClass) :
    (s.changeMode m c).sched = s.sched := by simp [State.changeMode]
@[simp] theorem State.changeMode_sampler (s : State) (m : Mode) (c : AClass) :
    (s.changeMode m c).sampler = s.sampler := by simp [State.changeMode]
@[simp] theorem State.changeMode_conflicts (s : State) (m : Mode) (c : AClass) :
    (s.changeMode m c).conflicts = s.conflicts := by simp [State.changeMode]
@[simp] theorem State.changeMode_channels (s : State) (m : Mode) (c : AClass) :
    (s.changeMode m c).channels = s.channels := by simp [State.changeMode]
@[simp] theorem State.changeMode_profiles (s : State) (m : Mode) (c : AClass) :
    (s.changeMode m c).profiles = s.profiles := by simp [State.changeMode]
@[simp] theorem State.changeMode_plans (s : State) (m : Mode) (c : AClass) :
    (s.changeMode m c).plans = s.plans := by simp [State.changeMode]
@[simp] theorem State.changeMode_stages (s : State) (m : Mode) (c : AClass) :
    (s.changeMode m c).stages = s.stages := by simp [State.changeMode]
@[simp] theorem State.changeMode_schedule (s : State) (m : Mode) (c : AClass) :
    (s.changeMode m c).schedule = s.schedule := by simp [State.changeMode]
@[simp] theorem State.changeMode_detectors (s : State) (m : Mode) (c : AClass) :
    (s.changeMode m c).detectors = s.detectors := by simp [State.changeMode]
@[simp] theorem State.changeMode_junctionRev (s : State) (m : Mode) (c : AClass) :
    (s.changeMode m c).junctionRev = s.junctionRev := by simp [State.changeMode]
@[simp] theorem State.changeMode_counted (s : State) (m : Mode) (c : AClass) :
    (s.changeMode m c).counted = s.counted := by simp [State.changeMode]

theorem State.enterMode_bridge (s : State) (m : Mode) (h : m ≠ .mainsOut) : (s.enterMode m).bridge = s.bridge := by
  simp [State.enterMode, h]

theorem State.enterMode_cables (s : State) (m : Mode) (h : m ≠ .mainsOut) : (s.enterMode m).cables = s.cables := by
  simp [State.enterMode, h]

theorem State.changeMode_bridge (s : State) (m : Mode) (c : AClass) (h : m ≠ .mainsOut) :
    (s.changeMode m c).bridge = s.bridge := by
  simp [State.changeMode, State.enterMode_bridge, h]

theorem State.changeMode_cables (s : State) (m : Mode) (c : AClass) (h : m ≠ .mainsOut) :
    (s.changeMode m c).cables = s.cables := by
  simp [State.changeMode, State.enterMode_cables, h]

@[simp] theorem State.failSafe_pending (s : State) (c : Cause) :
    (s.failSafe c).pending = s.pending := by simp [State.failSafe, State.changeMode_bridge, State.changeMode_cables]
@[simp] theorem State.failSafe_link (s : State) (c : Cause) :
    (s.failSafe c).link = s.link := by simp [State.failSafe, State.changeMode_bridge, State.changeMode_cables]
@[simp] theorem State.failSafe_base (s : State) (c : Cause) :
    (s.failSafe c).base = s.base := by simp [State.failSafe, State.changeMode_bridge, State.changeMode_cables]
@[simp] theorem State.failSafe_sched (s : State) (c : Cause) :
    (s.failSafe c).sched = s.sched := by simp [State.failSafe, State.changeMode_bridge, State.changeMode_cables]
@[simp] theorem State.failSafe_sampler (s : State) (c : Cause) :
    (s.failSafe c).sampler = s.sampler := by simp [State.failSafe, State.changeMode_bridge, State.changeMode_cables]
@[simp] theorem State.failSafe_bridge (s : State) (c : Cause) :
    (s.failSafe c).bridge = s.bridge := by simp [State.failSafe, State.changeMode_bridge, State.changeMode_cables]
@[simp] theorem State.failSafe_conflicts (s : State) (c : Cause) :
    (s.failSafe c).conflicts = s.conflicts := by simp [State.failSafe, State.changeMode_bridge, State.changeMode_cables]
@[simp] theorem State.failSafe_channels (s : State) (c : Cause) :
    (s.failSafe c).channels = s.channels := by simp [State.failSafe, State.changeMode_bridge, State.changeMode_cables]
@[simp] theorem State.failSafe_profiles (s : State) (c : Cause) :
    (s.failSafe c).profiles = s.profiles := by simp [State.failSafe, State.changeMode_bridge, State.changeMode_cables]
@[simp] theorem State.failSafe_cables (s : State) (c : Cause) :
    (s.failSafe c).cables = s.cables := by simp [State.failSafe, State.changeMode_bridge, State.changeMode_cables]
@[simp] theorem State.failSafe_plans (s : State) (c : Cause) :
    (s.failSafe c).plans = s.plans := by simp [State.failSafe, State.changeMode_bridge, State.changeMode_cables]
@[simp] theorem State.failSafe_stages (s : State) (c : Cause) :
    (s.failSafe c).stages = s.stages := by simp [State.failSafe, State.changeMode_bridge, State.changeMode_cables]
@[simp] theorem State.failSafe_schedule (s : State) (c : Cause) :
    (s.failSafe c).schedule = s.schedule := by simp [State.failSafe, State.changeMode_bridge, State.changeMode_cables]
@[simp] theorem State.failSafe_detectors (s : State) (c : Cause) :
    (s.failSafe c).detectors = s.detectors := by simp [State.failSafe, State.changeMode_bridge, State.changeMode_cables]
@[simp] theorem State.failSafe_junctionRev (s : State) (c : Cause) :
    (s.failSafe c).junctionRev = s.junctionRev := by simp [State.failSafe, State.changeMode_bridge, State.changeMode_cables]
@[simp] theorem State.failSafe_counted (s : State) (c : Cause) :
    (s.failSafe c).counted = s.counted := by simp [State.failSafe, State.changeMode_bridge, State.changeMode_cables]

@[simp] theorem State.recordFurther_pending (s : State) (c : CauseSet) :
    (s.recordFurther c).pending = s.pending := by simp only [State.recordFurther] <;> (repeat' split) <;> simp
@[simp] theorem State.recordFurther_link (s : State) (c : CauseSet) :
    (s.recordFurther c).link = s.link := by simp only [State.recordFurther] <;> (repeat' split) <;> simp
@[simp] theorem State.recordFurther_base (s : State) (c : CauseSet) :
    (s.recordFurther c).base = s.base := by simp only [State.recordFurther] <;> (repeat' split) <;> simp
@[simp] theorem State.recordFurther_sched (s : State) (c : CauseSet) :
    (s.recordFurther c).sched = s.sched := by simp only [State.recordFurther] <;> (repeat' split) <;> simp
@[simp] theorem State.recordFurther_seq (s : State) (c : CauseSet) :
    (s.recordFurther c).seq = s.seq := by simp only [State.recordFurther] <;> (repeat' split) <;> simp
@[simp] theorem State.recordFurther_sampler (s : State) (c : CauseSet) :
    (s.recordFurther c).sampler = s.sampler := by simp only [State.recordFurther] <;> (repeat' split) <;> simp
@[simp] theorem State.recordFurther_bridge (s : State) (c : CauseSet) :
    (s.recordFurther c).bridge = s.bridge := by simp only [State.recordFurther] <;> (repeat' split) <;> simp
@[simp] theorem State.recordFurther_port (s : State) (c : CauseSet) :
    (s.recordFurther c).port = s.port := by simp only [State.recordFurther] <;> (repeat' split) <;> simp
@[simp] theorem State.recordFurther_groups (s : State) (c : CauseSet) :
    (s.recordFurther c).groups = s.groups := by simp only [State.recordFurther] <;> (repeat' split) <;> simp
@[simp] theorem State.recordFurther_conflicts (s : State) (c : CauseSet) :
    (s.recordFurther c).conflicts = s.conflicts := by simp only [State.recordFurther] <;> (repeat' split) <;> simp
@[simp] theorem State.recordFurther_channels (s : State) (c : CauseSet) :
    (s.recordFurther c).channels = s.channels := by simp only [State.recordFurther] <;> (repeat' split) <;> simp
@[simp] theorem State.recordFurther_profiles (s : State) (c : CauseSet) :
    (s.recordFurther c).profiles = s.profiles := by simp only [State.recordFurther] <;> (repeat' split) <;> simp
@[simp] theorem State.recordFurther_cables (s : State) (c : CauseSet) :
    (s.recordFurther c).cables = s.cables := by simp only [State.recordFurther] <;> (repeat' split) <;> simp
@[simp] theorem State.recordFurther_plans (s : State) (c : CauseSet) :
    (s.recordFurther c).plans = s.plans := by simp only [State.recordFurther] <;> (repeat' split) <;> simp
@[simp] theorem State.recordFurther_stages (s : State) (c : CauseSet) :
    (s.recordFurther c).stages = s.stages := by simp only [State.recordFurther] <;> (repeat' split) <;> simp
@[simp] theorem State.recordFurther_schedule (s : State) (c : CauseSet) :
    (s.recordFurther c).schedule = s.schedule := by simp only [State.recordFurther] <;> (repeat' split) <;> simp
@[simp] theorem State.recordFurther_detectors (s : State) (c : CauseSet) :
    (s.recordFurther c).detectors = s.detectors := by simp only [State.recordFurther] <;> (repeat' split) <;> simp
@[simp] theorem State.recordFurther_junctionRev (s : State) (c : CauseSet) :
    (s.recordFurther c).junctionRev = s.junctionRev := by simp only [State.recordFurther] <;> (repeat' split) <;> simp
@[simp] theorem State.recordFurther_counted (s : State) (c : CauseSet) :
    (s.recordFurther c).counted = s.counted := by simp only [State.recordFurther] <;> (repeat' split) <;> simp

@[simp] theorem State.raise_pending (s : State) (c : CauseSet) :
    (s.raise c).pending = s.pending := by simp only [State.raise] <;> (repeat' split) <;> simp
@[simp] theorem State.raise_link (s : State) (c : CauseSet) :
    (s.raise c).link = s.link := by simp only [State.raise] <;> (repeat' split) <;> simp
@[simp] theorem State.raise_base (s : State) (c : CauseSet) :
    (s.raise c).base = s.base := by simp only [State.raise] <;> (repeat' split) <;> simp
@[simp] theorem State.raise_sched (s : State) (c : CauseSet) :
    (s.raise c).sched = s.sched := by simp only [State.raise] <;> (repeat' split) <;> simp
@[simp] theorem State.raise_sampler (s : State) (c : CauseSet) :
    (s.raise c).sampler = s.sampler := by simp only [State.raise] <;> (repeat' split) <;> simp
@[simp] theorem State.raise_bridge (s : State) (c : CauseSet) :
    (s.raise c).bridge = s.bridge := by simp only [State.raise] <;> (repeat' split) <;> simp
@[simp] theorem State.raise_conflicts (s : State) (c : CauseSet) :
    (s.raise c).conflicts = s.conflicts := by simp only [State.raise] <;> (repeat' split) <;> simp
@[simp] theorem State.raise_channels (s : State) (c : CauseSet) :
    (s.raise c).channels = s.channels := by simp only [State.raise] <;> (repeat' split) <;> simp
@[simp] theorem State.raise_profiles (s : State) (c : CauseSet) :
    (s.raise c).profiles = s.profiles := by simp only [State.raise] <;> (repeat' split) <;> simp
@[simp] theorem State.raise_cables (s : State) (c : CauseSet) :
    (s.raise c).cables = s.cables := by simp only [State.raise] <;> (repeat' split) <;> simp
@[simp] theorem State.raise_plans (s : State) (c : CauseSet) :
    (s.raise c).plans = s.plans := by simp only [State.raise] <;> (repeat' split) <;> simp
@[simp] theorem State.raise_stages (s : State) (c : CauseSet) :
    (s.raise c).stages = s.stages := by simp only [State.raise] <;> (repeat' split) <;> simp
@[simp] theorem State.raise_schedule (s : State) (c : CauseSet) :
    (s.raise c).schedule = s.schedule := by simp only [State.raise] <;> (repeat' split) <;> simp
@[simp] theorem State.raise_detectors (s : State) (c : CauseSet) :
    (s.raise c).detectors = s.detectors := by simp only [State.raise] <;> (repeat' split) <;> simp
@[simp] theorem State.raise_junctionRev (s : State) (c : CauseSet) :
    (s.raise c).junctionRev = s.junctionRev := by simp only [State.raise] <;> (repeat' split) <;> simp
@[simp] theorem State.raise_counted (s : State) (c : CauseSet) :
    (s.raise c).counted = s.counted := by simp only [State.raise] <;> (repeat' split) <;> simp

@[simp] theorem State.refreshOnce_pending (s : State) :
    (s.refreshOnce).pending = s.pending := by simp [State.refreshOnce]
@[simp] theorem State.refreshOnce_link (s : State) :
    (s.refreshOnce).link = s.link := by simp [State.refreshOnce]
@[simp] theorem State.refreshOnce_base (s : State) :
    (s.refreshOnce).base = s.base := by simp [State.refreshOnce]
@[simp] theorem State.refreshOnce_sched (s : State) :
    (s.refreshOnce).sched = s.sched := by simp [State.refreshOnce]
@[simp] theorem State.refreshOnce_sampler (s : State) :
    (s.refreshOnce).sampler = s.sampler := by simp [State.refreshOnce]
@[simp] theorem State.refreshOnce_bridge (s : State) :
    (s.refreshOnce).bridge = s.bridge := by simp [State.refreshOnce]
@[simp] theorem State.refreshOnce_conflicts (s : State) :
    (s.refreshOnce).conflicts = s.conflicts := by simp [State.refreshOnce]
@[simp] theorem State.refreshOnce_channels (s : State) :
    (s.refreshOnce).channels = s.channels := by simp [State.refreshOnce]
@[simp] theorem State.refreshOnce_profiles (s : State) :
    (s.refreshOnce).profiles = s.profiles := by simp [State.refreshOnce]
@[simp] theorem State.refreshOnce_cables (s : State) :
    (s.refreshOnce).cables = s.cables := by simp [State.refreshOnce]
@[simp] theorem State.refreshOnce_plans (s : State) :
    (s.refreshOnce).plans = s.plans := by simp [State.refreshOnce]
@[simp] theorem State.refreshOnce_stages (s : State) :
    (s.refreshOnce).stages = s.stages := by simp [State.refreshOnce]
@[simp] theorem State.refreshOnce_schedule (s : State) :
    (s.refreshOnce).schedule = s.schedule := by simp [State.refreshOnce]
@[simp] theorem State.refreshOnce_detectors (s : State) :
    (s.refreshOnce).detectors = s.detectors := by simp [State.refreshOnce]
@[simp] theorem State.refreshOnce_junctionRev (s : State) :
    (s.refreshOnce).junctionRev = s.junctionRev := by simp [State.refreshOnce]
@[simp] theorem State.refreshOnce_counted (s : State) :
    (s.refreshOnce).counted = s.counted := by simp [State.refreshOnce]

@[simp] theorem State.refresh_pending (s : State) :
    (s.refresh).pending = s.pending := by simp only [State.refresh] <;> (repeat' split) <;> simp
@[simp] theorem State.refresh_link (s : State) :
    (s.refresh).link = s.link := by simp only [State.refresh] <;> (repeat' split) <;> simp
@[simp] theorem State.refresh_base (s : State) :
    (s.refresh).base = s.base := by simp only [State.refresh] <;> (repeat' split) <;> simp
@[simp] theorem State.refresh_sched (s : State) :
    (s.refresh).sched = s.sched := by simp only [State.refresh] <;> (repeat' split) <;> simp
@[simp] theorem State.refresh_sampler (s : State) :
    (s.refresh).sampler = s.sampler := by simp only [State.refresh] <;> (repeat' split) <;> simp
@[simp] theorem State.refresh_bridge (s : State) :
    (s.refresh).bridge = s.bridge := by simp only [State.refresh] <;> (repeat' split) <;> simp
@[simp] theorem State.refresh_conflicts (s : State) :
    (s.refresh).conflicts = s.conflicts := by simp only [State.refresh] <;> (repeat' split) <;> simp
@[simp] theorem State.refresh_channels (s : State) :
    (s.refresh).channels = s.channels := by simp only [State.refresh] <;> (repeat' split) <;> simp
@[simp] theorem State.refresh_profiles (s : State) :
    (s.refresh).profiles = s.profiles := by simp only [State.refresh] <;> (repeat' split) <;> simp
@[simp] theorem State.refresh_cables (s : State) :
    (s.refresh).cables = s.cables := by simp only [State.refresh] <;> (repeat' split) <;> simp
@[simp] theorem State.refresh_plans (s : State) :
    (s.refresh).plans = s.plans := by simp only [State.refresh] <;> (repeat' split) <;> simp
@[simp] theorem State.refresh_stages (s : State) :
    (s.refresh).stages = s.stages := by simp only [State.refresh] <;> (repeat' split) <;> simp
@[simp] theorem State.refresh_schedule (s : State) :
    (s.refresh).schedule = s.schedule := by simp only [State.refresh] <;> (repeat' split) <;> simp
@[simp] theorem State.refresh_detectors (s : State) :
    (s.refresh).detectors = s.detectors := by simp only [State.refresh] <;> (repeat' split) <;> simp
@[simp] theorem State.refresh_junctionRev (s : State) :
    (s.refresh).junctionRev = s.junctionRev := by simp only [State.refresh] <;> (repeat' split) <;> simp
@[simp] theorem State.refresh_counted (s : State) :
    (s.refresh).counted = s.counted := by simp only [State.refresh] <;> (repeat' split) <;> simp

@[simp] theorem State.raiseAck_pending (s : State) (c : Cause) :
    (s.raiseAck c).pending = s.pending := by simp [State.raiseAck]
@[simp] theorem State.raiseAck_link (s : State) (c : Cause) :
    (s.raiseAck c).link = s.link := by simp [State.raiseAck]
@[simp] theorem State.raiseAck_base (s : State) (c : Cause) :
    (s.raiseAck c).base = s.base := by simp [State.raiseAck]
@[simp] theorem State.raiseAck_sched (s : State) (c : Cause) :
    (s.raiseAck c).sched = s.sched := by simp [State.raiseAck]
@[simp] theorem State.raiseAck_sampler (s : State) (c : Cause) :
    (s.raiseAck c).sampler = s.sampler := by simp [State.raiseAck]
@[simp] theorem State.raiseAck_bridge (s : State) (c : Cause) :
    (s.raiseAck c).bridge = s.bridge := by simp [State.raiseAck]
@[simp] theorem State.raiseAck_conflicts (s : State) (c : Cause) :
    (s.raiseAck c).conflicts = s.conflicts := by simp [State.raiseAck]
@[simp] theorem State.raiseAck_channels (s : State) (c : Cause) :
    (s.raiseAck c).channels = s.channels := by simp [State.raiseAck]
@[simp] theorem State.raiseAck_profiles (s : State) (c : Cause) :
    (s.raiseAck c).profiles = s.profiles := by simp [State.raiseAck]
@[simp] theorem State.raiseAck_cables (s : State) (c : Cause) :
    (s.raiseAck c).cables = s.cables := by simp [State.raiseAck]
@[simp] theorem State.raiseAck_plans (s : State) (c : Cause) :
    (s.raiseAck c).plans = s.plans := by simp [State.raiseAck]
@[simp] theorem State.raiseAck_stages (s : State) (c : Cause) :
    (s.raiseAck c).stages = s.stages := by simp [State.raiseAck]
@[simp] theorem State.raiseAck_schedule (s : State) (c : Cause) :
    (s.raiseAck c).schedule = s.schedule := by simp [State.raiseAck]
@[simp] theorem State.raiseAck_detectors (s : State) (c : Cause) :
    (s.raiseAck c).detectors = s.detectors := by simp [State.raiseAck]
@[simp] theorem State.raiseAck_junctionRev (s : State) (c : Cause) :
    (s.raiseAck c).junctionRev = s.junctionRev := by simp [State.raiseAck]
@[simp] theorem State.raiseAck_counted (s : State) (c : Cause) :
    (s.raiseAck c).counted = s.counted := by simp [State.raiseAck]

@[simp] theorem State.raisePresent_pending (s : State) :
    (s.raisePresent).pending = s.pending := by simp [State.raisePresent]
@[simp] theorem State.raisePresent_link (s : State) :
    (s.raisePresent).link = s.link := by simp [State.raisePresent]
@[simp] theorem State.raisePresent_base (s : State) :
    (s.raisePresent).base = s.base := by simp [State.raisePresent]
@[simp] theorem State.raisePresent_sched (s : State) :
    (s.raisePresent).sched = s.sched := by simp [State.raisePresent]
@[simp] theorem State.raisePresent_sampler (s : State) :
    (s.raisePresent).sampler = s.sampler := by simp [State.raisePresent]
@[simp] theorem State.raisePresent_bridge (s : State) :
    (s.raisePresent).bridge = s.bridge := by simp [State.raisePresent]
@[simp] theorem State.raisePresent_conflicts (s : State) :
    (s.raisePresent).conflicts = s.conflicts := by simp [State.raisePresent]
@[simp] theorem State.raisePresent_channels (s : State) :
    (s.raisePresent).channels = s.channels := by simp [State.raisePresent]
@[simp] theorem State.raisePresent_profiles (s : State) :
    (s.raisePresent).profiles = s.profiles := by simp [State.raisePresent]
@[simp] theorem State.raisePresent_cables (s : State) :
    (s.raisePresent).cables = s.cables := by simp [State.raisePresent]
@[simp] theorem State.raisePresent_plans (s : State) :
    (s.raisePresent).plans = s.plans := by simp [State.raisePresent]
@[simp] theorem State.raisePresent_stages (s : State) :
    (s.raisePresent).stages = s.stages := by simp [State.raisePresent]
@[simp] theorem State.raisePresent_schedule (s : State) :
    (s.raisePresent).schedule = s.schedule := by simp [State.raisePresent]
@[simp] theorem State.raisePresent_detectors (s : State) :
    (s.raisePresent).detectors = s.detectors := by simp [State.raisePresent]
@[simp] theorem State.raisePresent_junctionRev (s : State) :
    (s.raisePresent).junctionRev = s.junctionRev := by simp [State.raisePresent]
@[simp] theorem State.raisePresent_counted (s : State) :
    (s.raisePresent).counted = s.counted := by simp [State.raisePresent]

@[simp] theorem State.forceRaise_pending (s : State) :
    (s.forceRaise).pending = s.pending := by simp only [State.forceRaise] <;> (repeat' split) <;> simp
@[simp] theorem State.forceRaise_link (s : State) :
    (s.forceRaise).link = s.link := by simp only [State.forceRaise] <;> (repeat' split) <;> simp
@[simp] theorem State.forceRaise_base (s : State) :
    (s.forceRaise).base = s.base := by simp only [State.forceRaise] <;> (repeat' split) <;> simp
@[simp] theorem State.forceRaise_sched (s : State) :
    (s.forceRaise).sched = s.sched := by simp only [State.forceRaise] <;> (repeat' split) <;> simp
@[simp] theorem State.forceRaise_sampler (s : State) :
    (s.forceRaise).sampler = s.sampler := by simp only [State.forceRaise] <;> (repeat' split) <;> simp
@[simp] theorem State.forceRaise_bridge (s : State) :
    (s.forceRaise).bridge = s.bridge := by simp only [State.forceRaise] <;> (repeat' split) <;> simp
@[simp] theorem State.forceRaise_conflicts (s : State) :
    (s.forceRaise).conflicts = s.conflicts := by simp only [State.forceRaise] <;> (repeat' split) <;> simp
@[simp] theorem State.forceRaise_channels (s : State) :
    (s.forceRaise).channels = s.channels := by simp only [State.forceRaise] <;> (repeat' split) <;> simp
@[simp] theorem State.forceRaise_profiles (s : State) :
    (s.forceRaise).profiles = s.profiles := by simp only [State.forceRaise] <;> (repeat' split) <;> simp
@[simp] theorem State.forceRaise_cables (s : State) :
    (s.forceRaise).cables = s.cables := by simp only [State.forceRaise] <;> (repeat' split) <;> simp
@[simp] theorem State.forceRaise_plans (s : State) :
    (s.forceRaise).plans = s.plans := by simp only [State.forceRaise] <;> (repeat' split) <;> simp
@[simp] theorem State.forceRaise_stages (s : State) :
    (s.forceRaise).stages = s.stages := by simp only [State.forceRaise] <;> (repeat' split) <;> simp
@[simp] theorem State.forceRaise_schedule (s : State) :
    (s.forceRaise).schedule = s.schedule := by simp only [State.forceRaise] <;> (repeat' split) <;> simp
@[simp] theorem State.forceRaise_detectors (s : State) :
    (s.forceRaise).detectors = s.detectors := by simp only [State.forceRaise] <;> (repeat' split) <;> simp
@[simp] theorem State.forceRaise_junctionRev (s : State) :
    (s.forceRaise).junctionRev = s.junctionRev := by simp only [State.forceRaise] <;> (repeat' split) <;> simp
@[simp] theorem State.forceRaise_counted (s : State) :
    (s.forceRaise).counted = s.counted := by simp only [State.forceRaise] <;> (repeat' split) <;> simp

@[simp] theorem State.beginStart_pending (s : State) :
    (s.beginStart).pending = s.pending := by simp only [State.beginStart] <;> (repeat' split) <;> simp
@[simp] theorem State.beginStart_link (s : State) :
    (s.beginStart).link = s.link := by simp only [State.beginStart] <;> (repeat' split) <;> simp
@[simp] theorem State.beginStart_base (s : State) :
    (s.beginStart).base = s.base := by simp only [State.beginStart] <;> (repeat' split) <;> simp
@[simp] theorem State.beginStart_sched (s : State) :
    (s.beginStart).sched = s.sched := by simp only [State.beginStart] <;> (repeat' split) <;> simp
@[simp] theorem State.beginStart_sampler (s : State) :
    (s.beginStart).sampler = s.sampler := by simp only [State.beginStart] <;> (repeat' split) <;> simp
@[simp] theorem State.beginStart_conflicts (s : State) :
    (s.beginStart).conflicts = s.conflicts := by simp only [State.beginStart] <;> (repeat' split) <;> simp
@[simp] theorem State.beginStart_channels (s : State) :
    (s.beginStart).channels = s.channels := by simp only [State.beginStart] <;> (repeat' split) <;> simp
@[simp] theorem State.beginStart_profiles (s : State) :
    (s.beginStart).profiles = s.profiles := by simp only [State.beginStart] <;> (repeat' split) <;> simp
@[simp] theorem State.beginStart_plans (s : State) :
    (s.beginStart).plans = s.plans := by simp only [State.beginStart] <;> (repeat' split) <;> simp
@[simp] theorem State.beginStart_stages (s : State) :
    (s.beginStart).stages = s.stages := by simp only [State.beginStart] <;> (repeat' split) <;> simp
@[simp] theorem State.beginStart_schedule (s : State) :
    (s.beginStart).schedule = s.schedule := by simp only [State.beginStart] <;> (repeat' split) <;> simp
@[simp] theorem State.beginStart_detectors (s : State) :
    (s.beginStart).detectors = s.detectors := by simp only [State.beginStart] <;> (repeat' split) <;> simp
@[simp] theorem State.beginStart_junctionRev (s : State) :
    (s.beginStart).junctionRev = s.junctionRev := by simp only [State.beginStart] <;> (repeat' split) <;> simp
@[simp] theorem State.beginStart_counted (s : State) :
    (s.beginStart).counted = s.counted := by simp only [State.beginStart] <;> (repeat' split) <;> simp

@[simp] theorem State.mainsLost_pending (s : State) :
    (s.mainsLost).pending = s.pending := by simp only [State.mainsLost] <;> (repeat' split) <;> simp
@[simp] theorem State.mainsLost_link (s : State) :
    (s.mainsLost).link = s.link := by simp only [State.mainsLost] <;> (repeat' split) <;> simp
@[simp] theorem State.mainsLost_base (s : State) :
    (s.mainsLost).base = s.base := by simp only [State.mainsLost] <;> (repeat' split) <;> simp
@[simp] theorem State.mainsLost_sched (s : State) :
    (s.mainsLost).sched = s.sched := by simp only [State.mainsLost] <;> (repeat' split) <;> simp
@[simp] theorem State.mainsLost_sampler (s : State) :
    (s.mainsLost).sampler = s.sampler := by simp only [State.mainsLost] <;> (repeat' split) <;> simp
@[simp] theorem State.mainsLost_conflicts (s : State) :
    (s.mainsLost).conflicts = s.conflicts := by simp only [State.mainsLost] <;> (repeat' split) <;> simp
@[simp] theorem State.mainsLost_channels (s : State) :
    (s.mainsLost).channels = s.channels := by simp only [State.mainsLost] <;> (repeat' split) <;> simp
@[simp] theorem State.mainsLost_profiles (s : State) :
    (s.mainsLost).profiles = s.profiles := by simp only [State.mainsLost] <;> (repeat' split) <;> simp
@[simp] theorem State.mainsLost_plans (s : State) :
    (s.mainsLost).plans = s.plans := by simp only [State.mainsLost] <;> (repeat' split) <;> simp
@[simp] theorem State.mainsLost_stages (s : State) :
    (s.mainsLost).stages = s.stages := by simp only [State.mainsLost] <;> (repeat' split) <;> simp
@[simp] theorem State.mainsLost_schedule (s : State) :
    (s.mainsLost).schedule = s.schedule := by simp only [State.mainsLost] <;> (repeat' split) <;> simp
@[simp] theorem State.mainsLost_detectors (s : State) :
    (s.mainsLost).detectors = s.detectors := by simp only [State.mainsLost] <;> (repeat' split) <;> simp
@[simp] theorem State.mainsLost_junctionRev (s : State) :
    (s.mainsLost).junctionRev = s.junctionRev := by simp only [State.mainsLost] <;> (repeat' split) <;> simp
@[simp] theorem State.mainsLost_counted (s : State) :
    (s.mainsLost).counted = s.counted := by simp only [State.mainsLost] <;> (repeat' split) <;> simp

@[simp] theorem State.returnMode_pending (s : State) :
    (s.returnMode).pending = s.pending := by simp only [State.returnMode] <;> (repeat' split) <;> simp
@[simp] theorem State.returnMode_link (s : State) :
    (s.returnMode).link = s.link := by simp only [State.returnMode] <;> (repeat' split) <;> simp
@[simp] theorem State.returnMode_base (s : State) :
    (s.returnMode).base = s.base := by simp only [State.returnMode] <;> (repeat' split) <;> simp
@[simp] theorem State.returnMode_sched (s : State) :
    (s.returnMode).sched = s.sched := by simp only [State.returnMode] <;> (repeat' split) <;> simp
@[simp] theorem State.returnMode_sampler (s : State) :
    (s.returnMode).sampler = s.sampler := by simp only [State.returnMode] <;> (repeat' split) <;> simp
@[simp] theorem State.returnMode_conflicts (s : State) :
    (s.returnMode).conflicts = s.conflicts := by simp only [State.returnMode] <;> (repeat' split) <;> simp
@[simp] theorem State.returnMode_channels (s : State) :
    (s.returnMode).channels = s.channels := by simp only [State.returnMode] <;> (repeat' split) <;> simp
@[simp] theorem State.returnMode_profiles (s : State) :
    (s.returnMode).profiles = s.profiles := by simp only [State.returnMode] <;> (repeat' split) <;> simp
@[simp] theorem State.returnMode_plans (s : State) :
    (s.returnMode).plans = s.plans := by simp only [State.returnMode] <;> (repeat' split) <;> simp
@[simp] theorem State.returnMode_stages (s : State) :
    (s.returnMode).stages = s.stages := by simp only [State.returnMode] <;> (repeat' split) <;> simp
@[simp] theorem State.returnMode_schedule (s : State) :
    (s.returnMode).schedule = s.schedule := by simp only [State.returnMode] <;> (repeat' split) <;> simp
@[simp] theorem State.returnMode_detectors (s : State) :
    (s.returnMode).detectors = s.detectors := by simp only [State.returnMode] <;> (repeat' split) <;> simp
@[simp] theorem State.returnMode_junctionRev (s : State) :
    (s.returnMode).junctionRev = s.junctionRev := by simp only [State.returnMode] <;> (repeat' split) <;> simp
@[simp] theorem State.returnMode_counted (s : State) :
    (s.returnMode).counted = s.counted := by simp only [State.returnMode] <;> (repeat' split) <;> simp

@[simp] theorem State.mainsReturn_pending (s : State) :
    (s.mainsReturn).pending = s.pending := by simp only [State.mainsReturn] <;> (repeat' split) <;> simp
@[simp] theorem State.mainsReturn_link (s : State) :
    (s.mainsReturn).link = s.link := by simp only [State.mainsReturn] <;> (repeat' split) <;> simp
@[simp] theorem State.mainsReturn_base (s : State) :
    (s.mainsReturn).base = s.base := by simp only [State.mainsReturn] <;> (repeat' split) <;> simp
@[simp] theorem State.mainsReturn_sched (s : State) :
    (s.mainsReturn).sched = s.sched := by simp only [State.mainsReturn] <;> (repeat' split) <;> simp
@[simp] theorem State.mainsReturn_sampler (s : State) :
    (s.mainsReturn).sampler = s.sampler := by simp only [State.mainsReturn] <;> (repeat' split) <;> simp
@[simp] theorem State.mainsReturn_conflicts (s : State) :
    (s.mainsReturn).conflicts = s.conflicts := by simp only [State.mainsReturn] <;> (repeat' split) <;> simp
@[simp] theorem State.mainsReturn_channels (s : State) :
    (s.mainsReturn).channels = s.channels := by simp only [State.mainsReturn] <;> (repeat' split) <;> simp
@[simp] theorem State.mainsReturn_profiles (s : State) :
    (s.mainsReturn).profiles = s.profiles := by simp only [State.mainsReturn] <;> (repeat' split) <;> simp
@[simp] theorem State.mainsReturn_plans (s : State) :
    (s.mainsReturn).plans = s.plans := by simp only [State.mainsReturn] <;> (repeat' split) <;> simp
@[simp] theorem State.mainsReturn_stages (s : State) :
    (s.mainsReturn).stages = s.stages := by simp only [State.mainsReturn] <;> (repeat' split) <;> simp
@[simp] theorem State.mainsReturn_schedule (s : State) :
    (s.mainsReturn).schedule = s.schedule := by simp only [State.mainsReturn] <;> (repeat' split) <;> simp
@[simp] theorem State.mainsReturn_detectors (s : State) :
    (s.mainsReturn).detectors = s.detectors := by simp only [State.mainsReturn] <;> (repeat' split) <;> simp
@[simp] theorem State.mainsReturn_counted (s : State) :
    (s.mainsReturn).counted = s.counted := by simp only [State.mainsReturn] <;> (repeat' split) <;> simp

@[simp] theorem State.workOutRequested_pending (s : State) :
    (s.workOutRequested).pending = s.pending := by simp [State.workOutRequested]
@[simp] theorem State.workOutRequested_link (s : State) :
    (s.workOutRequested).link = s.link := by simp [State.workOutRequested]
@[simp] theorem State.workOutRequested_base (s : State) :
    (s.workOutRequested).base = s.base := by simp [State.workOutRequested]
@[simp] theorem State.workOutRequested_sampler (s : State) :
    (s.workOutRequested).sampler = s.sampler := by simp [State.workOutRequested]
@[simp] theorem State.workOutRequested_bridge (s : State) :
    (s.workOutRequested).bridge = s.bridge := by simp [State.workOutRequested]
@[simp] theorem State.workOutRequested_conflicts (s : State) :
    (s.workOutRequested).conflicts = s.conflicts := by simp [State.workOutRequested]
@[simp] theorem State.workOutRequested_channels (s : State) :
    (s.workOutRequested).channels = s.channels := by simp [State.workOutRequested]
@[simp] theorem State.workOutRequested_profiles (s : State) :
    (s.workOutRequested).profiles = s.profiles := by simp [State.workOutRequested]
@[simp] theorem State.workOutRequested_cables (s : State) :
    (s.workOutRequested).cables = s.cables := by simp [State.workOutRequested]
@[simp] theorem State.workOutRequested_plans (s : State) :
    (s.workOutRequested).plans = s.plans := by simp [State.workOutRequested]
@[simp] theorem State.workOutRequested_stages (s : State) :
    (s.workOutRequested).stages = s.stages := by simp [State.workOutRequested]
@[simp] theorem State.workOutRequested_schedule (s : State) :
    (s.workOutRequested).schedule = s.schedule := by simp [State.workOutRequested]
@[simp] theorem State.workOutRequested_detectors (s : State) :
    (s.workOutRequested).detectors = s.detectors := by simp [State.workOutRequested]
@[simp] theorem State.workOutRequested_junctionRev (s : State) :
    (s.workOutRequested).junctionRev = s.junctionRev := by simp [State.workOutRequested]
@[simp] theorem State.workOutRequested_counted (s : State) :
    (s.workOutRequested).counted = s.counted := by simp [State.workOutRequested]

@[simp] theorem State.changeDimming_pending (s : State) (d : Dimming) :
    (s.changeDimming d).pending = s.pending := by simp [State.changeDimming]
@[simp] theorem State.changeDimming_link (s : State) (d : Dimming) :
    (s.changeDimming d).link = s.link := by simp [State.changeDimming]
@[simp] theorem State.changeDimming_base (s : State) (d : Dimming) :
    (s.changeDimming d).base = s.base := by simp [State.changeDimming]
@[simp] theorem State.changeDimming_seq (s : State) (d : Dimming) :
    (s.changeDimming d).seq = s.seq := by simp [State.changeDimming]
@[simp] theorem State.changeDimming_sampler (s : State) (d : Dimming) :
    (s.changeDimming d).sampler = s.sampler := by simp [State.changeDimming]
@[simp] theorem State.changeDimming_sup (s : State) (d : Dimming) :
    (s.changeDimming d).sup = s.sup := by simp [State.changeDimming]
@[simp] theorem State.changeDimming_bridge (s : State) (d : Dimming) :
    (s.changeDimming d).bridge = s.bridge := by simp [State.changeDimming]
@[simp] theorem State.changeDimming_attn (s : State) (d : Dimming) :
    (s.changeDimming d).attn = s.attn := by simp [State.changeDimming]
@[simp] theorem State.changeDimming_port (s : State) (d : Dimming) :
    (s.changeDimming d).port = s.port := by simp [State.changeDimming]
@[simp] theorem State.changeDimming_groups (s : State) (d : Dimming) :
    (s.changeDimming d).groups = s.groups := by simp [State.changeDimming]
@[simp] theorem State.changeDimming_conflicts (s : State) (d : Dimming) :
    (s.changeDimming d).conflicts = s.conflicts := by simp [State.changeDimming]
@[simp] theorem State.changeDimming_profiles (s : State) (d : Dimming) :
    (s.changeDimming d).profiles = s.profiles := by simp [State.changeDimming]
@[simp] theorem State.changeDimming_cables (s : State) (d : Dimming) :
    (s.changeDimming d).cables = s.cables := by simp [State.changeDimming]
@[simp] theorem State.changeDimming_plans (s : State) (d : Dimming) :
    (s.changeDimming d).plans = s.plans := by simp [State.changeDimming]
@[simp] theorem State.changeDimming_stages (s : State) (d : Dimming) :
    (s.changeDimming d).stages = s.stages := by simp [State.changeDimming]
@[simp] theorem State.changeDimming_schedule (s : State) (d : Dimming) :
    (s.changeDimming d).schedule = s.schedule := by simp [State.changeDimming]
@[simp] theorem State.changeDimming_detectors (s : State) (d : Dimming) :
    (s.changeDimming d).detectors = s.detectors := by simp [State.changeDimming]
@[simp] theorem State.changeDimming_junctionRev (s : State) (d : Dimming) :
    (s.changeDimming d).junctionRev = s.junctionRev := by simp [State.changeDimming]
@[simp] theorem State.changeDimming_counted (s : State) (d : Dimming) :
    (s.changeDimming d).counted = s.counted := by simp [State.changeDimming]

@[simp] theorem State.workOutDimming_pending (s : State) :
    (s.workOutDimming).pending = s.pending := by simp only [State.workOutDimming] <;> (repeat' split) <;> simp
@[simp] theorem State.workOutDimming_link (s : State) :
    (s.workOutDimming).link = s.link := by simp only [State.workOutDimming] <;> (repeat' split) <;> simp
@[simp] theorem State.workOutDimming_base (s : State) :
    (s.workOutDimming).base = s.base := by simp only [State.workOutDimming] <;> (repeat' split) <;> simp
@[simp] theorem State.workOutDimming_seq (s : State) :
    (s.workOutDimming).seq = s.seq := by simp only [State.workOutDimming] <;> (repeat' split) <;> simp
@[simp] theorem State.workOutDimming_sampler (s : State) :
    (s.workOutDimming).sampler = s.sampler := by simp only [State.workOutDimming] <;> (repeat' split) <;> simp
@[simp] theorem State.workOutDimming_sup (s : State) :
    (s.workOutDimming).sup = s.sup := by simp only [State.workOutDimming] <;> (repeat' split) <;> simp
@[simp] theorem State.workOutDimming_bridge (s : State) :
    (s.workOutDimming).bridge = s.bridge := by simp only [State.workOutDimming] <;> (repeat' split) <;> simp
@[simp] theorem State.workOutDimming_attn (s : State) :
    (s.workOutDimming).attn = s.attn := by simp only [State.workOutDimming] <;> (repeat' split) <;> simp
@[simp] theorem State.workOutDimming_port (s : State) :
    (s.workOutDimming).port = s.port := by simp only [State.workOutDimming] <;> (repeat' split) <;> simp
@[simp] theorem State.workOutDimming_groups (s : State) :
    (s.workOutDimming).groups = s.groups := by simp only [State.workOutDimming] <;> (repeat' split) <;> simp
@[simp] theorem State.workOutDimming_conflicts (s : State) :
    (s.workOutDimming).conflicts = s.conflicts := by simp only [State.workOutDimming] <;> (repeat' split) <;> simp
@[simp] theorem State.workOutDimming_profiles (s : State) :
    (s.workOutDimming).profiles = s.profiles := by simp only [State.workOutDimming] <;> (repeat' split) <;> simp
@[simp] theorem State.workOutDimming_cables (s : State) :
    (s.workOutDimming).cables = s.cables := by simp only [State.workOutDimming] <;> (repeat' split) <;> simp
@[simp] theorem State.workOutDimming_plans (s : State) :
    (s.workOutDimming).plans = s.plans := by simp only [State.workOutDimming] <;> (repeat' split) <;> simp
@[simp] theorem State.workOutDimming_stages (s : State) :
    (s.workOutDimming).stages = s.stages := by simp only [State.workOutDimming] <;> (repeat' split) <;> simp
@[simp] theorem State.workOutDimming_schedule (s : State) :
    (s.workOutDimming).schedule = s.schedule := by simp only [State.workOutDimming] <;> (repeat' split) <;> simp
@[simp] theorem State.workOutDimming_detectors (s : State) :
    (s.workOutDimming).detectors = s.detectors := by simp only [State.workOutDimming] <;> (repeat' split) <;> simp
@[simp] theorem State.workOutDimming_junctionRev (s : State) :
    (s.workOutDimming).junctionRev = s.junctionRev := by simp only [State.workOutDimming] <;> (repeat' split) <;> simp
@[simp] theorem State.workOutDimming_counted (s : State) :
    (s.workOutDimming).counted = s.counted := by simp only [State.workOutDimming] <;> (repeat' split) <;> simp

@[simp] theorem State.schedulePlan_pending (s : State) (p : Fin 8) (d : Dimming) :
    (s.schedulePlan p d).pending = s.pending := by simp [State.schedulePlan]
@[simp] theorem State.schedulePlan_link (s : State) (p : Fin 8) (d : Dimming) :
    (s.schedulePlan p d).link = s.link := by simp [State.schedulePlan]
@[simp] theorem State.schedulePlan_base (s : State) (p : Fin 8) (d : Dimming) :
    (s.schedulePlan p d).base = s.base := by simp [State.schedulePlan]
@[simp] theorem State.schedulePlan_sampler (s : State) (p : Fin 8) (d : Dimming) :
    (s.schedulePlan p d).sampler = s.sampler := by simp [State.schedulePlan]
@[simp] theorem State.schedulePlan_bridge (s : State) (p : Fin 8) (d : Dimming) :
    (s.schedulePlan p d).bridge = s.bridge := by simp [State.schedulePlan]
@[simp] theorem State.schedulePlan_conflicts (s : State) (p : Fin 8) (d : Dimming) :
    (s.schedulePlan p d).conflicts = s.conflicts := by simp [State.schedulePlan]
@[simp] theorem State.schedulePlan_channels (s : State) (p : Fin 8) (d : Dimming) :
    (s.schedulePlan p d).channels = s.channels := by simp [State.schedulePlan]
@[simp] theorem State.schedulePlan_profiles (s : State) (p : Fin 8) (d : Dimming) :
    (s.schedulePlan p d).profiles = s.profiles := by simp [State.schedulePlan]
@[simp] theorem State.schedulePlan_cables (s : State) (p : Fin 8) (d : Dimming) :
    (s.schedulePlan p d).cables = s.cables := by simp [State.schedulePlan]
@[simp] theorem State.schedulePlan_plans (s : State) (p : Fin 8) (d : Dimming) :
    (s.schedulePlan p d).plans = s.plans := by simp [State.schedulePlan]
@[simp] theorem State.schedulePlan_stages (s : State) (p : Fin 8) (d : Dimming) :
    (s.schedulePlan p d).stages = s.stages := by simp [State.schedulePlan]
@[simp] theorem State.schedulePlan_schedule (s : State) (p : Fin 8) (d : Dimming) :
    (s.schedulePlan p d).schedule = s.schedule := by simp [State.schedulePlan]
@[simp] theorem State.schedulePlan_detectors (s : State) (p : Fin 8) (d : Dimming) :
    (s.schedulePlan p d).detectors = s.detectors := by simp [State.schedulePlan]
@[simp] theorem State.schedulePlan_junctionRev (s : State) (p : Fin 8) (d : Dimming) :
    (s.schedulePlan p d).junctionRev = s.junctionRev := by simp [State.schedulePlan]
@[simp] theorem State.schedulePlan_counted (s : State) (p : Fin 8) (d : Dimming) :
    (s.schedulePlan p d).counted = s.counted := by simp [State.schedulePlan]

@[simp] theorem State.setScheduled_pending (s : State) (p : Fin 8) (d : Dimming) :
    (s.setScheduled p d).pending = s.pending := by simp [State.setScheduled]
@[simp] theorem State.setScheduled_link (s : State) (p : Fin 8) (d : Dimming) :
    (s.setScheduled p d).link = s.link := by simp [State.setScheduled]
@[simp] theorem State.setScheduled_base (s : State) (p : Fin 8) (d : Dimming) :
    (s.setScheduled p d).base = s.base := by simp [State.setScheduled]
@[simp] theorem State.setScheduled_sampler (s : State) (p : Fin 8) (d : Dimming) :
    (s.setScheduled p d).sampler = s.sampler := by simp [State.setScheduled]
@[simp] theorem State.setScheduled_bridge (s : State) (p : Fin 8) (d : Dimming) :
    (s.setScheduled p d).bridge = s.bridge := by simp [State.setScheduled]
@[simp] theorem State.setScheduled_conflicts (s : State) (p : Fin 8) (d : Dimming) :
    (s.setScheduled p d).conflicts = s.conflicts := by simp [State.setScheduled]
@[simp] theorem State.setScheduled_profiles (s : State) (p : Fin 8) (d : Dimming) :
    (s.setScheduled p d).profiles = s.profiles := by simp [State.setScheduled]
@[simp] theorem State.setScheduled_plans (s : State) (p : Fin 8) (d : Dimming) :
    (s.setScheduled p d).plans = s.plans := by simp [State.setScheduled]
@[simp] theorem State.setScheduled_stages (s : State) (p : Fin 8) (d : Dimming) :
    (s.setScheduled p d).stages = s.stages := by simp [State.setScheduled]
@[simp] theorem State.setScheduled_schedule (s : State) (p : Fin 8) (d : Dimming) :
    (s.setScheduled p d).schedule = s.schedule := by simp [State.setScheduled]
@[simp] theorem State.setScheduled_detectors (s : State) (p : Fin 8) (d : Dimming) :
    (s.setScheduled p d).detectors = s.detectors := by simp [State.setScheduled]
@[simp] theorem State.setScheduled_counted (s : State) (p : Fin 8) (d : Dimming) :
    (s.setScheduled p d).counted = s.counted := by simp [State.setScheduled]

@[simp] theorem State.minuteBoundary_pending (s : State) :
    (s.minuteBoundary).pending = s.pending := by simp only [State.minuteBoundary] <;> (repeat' split) <;> simp
@[simp] theorem State.minuteBoundary_link (s : State) :
    (s.minuteBoundary).link = s.link := by simp only [State.minuteBoundary] <;> (repeat' split) <;> simp
@[simp] theorem State.minuteBoundary_base (s : State) :
    (s.minuteBoundary).base = s.base := by simp only [State.minuteBoundary] <;> (repeat' split) <;> simp
@[simp] theorem State.minuteBoundary_sampler (s : State) :
    (s.minuteBoundary).sampler = s.sampler := by simp only [State.minuteBoundary] <;> (repeat' split) <;> simp
@[simp] theorem State.minuteBoundary_bridge (s : State) :
    (s.minuteBoundary).bridge = s.bridge := by simp only [State.minuteBoundary] <;> (repeat' split) <;> simp
@[simp] theorem State.minuteBoundary_conflicts (s : State) :
    (s.minuteBoundary).conflicts = s.conflicts := by simp only [State.minuteBoundary] <;> (repeat' split) <;> simp
@[simp] theorem State.minuteBoundary_profiles (s : State) :
    (s.minuteBoundary).profiles = s.profiles := by simp only [State.minuteBoundary] <;> (repeat' split) <;> simp
@[simp] theorem State.minuteBoundary_plans (s : State) :
    (s.minuteBoundary).plans = s.plans := by simp only [State.minuteBoundary] <;> (repeat' split) <;> simp
@[simp] theorem State.minuteBoundary_stages (s : State) :
    (s.minuteBoundary).stages = s.stages := by simp only [State.minuteBoundary] <;> (repeat' split) <;> simp
@[simp] theorem State.minuteBoundary_schedule (s : State) :
    (s.minuteBoundary).schedule = s.schedule := by simp only [State.minuteBoundary] <;> (repeat' split) <;> simp
@[simp] theorem State.minuteBoundary_detectors (s : State) :
    (s.minuteBoundary).detectors = s.detectors := by simp only [State.minuteBoundary] <;> (repeat' split) <;> simp
@[simp] theorem State.minuteBoundary_counted (s : State) :
    (s.minuteBoundary).counted = s.counted := by simp only [State.minuteBoundary] <;> (repeat' split) <;> simp

@[simp] theorem State.workOutEntry_pending (s : State) :
    (s.workOutEntry).pending = s.pending := by simp only [State.workOutEntry] <;> (repeat' split) <;> simp
@[simp] theorem State.workOutEntry_link (s : State) :
    (s.workOutEntry).link = s.link := by simp only [State.workOutEntry] <;> (repeat' split) <;> simp
@[simp] theorem State.workOutEntry_base (s : State) :
    (s.workOutEntry).base = s.base := by simp only [State.workOutEntry] <;> (repeat' split) <;> simp
@[simp] theorem State.workOutEntry_sampler (s : State) :
    (s.workOutEntry).sampler = s.sampler := by simp only [State.workOutEntry] <;> (repeat' split) <;> simp
@[simp] theorem State.workOutEntry_bridge (s : State) :
    (s.workOutEntry).bridge = s.bridge := by simp only [State.workOutEntry] <;> (repeat' split) <;> simp
@[simp] theorem State.workOutEntry_conflicts (s : State) :
    (s.workOutEntry).conflicts = s.conflicts := by simp only [State.workOutEntry] <;> (repeat' split) <;> simp
@[simp] theorem State.workOutEntry_profiles (s : State) :
    (s.workOutEntry).profiles = s.profiles := by simp only [State.workOutEntry] <;> (repeat' split) <;> simp
@[simp] theorem State.workOutEntry_plans (s : State) :
    (s.workOutEntry).plans = s.plans := by simp only [State.workOutEntry] <;> (repeat' split) <;> simp
@[simp] theorem State.workOutEntry_stages (s : State) :
    (s.workOutEntry).stages = s.stages := by simp only [State.workOutEntry] <;> (repeat' split) <;> simp
@[simp] theorem State.workOutEntry_schedule (s : State) :
    (s.workOutEntry).schedule = s.schedule := by simp only [State.workOutEntry] <;> (repeat' split) <;> simp
@[simp] theorem State.workOutEntry_detectors (s : State) :
    (s.workOutEntry).detectors = s.detectors := by simp only [State.workOutEntry] <;> (repeat' split) <;> simp
@[simp] theorem State.workOutEntry_counted (s : State) :
    (s.workOutEntry).counted = s.counted := by simp only [State.workOutEntry] <;> (repeat' split) <;> simp

@[simp] theorem State.clockTenth_pending (s : State) :
    (s.clockTenth).pending = s.pending := by simp only [State.clockTenth] <;> (repeat' split) <;> simp
@[simp] theorem State.clockTenth_link (s : State) :
    (s.clockTenth).link = s.link := by simp only [State.clockTenth] <;> (repeat' split) <;> simp
@[simp] theorem State.clockTenth_sampler (s : State) :
    (s.clockTenth).sampler = s.sampler := by simp only [State.clockTenth] <;> (repeat' split) <;> simp
@[simp] theorem State.clockTenth_bridge (s : State) :
    (s.clockTenth).bridge = s.bridge := by simp only [State.clockTenth] <;> (repeat' split) <;> simp
@[simp] theorem State.clockTenth_conflicts (s : State) :
    (s.clockTenth).conflicts = s.conflicts := by simp only [State.clockTenth] <;> (repeat' split) <;> simp
@[simp] theorem State.clockTenth_profiles (s : State) :
    (s.clockTenth).profiles = s.profiles := by simp only [State.clockTenth] <;> (repeat' split) <;> simp
@[simp] theorem State.clockTenth_plans (s : State) :
    (s.clockTenth).plans = s.plans := by simp only [State.clockTenth] <;> (repeat' split) <;> simp
@[simp] theorem State.clockTenth_stages (s : State) :
    (s.clockTenth).stages = s.stages := by simp only [State.clockTenth] <;> (repeat' split) <;> simp
@[simp] theorem State.clockTenth_schedule (s : State) :
    (s.clockTenth).schedule = s.schedule := by simp only [State.clockTenth] <;> (repeat' split) <;> simp
@[simp] theorem State.clockTenth_detectors (s : State) :
    (s.clockTenth).detectors = s.detectors := by simp only [State.clockTenth] <;> (repeat' split) <;> simp
@[simp] theorem State.clockTenth_counted (s : State) :
    (s.clockTenth).counted = s.counted := by simp only [State.clockTenth] <;> (repeat' split) <;> simp

@[simp] theorem State.beginGreen_pending (s : State) (b : Fin 96) :
    (s.beginGreen b).pending = s.pending := by simp only [State.beginGreen] <;> (repeat' split) <;> simp
@[simp] theorem State.beginGreen_link (s : State) (b : Fin 96) :
    (s.beginGreen b).link = s.link := by simp only [State.beginGreen] <;> (repeat' split) <;> simp
@[simp] theorem State.beginGreen_base (s : State) (b : Fin 96) :
    (s.beginGreen b).base = s.base := by simp only [State.beginGreen] <;> (repeat' split) <;> simp
@[simp] theorem State.beginGreen_sched (s : State) (b : Fin 96) :
    (s.beginGreen b).sched = s.sched := by simp only [State.beginGreen] <;> (repeat' split) <;> simp
@[simp] theorem State.beginGreen_sampler (s : State) (b : Fin 96) :
    (s.beginGreen b).sampler = s.sampler := by simp only [State.beginGreen] <;> (repeat' split) <;> simp
@[simp] theorem State.beginGreen_sup (s : State) (b : Fin 96) :
    (s.beginGreen b).sup = s.sup := by simp only [State.beginGreen] <;> (repeat' split) <;> simp
@[simp] theorem State.beginGreen_bridge (s : State) (b : Fin 96) :
    (s.beginGreen b).bridge = s.bridge := by simp only [State.beginGreen] <;> (repeat' split) <;> simp
@[simp] theorem State.beginGreen_attn (s : State) (b : Fin 96) :
    (s.beginGreen b).attn = s.attn := by simp only [State.beginGreen] <;> (repeat' split) <;> simp
@[simp] theorem State.beginGreen_port (s : State) (b : Fin 96) :
    (s.beginGreen b).port = s.port := by simp only [State.beginGreen] <;> (repeat' split) <;> simp
@[simp] theorem State.beginGreen_groups (s : State) (b : Fin 96) :
    (s.beginGreen b).groups = s.groups := by simp only [State.beginGreen] <;> (repeat' split) <;> simp
@[simp] theorem State.beginGreen_conflicts (s : State) (b : Fin 96) :
    (s.beginGreen b).conflicts = s.conflicts := by simp only [State.beginGreen] <;> (repeat' split) <;> simp
@[simp] theorem State.beginGreen_channels (s : State) (b : Fin 96) :
    (s.beginGreen b).channels = s.channels := by simp only [State.beginGreen] <;> (repeat' split) <;> simp
@[simp] theorem State.beginGreen_profiles (s : State) (b : Fin 96) :
    (s.beginGreen b).profiles = s.profiles := by simp only [State.beginGreen] <;> (repeat' split) <;> simp
@[simp] theorem State.beginGreen_cables (s : State) (b : Fin 96) :
    (s.beginGreen b).cables = s.cables := by simp only [State.beginGreen] <;> (repeat' split) <;> simp
@[simp] theorem State.beginGreen_plans (s : State) (b : Fin 96) :
    (s.beginGreen b).plans = s.plans := by simp only [State.beginGreen] <;> (repeat' split) <;> simp
@[simp] theorem State.beginGreen_stages (s : State) (b : Fin 96) :
    (s.beginGreen b).stages = s.stages := by simp only [State.beginGreen] <;> (repeat' split) <;> simp
@[simp] theorem State.beginGreen_schedule (s : State) (b : Fin 96) :
    (s.beginGreen b).schedule = s.schedule := by simp only [State.beginGreen] <;> (repeat' split) <;> simp
@[simp] theorem State.beginGreen_junctionRev (s : State) (b : Fin 96) :
    (s.beginGreen b).junctionRev = s.junctionRev := by simp only [State.beginGreen] <;> (repeat' split) <;> simp
@[simp] theorem State.beginGreen_counted (s : State) (b : Fin 96) :
    (s.beginGreen b).counted = s.counted := by simp only [State.beginGreen] <;> (repeat' split) <;> simp

@[simp] theorem State.endInterstage_pending (s : State) :
    (s.endInterstage).pending = s.pending := by simp only [State.endInterstage] <;> (repeat' split) <;> simp
@[simp] theorem State.endInterstage_link (s : State) :
    (s.endInterstage).link = s.link := by simp only [State.endInterstage] <;> (repeat' split) <;> simp
@[simp] theorem State.endInterstage_base (s : State) :
    (s.endInterstage).base = s.base := by simp only [State.endInterstage] <;> (repeat' split) <;> simp
@[simp] theorem State.endInterstage_sched (s : State) :
    (s.endInterstage).sched = s.sched := by simp only [State.endInterstage] <;> (repeat' split) <;> simp
@[simp] theorem State.endInterstage_sampler (s : State) :
    (s.endInterstage).sampler = s.sampler := by simp only [State.endInterstage] <;> (repeat' split) <;> simp
@[simp] theorem State.endInterstage_sup (s : State) :
    (s.endInterstage).sup = s.sup := by simp only [State.endInterstage] <;> (repeat' split) <;> simp
@[simp] theorem State.endInterstage_bridge (s : State) :
    (s.endInterstage).bridge = s.bridge := by simp only [State.endInterstage] <;> (repeat' split) <;> simp
@[simp] theorem State.endInterstage_attn (s : State) :
    (s.endInterstage).attn = s.attn := by simp only [State.endInterstage] <;> (repeat' split) <;> simp
@[simp] theorem State.endInterstage_port (s : State) :
    (s.endInterstage).port = s.port := by simp only [State.endInterstage] <;> (repeat' split) <;> simp
@[simp] theorem State.endInterstage_groups (s : State) :
    (s.endInterstage).groups = s.groups := by simp only [State.endInterstage] <;> (repeat' split) <;> simp
@[simp] theorem State.endInterstage_conflicts (s : State) :
    (s.endInterstage).conflicts = s.conflicts := by simp only [State.endInterstage] <;> (repeat' split) <;> simp
@[simp] theorem State.endInterstage_channels (s : State) :
    (s.endInterstage).channels = s.channels := by simp only [State.endInterstage] <;> (repeat' split) <;> simp
@[simp] theorem State.endInterstage_profiles (s : State) :
    (s.endInterstage).profiles = s.profiles := by simp only [State.endInterstage] <;> (repeat' split) <;> simp
@[simp] theorem State.endInterstage_cables (s : State) :
    (s.endInterstage).cables = s.cables := by simp only [State.endInterstage] <;> (repeat' split) <;> simp
@[simp] theorem State.endInterstage_plans (s : State) :
    (s.endInterstage).plans = s.plans := by simp only [State.endInterstage] <;> (repeat' split) <;> simp
@[simp] theorem State.endInterstage_stages (s : State) :
    (s.endInterstage).stages = s.stages := by simp only [State.endInterstage] <;> (repeat' split) <;> simp
@[simp] theorem State.endInterstage_schedule (s : State) :
    (s.endInterstage).schedule = s.schedule := by simp only [State.endInterstage] <;> (repeat' split) <;> simp
@[simp] theorem State.endInterstage_junctionRev (s : State) :
    (s.endInterstage).junctionRev = s.junctionRev := by simp only [State.endInterstage] <;> (repeat' split) <;> simp
@[simp] theorem State.endInterstage_counted (s : State) :
    (s.endInterstage).counted = s.counted := by simp only [State.endInterstage] <;> (repeat' split) <;> simp

@[simp] theorem State.interstageStep_pending (s : State) :
    (s.interstageStep).pending = s.pending := by simp only [State.interstageStep] <;> (repeat' split) <;> simp
@[simp] theorem State.interstageStep_link (s : State) :
    (s.interstageStep).link = s.link := by simp only [State.interstageStep] <;> (repeat' split) <;> simp
@[simp] theorem State.interstageStep_base (s : State) :
    (s.interstageStep).base = s.base := by simp only [State.interstageStep] <;> (repeat' split) <;> simp
@[simp] theorem State.interstageStep_sched (s : State) :
    (s.interstageStep).sched = s.sched := by simp only [State.interstageStep] <;> (repeat' split) <;> simp
@[simp] theorem State.interstageStep_sampler (s : State) :
    (s.interstageStep).sampler = s.sampler := by simp only [State.interstageStep] <;> (repeat' split) <;> simp
@[simp] theorem State.interstageStep_sup (s : State) :
    (s.interstageStep).sup = s.sup := by simp only [State.interstageStep] <;> (repeat' split) <;> simp
@[simp] theorem State.interstageStep_bridge (s : State) :
    (s.interstageStep).bridge = s.bridge := by simp only [State.interstageStep] <;> (repeat' split) <;> simp
@[simp] theorem State.interstageStep_attn (s : State) :
    (s.interstageStep).attn = s.attn := by simp only [State.interstageStep] <;> (repeat' split) <;> simp
@[simp] theorem State.interstageStep_port (s : State) :
    (s.interstageStep).port = s.port := by simp only [State.interstageStep] <;> (repeat' split) <;> simp
@[simp] theorem State.interstageStep_conflicts (s : State) :
    (s.interstageStep).conflicts = s.conflicts := by simp only [State.interstageStep] <;> (repeat' split) <;> simp
@[simp] theorem State.interstageStep_channels (s : State) :
    (s.interstageStep).channels = s.channels := by simp only [State.interstageStep] <;> (repeat' split) <;> simp
@[simp] theorem State.interstageStep_profiles (s : State) :
    (s.interstageStep).profiles = s.profiles := by simp only [State.interstageStep] <;> (repeat' split) <;> simp
@[simp] theorem State.interstageStep_cables (s : State) :
    (s.interstageStep).cables = s.cables := by simp only [State.interstageStep] <;> (repeat' split) <;> simp
@[simp] theorem State.interstageStep_plans (s : State) :
    (s.interstageStep).plans = s.plans := by simp only [State.interstageStep] <;> (repeat' split) <;> simp
@[simp] theorem State.interstageStep_stages (s : State) :
    (s.interstageStep).stages = s.stages := by simp only [State.interstageStep] <;> (repeat' split) <;> simp
@[simp] theorem State.interstageStep_schedule (s : State) :
    (s.interstageStep).schedule = s.schedule := by simp only [State.interstageStep] <;> (repeat' split) <;> simp
@[simp] theorem State.interstageStep_junctionRev (s : State) :
    (s.interstageStep).junctionRev = s.junctionRev := by simp only [State.interstageStep] <;> (repeat' split) <;> simp
@[simp] theorem State.interstageStep_counted (s : State) :
    (s.interstageStep).counted = s.counted := by simp only [State.interstageStep] <;> (repeat' split) <;> simp

@[simp] theorem State.workGreen_pending (s : State) :
    (s.workGreen).pending = s.pending := by simp only [State.workGreen] <;> (repeat' split) <;> simp
@[simp] theorem State.workGreen_link (s : State) :
    (s.workGreen).link = s.link := by simp only [State.workGreen] <;> (repeat' split) <;> simp
@[simp] theorem State.workGreen_base (s : State) :
    (s.workGreen).base = s.base := by simp only [State.workGreen] <;> (repeat' split) <;> simp
@[simp] theorem State.workGreen_sched (s : State) :
    (s.workGreen).sched = s.sched := by simp only [State.workGreen] <;> (repeat' split) <;> simp
@[simp] theorem State.workGreen_sampler (s : State) :
    (s.workGreen).sampler = s.sampler := by simp only [State.workGreen] <;> (repeat' split) <;> simp
@[simp] theorem State.workGreen_sup (s : State) :
    (s.workGreen).sup = s.sup := by simp only [State.workGreen] <;> (repeat' split) <;> simp
@[simp] theorem State.workGreen_bridge (s : State) :
    (s.workGreen).bridge = s.bridge := by simp only [State.workGreen] <;> (repeat' split) <;> simp
@[simp] theorem State.workGreen_attn (s : State) :
    (s.workGreen).attn = s.attn := by simp only [State.workGreen] <;> (repeat' split) <;> simp
@[simp] theorem State.workGreen_port (s : State) :
    (s.workGreen).port = s.port := by simp only [State.workGreen] <;> (repeat' split) <;> simp
@[simp] theorem State.workGreen_groups (s : State) :
    (s.workGreen).groups = s.groups := by simp only [State.workGreen] <;> (repeat' split) <;> simp
@[simp] theorem State.workGreen_conflicts (s : State) :
    (s.workGreen).conflicts = s.conflicts := by simp only [State.workGreen] <;> (repeat' split) <;> simp
@[simp] theorem State.workGreen_channels (s : State) :
    (s.workGreen).channels = s.channels := by simp only [State.workGreen] <;> (repeat' split) <;> simp
@[simp] theorem State.workGreen_profiles (s : State) :
    (s.workGreen).profiles = s.profiles := by simp only [State.workGreen] <;> (repeat' split) <;> simp
@[simp] theorem State.workGreen_cables (s : State) :
    (s.workGreen).cables = s.cables := by simp only [State.workGreen] <;> (repeat' split) <;> simp
@[simp] theorem State.workGreen_plans (s : State) :
    (s.workGreen).plans = s.plans := by simp only [State.workGreen] <;> (repeat' split) <;> simp
@[simp] theorem State.workGreen_stages (s : State) :
    (s.workGreen).stages = s.stages := by simp only [State.workGreen] <;> (repeat' split) <;> simp
@[simp] theorem State.workGreen_schedule (s : State) :
    (s.workGreen).schedule = s.schedule := by simp only [State.workGreen] <;> (repeat' split) <;> simp
@[simp] theorem State.workGreen_detectors (s : State) :
    (s.workGreen).detectors = s.detectors := by simp only [State.workGreen] <;> (repeat' split) <;> simp
@[simp] theorem State.workGreen_junctionRev (s : State) :
    (s.workGreen).junctionRev = s.junctionRev := by simp only [State.workGreen] <;> (repeat' split) <;> simp
@[simp] theorem State.workGreen_counted (s : State) :
    (s.workGreen).counted = s.counted := by simp only [State.workGreen] <;> (repeat' split) <;> simp

@[simp] theorem State.freshGreen_pending (s : State) :
    (s.freshGreen).pending = s.pending := by simp only [State.freshGreen] <;> (repeat' split) <;> simp
@[simp] theorem State.freshGreen_link (s : State) :
    (s.freshGreen).link = s.link := by simp only [State.freshGreen] <;> (repeat' split) <;> simp
@[simp] theorem State.freshGreen_base (s : State) :
    (s.freshGreen).base = s.base := by simp only [State.freshGreen] <;> (repeat' split) <;> simp
@[simp] theorem State.freshGreen_sched (s : State) :
    (s.freshGreen).sched = s.sched := by simp only [State.freshGreen] <;> (repeat' split) <;> simp
@[simp] theorem State.freshGreen_sampler (s : State) :
    (s.freshGreen).sampler = s.sampler := by simp only [State.freshGreen] <;> (repeat' split) <;> simp
@[simp] theorem State.freshGreen_sup (s : State) :
    (s.freshGreen).sup = s.sup := by simp only [State.freshGreen] <;> (repeat' split) <;> simp
@[simp] theorem State.freshGreen_bridge (s : State) :
    (s.freshGreen).bridge = s.bridge := by simp only [State.freshGreen] <;> (repeat' split) <;> simp
@[simp] theorem State.freshGreen_attn (s : State) :
    (s.freshGreen).attn = s.attn := by simp only [State.freshGreen] <;> (repeat' split) <;> simp
@[simp] theorem State.freshGreen_port (s : State) :
    (s.freshGreen).port = s.port := by simp only [State.freshGreen] <;> (repeat' split) <;> simp
@[simp] theorem State.freshGreen_groups (s : State) :
    (s.freshGreen).groups = s.groups := by simp only [State.freshGreen] <;> (repeat' split) <;> simp
@[simp] theorem State.freshGreen_conflicts (s : State) :
    (s.freshGreen).conflicts = s.conflicts := by simp only [State.freshGreen] <;> (repeat' split) <;> simp
@[simp] theorem State.freshGreen_channels (s : State) :
    (s.freshGreen).channels = s.channels := by simp only [State.freshGreen] <;> (repeat' split) <;> simp
@[simp] theorem State.freshGreen_profiles (s : State) :
    (s.freshGreen).profiles = s.profiles := by simp only [State.freshGreen] <;> (repeat' split) <;> simp
@[simp] theorem State.freshGreen_cables (s : State) :
    (s.freshGreen).cables = s.cables := by simp only [State.freshGreen] <;> (repeat' split) <;> simp
@[simp] theorem State.freshGreen_plans (s : State) :
    (s.freshGreen).plans = s.plans := by simp only [State.freshGreen] <;> (repeat' split) <;> simp
@[simp] theorem State.freshGreen_stages (s : State) :
    (s.freshGreen).stages = s.stages := by simp only [State.freshGreen] <;> (repeat' split) <;> simp
@[simp] theorem State.freshGreen_schedule (s : State) :
    (s.freshGreen).schedule = s.schedule := by simp only [State.freshGreen] <;> (repeat' split) <;> simp
@[simp] theorem State.freshGreen_detectors (s : State) :
    (s.freshGreen).detectors = s.detectors := by simp only [State.freshGreen] <;> (repeat' split) <;> simp
@[simp] theorem State.freshGreen_junctionRev (s : State) :
    (s.freshGreen).junctionRev = s.junctionRev := by simp only [State.freshGreen] <;> (repeat' split) <;> simp
@[simp] theorem State.freshGreen_counted (s : State) :
    (s.freshGreen).counted = s.counted := by simp only [State.freshGreen] <;> (repeat' split) <;> simp

@[simp] theorem State.startTransition_pending (s : State) (a : Option (Fin 96)) (b : Fin 96) :
    (s.startTransition a b).pending = s.pending := by simp only [State.startTransition]; simp
@[simp] theorem State.startTransition_link (s : State) (a : Option (Fin 96)) (b : Fin 96) :
    (s.startTransition a b).link = s.link := by simp only [State.startTransition]; simp
@[simp] theorem State.startTransition_base (s : State) (a : Option (Fin 96)) (b : Fin 96) :
    (s.startTransition a b).base = s.base := by simp only [State.startTransition]; simp
@[simp] theorem State.startTransition_sched (s : State) (a : Option (Fin 96)) (b : Fin 96) :
    (s.startTransition a b).sched = s.sched := by simp only [State.startTransition]; simp
@[simp] theorem State.startTransition_sampler (s : State) (a : Option (Fin 96)) (b : Fin 96) :
    (s.startTransition a b).sampler = s.sampler := by simp only [State.startTransition]; simp
@[simp] theorem State.startTransition_sup (s : State) (a : Option (Fin 96)) (b : Fin 96) :
    (s.startTransition a b).sup = s.sup := by simp only [State.startTransition]; simp
@[simp] theorem State.startTransition_bridge (s : State) (a : Option (Fin 96)) (b : Fin 96) :
    (s.startTransition a b).bridge = s.bridge := by simp only [State.startTransition]; simp
@[simp] theorem State.startTransition_attn (s : State) (a : Option (Fin 96)) (b : Fin 96) :
    (s.startTransition a b).attn = s.attn := by simp only [State.startTransition]; simp
@[simp] theorem State.startTransition_port (s : State) (a : Option (Fin 96)) (b : Fin 96) :
    (s.startTransition a b).port = s.port := by simp only [State.startTransition]; simp
@[simp] theorem State.startTransition_conflicts (s : State) (a : Option (Fin 96)) (b : Fin 96) :
    (s.startTransition a b).conflicts = s.conflicts := by simp only [State.startTransition]; simp
@[simp] theorem State.startTransition_channels (s : State) (a : Option (Fin 96)) (b : Fin 96) :
    (s.startTransition a b).channels = s.channels := by simp only [State.startTransition]; simp
@[simp] theorem State.startTransition_profiles (s : State) (a : Option (Fin 96)) (b : Fin 96) :
    (s.startTransition a b).profiles = s.profiles := by simp only [State.startTransition]; simp
@[simp] theorem State.startTransition_cables (s : State) (a : Option (Fin 96)) (b : Fin 96) :
    (s.startTransition a b).cables = s.cables := by simp only [State.startTransition]; simp
@[simp] theorem State.startTransition_plans (s : State) (a : Option (Fin 96)) (b : Fin 96) :
    (s.startTransition a b).plans = s.plans := by simp only [State.startTransition]; simp
@[simp] theorem State.startTransition_stages (s : State) (a : Option (Fin 96)) (b : Fin 96) :
    (s.startTransition a b).stages = s.stages := by simp only [State.startTransition]; simp
@[simp] theorem State.startTransition_schedule (s : State) (a : Option (Fin 96)) (b : Fin 96) :
    (s.startTransition a b).schedule = s.schedule := by simp only [State.startTransition]; simp
@[simp] theorem State.startTransition_junctionRev (s : State) (a : Option (Fin 96)) (b : Fin 96) :
    (s.startTransition a b).junctionRev = s.junctionRev := by simp only [State.startTransition]; simp
@[simp] theorem State.startTransition_counted (s : State) (a : Option (Fin 96)) (b : Fin 96) :
    (s.startTransition a b).counted = s.counted := by simp only [State.startTransition]; simp

@[simp] theorem State.indicate_pending (s : State) :
    (s.indicate).pending = s.pending := by simp [State.indicate]
@[simp] theorem State.indicate_link (s : State) :
    (s.indicate).link = s.link := by simp [State.indicate]
@[simp] theorem State.indicate_base (s : State) :
    (s.indicate).base = s.base := by simp [State.indicate]
@[simp] theorem State.indicate_sched (s : State) :
    (s.indicate).sched = s.sched := by simp [State.indicate]
@[simp] theorem State.indicate_sampler (s : State) :
    (s.indicate).sampler = s.sampler := by simp [State.indicate]
@[simp] theorem State.indicate_bridge (s : State) :
    (s.indicate).bridge = s.bridge := by simp [State.indicate]
@[simp] theorem State.indicate_conflicts (s : State) :
    (s.indicate).conflicts = s.conflicts := by simp [State.indicate]
@[simp] theorem State.indicate_channels (s : State) :
    (s.indicate).channels = s.channels := by simp [State.indicate]
@[simp] theorem State.indicate_profiles (s : State) :
    (s.indicate).profiles = s.profiles := by simp [State.indicate]
@[simp] theorem State.indicate_cables (s : State) :
    (s.indicate).cables = s.cables := by simp [State.indicate]
@[simp] theorem State.indicate_plans (s : State) :
    (s.indicate).plans = s.plans := by simp [State.indicate]
@[simp] theorem State.indicate_stages (s : State) :
    (s.indicate).stages = s.stages := by simp [State.indicate]
@[simp] theorem State.indicate_schedule (s : State) :
    (s.indicate).schedule = s.schedule := by simp [State.indicate]
@[simp] theorem State.indicate_detectors (s : State) :
    (s.indicate).detectors = s.detectors := by simp [State.indicate]
@[simp] theorem State.indicate_junctionRev (s : State) :
    (s.indicate).junctionRev = s.junctionRev := by simp [State.indicate]
@[simp] theorem State.indicate_counted (s : State) :
    (s.indicate).counted = s.counted := by simp [State.indicate]

@[simp] theorem State.changePlan_pending (s : State) (c : Fin 96) (q : Fin 8) :
    (s.changePlan c q).pending = s.pending := by simp only [State.changePlan] <;> (repeat' split) <;> simp
@[simp] theorem State.changePlan_link (s : State) (c : Fin 96) (q : Fin 8) :
    (s.changePlan c q).link = s.link := by simp only [State.changePlan] <;> (repeat' split) <;> simp
@[simp] theorem State.changePlan_base (s : State) (c : Fin 96) (q : Fin 8) :
    (s.changePlan c q).base = s.base := by simp only [State.changePlan] <;> (repeat' split) <;> simp
@[simp] theorem State.changePlan_sched (s : State) (c : Fin 96) (q : Fin 8) :
    (s.changePlan c q).sched = s.sched := by simp only [State.changePlan] <;> (repeat' split) <;> simp
@[simp] theorem State.changePlan_sampler (s : State) (c : Fin 96) (q : Fin 8) :
    (s.changePlan c q).sampler = s.sampler := by simp only [State.changePlan] <;> (repeat' split) <;> simp
@[simp] theorem State.changePlan_bridge (s : State) (c : Fin 96) (q : Fin 8) :
    (s.changePlan c q).bridge = s.bridge := by simp only [State.changePlan] <;> (repeat' split) <;> simp
@[simp] theorem State.changePlan_conflicts (s : State) (c : Fin 96) (q : Fin 8) :
    (s.changePlan c q).conflicts = s.conflicts := by simp only [State.changePlan] <;> (repeat' split) <;> simp
@[simp] theorem State.changePlan_channels (s : State) (c : Fin 96) (q : Fin 8) :
    (s.changePlan c q).channels = s.channels := by simp only [State.changePlan] <;> (repeat' split) <;> simp
@[simp] theorem State.changePlan_profiles (s : State) (c : Fin 96) (q : Fin 8) :
    (s.changePlan c q).profiles = s.profiles := by simp only [State.changePlan] <;> (repeat' split) <;> simp
@[simp] theorem State.changePlan_cables (s : State) (c : Fin 96) (q : Fin 8) :
    (s.changePlan c q).cables = s.cables := by simp only [State.changePlan] <;> (repeat' split) <;> simp
@[simp] theorem State.changePlan_plans (s : State) (c : Fin 96) (q : Fin 8) :
    (s.changePlan c q).plans = s.plans := by simp only [State.changePlan] <;> (repeat' split) <;> simp
@[simp] theorem State.changePlan_stages (s : State) (c : Fin 96) (q : Fin 8) :
    (s.changePlan c q).stages = s.stages := by simp only [State.changePlan] <;> (repeat' split) <;> simp
@[simp] theorem State.changePlan_schedule (s : State) (c : Fin 96) (q : Fin 8) :
    (s.changePlan c q).schedule = s.schedule := by simp only [State.changePlan] <;> (repeat' split) <;> simp
@[simp] theorem State.changePlan_junctionRev (s : State) (c : Fin 96) (q : Fin 8) :
    (s.changePlan c q).junctionRev = s.junctionRev := by simp only [State.changePlan] <;> (repeat' split) <;> simp
@[simp] theorem State.changePlan_counted (s : State) (c : Fin 96) (q : Fin 8) :
    (s.changePlan c q).counted = s.counted := by simp only [State.changePlan] <;> (repeat' split) <;> simp

@[simp] theorem State.leaveStage_pending (s : State) :
    (s.leaveStage).pending = s.pending := by simp only [State.leaveStage] <;> (repeat' split) <;> simp
@[simp] theorem State.leaveStage_link (s : State) :
    (s.leaveStage).link = s.link := by simp only [State.leaveStage] <;> (repeat' split) <;> simp
@[simp] theorem State.leaveStage_base (s : State) :
    (s.leaveStage).base = s.base := by simp only [State.leaveStage] <;> (repeat' split) <;> simp
@[simp] theorem State.leaveStage_sched (s : State) :
    (s.leaveStage).sched = s.sched := by simp only [State.leaveStage] <;> (repeat' split) <;> simp
@[simp] theorem State.leaveStage_sampler (s : State) :
    (s.leaveStage).sampler = s.sampler := by simp only [State.leaveStage] <;> (repeat' split) <;> simp
@[simp] theorem State.leaveStage_bridge (s : State) :
    (s.leaveStage).bridge = s.bridge := by simp only [State.leaveStage] <;> (repeat' split) <;> simp
@[simp] theorem State.leaveStage_conflicts (s : State) :
    (s.leaveStage).conflicts = s.conflicts := by simp only [State.leaveStage] <;> (repeat' split) <;> simp
@[simp] theorem State.leaveStage_channels (s : State) :
    (s.leaveStage).channels = s.channels := by simp only [State.leaveStage] <;> (repeat' split) <;> simp
@[simp] theorem State.leaveStage_profiles (s : State) :
    (s.leaveStage).profiles = s.profiles := by simp only [State.leaveStage] <;> (repeat' split) <;> simp
@[simp] theorem State.leaveStage_cables (s : State) :
    (s.leaveStage).cables = s.cables := by simp only [State.leaveStage] <;> (repeat' split) <;> simp
@[simp] theorem State.leaveStage_plans (s : State) :
    (s.leaveStage).plans = s.plans := by simp only [State.leaveStage] <;> (repeat' split) <;> simp
@[simp] theorem State.leaveStage_stages (s : State) :
    (s.leaveStage).stages = s.stages := by simp only [State.leaveStage] <;> (repeat' split) <;> simp
@[simp] theorem State.leaveStage_schedule (s : State) :
    (s.leaveStage).schedule = s.schedule := by simp only [State.leaveStage] <;> (repeat' split) <;> simp
@[simp] theorem State.leaveStage_junctionRev (s : State) :
    (s.leaveStage).junctionRev = s.junctionRev := by simp only [State.leaveStage] <;> (repeat' split) <;> simp
@[simp] theorem State.leaveStage_counted (s : State) :
    (s.leaveStage).counted = s.counted := by simp only [State.leaveStage] <;> (repeat' split) <;> simp

@[simp] theorem State.judgeExtending_pending (s : State) :
    (s.judgeExtending).pending = s.pending := by simp only [State.judgeExtending] <;> (repeat' split) <;> simp
@[simp] theorem State.judgeExtending_link (s : State) :
    (s.judgeExtending).link = s.link := by simp only [State.judgeExtending] <;> (repeat' split) <;> simp
@[simp] theorem State.judgeExtending_base (s : State) :
    (s.judgeExtending).base = s.base := by simp only [State.judgeExtending] <;> (repeat' split) <;> simp
@[simp] theorem State.judgeExtending_sched (s : State) :
    (s.judgeExtending).sched = s.sched := by simp only [State.judgeExtending] <;> (repeat' split) <;> simp
@[simp] theorem State.judgeExtending_sampler (s : State) :
    (s.judgeExtending).sampler = s.sampler := by simp only [State.judgeExtending] <;> (repeat' split) <;> simp
@[simp] theorem State.judgeExtending_bridge (s : State) :
    (s.judgeExtending).bridge = s.bridge := by simp only [State.judgeExtending] <;> (repeat' split) <;> simp
@[simp] theorem State.judgeExtending_conflicts (s : State) :
    (s.judgeExtending).conflicts = s.conflicts := by simp only [State.judgeExtending] <;> (repeat' split) <;> simp
@[simp] theorem State.judgeExtending_channels (s : State) :
    (s.judgeExtending).channels = s.channels := by simp only [State.judgeExtending] <;> (repeat' split) <;> simp
@[simp] theorem State.judgeExtending_profiles (s : State) :
    (s.judgeExtending).profiles = s.profiles := by simp only [State.judgeExtending] <;> (repeat' split) <;> simp
@[simp] theorem State.judgeExtending_cables (s : State) :
    (s.judgeExtending).cables = s.cables := by simp only [State.judgeExtending] <;> (repeat' split) <;> simp
@[simp] theorem State.judgeExtending_plans (s : State) :
    (s.judgeExtending).plans = s.plans := by simp only [State.judgeExtending] <;> (repeat' split) <;> simp
@[simp] theorem State.judgeExtending_stages (s : State) :
    (s.judgeExtending).stages = s.stages := by simp only [State.judgeExtending] <;> (repeat' split) <;> simp
@[simp] theorem State.judgeExtending_schedule (s : State) :
    (s.judgeExtending).schedule = s.schedule := by simp only [State.judgeExtending] <;> (repeat' split) <;> simp
@[simp] theorem State.judgeExtending_junctionRev (s : State) :
    (s.judgeExtending).junctionRev = s.junctionRev := by simp only [State.judgeExtending] <;> (repeat' split) <;> simp
@[simp] theorem State.judgeExtending_counted (s : State) :
    (s.judgeExtending).counted = s.counted := by simp only [State.judgeExtending] <;> (repeat' split) <;> simp

@[simp] theorem State.endMinGreen_pending (s : State) :
    (s.endMinGreen).pending = s.pending := by simp only [State.endMinGreen] <;> (repeat' split) <;> simp
@[simp] theorem State.endMinGreen_link (s : State) :
    (s.endMinGreen).link = s.link := by simp only [State.endMinGreen] <;> (repeat' split) <;> simp
@[simp] theorem State.endMinGreen_base (s : State) :
    (s.endMinGreen).base = s.base := by simp only [State.endMinGreen] <;> (repeat' split) <;> simp
@[simp] theorem State.endMinGreen_sched (s : State) :
    (s.endMinGreen).sched = s.sched := by simp only [State.endMinGreen] <;> (repeat' split) <;> simp
@[simp] theorem State.endMinGreen_sampler (s : State) :
    (s.endMinGreen).sampler = s.sampler := by simp only [State.endMinGreen] <;> (repeat' split) <;> simp
@[simp] theorem State.endMinGreen_bridge (s : State) :
    (s.endMinGreen).bridge = s.bridge := by simp only [State.endMinGreen] <;> (repeat' split) <;> simp
@[simp] theorem State.endMinGreen_conflicts (s : State) :
    (s.endMinGreen).conflicts = s.conflicts := by simp only [State.endMinGreen] <;> (repeat' split) <;> simp
@[simp] theorem State.endMinGreen_channels (s : State) :
    (s.endMinGreen).channels = s.channels := by simp only [State.endMinGreen] <;> (repeat' split) <;> simp
@[simp] theorem State.endMinGreen_profiles (s : State) :
    (s.endMinGreen).profiles = s.profiles := by simp only [State.endMinGreen] <;> (repeat' split) <;> simp
@[simp] theorem State.endMinGreen_cables (s : State) :
    (s.endMinGreen).cables = s.cables := by simp only [State.endMinGreen] <;> (repeat' split) <;> simp
@[simp] theorem State.endMinGreen_plans (s : State) :
    (s.endMinGreen).plans = s.plans := by simp only [State.endMinGreen] <;> (repeat' split) <;> simp
@[simp] theorem State.endMinGreen_stages (s : State) :
    (s.endMinGreen).stages = s.stages := by simp only [State.endMinGreen] <;> (repeat' split) <;> simp
@[simp] theorem State.endMinGreen_schedule (s : State) :
    (s.endMinGreen).schedule = s.schedule := by simp only [State.endMinGreen] <;> (repeat' split) <;> simp
@[simp] theorem State.endMinGreen_junctionRev (s : State) :
    (s.endMinGreen).junctionRev = s.junctionRev := by simp only [State.endMinGreen] <;> (repeat' split) <;> simp
@[simp] theorem State.endMinGreen_counted (s : State) :
    (s.endMinGreen).counted = s.counted := by simp only [State.endMinGreen] <;> (repeat' split) <;> simp

@[simp] theorem State.judgeGreen_pending (s : State) :
    (s.judgeGreen).pending = s.pending := by simp only [State.judgeGreen] <;> (repeat' split) <;> simp
@[simp] theorem State.judgeGreen_link (s : State) :
    (s.judgeGreen).link = s.link := by simp only [State.judgeGreen] <;> (repeat' split) <;> simp
@[simp] theorem State.judgeGreen_base (s : State) :
    (s.judgeGreen).base = s.base := by simp only [State.judgeGreen] <;> (repeat' split) <;> simp
@[simp] theorem State.judgeGreen_sched (s : State) :
    (s.judgeGreen).sched = s.sched := by simp only [State.judgeGreen] <;> (repeat' split) <;> simp
@[simp] theorem State.judgeGreen_sampler (s : State) :
    (s.judgeGreen).sampler = s.sampler := by simp only [State.judgeGreen] <;> (repeat' split) <;> simp
@[simp] theorem State.judgeGreen_bridge (s : State) :
    (s.judgeGreen).bridge = s.bridge := by simp only [State.judgeGreen] <;> (repeat' split) <;> simp
@[simp] theorem State.judgeGreen_conflicts (s : State) :
    (s.judgeGreen).conflicts = s.conflicts := by simp only [State.judgeGreen] <;> (repeat' split) <;> simp
@[simp] theorem State.judgeGreen_channels (s : State) :
    (s.judgeGreen).channels = s.channels := by simp only [State.judgeGreen] <;> (repeat' split) <;> simp
@[simp] theorem State.judgeGreen_profiles (s : State) :
    (s.judgeGreen).profiles = s.profiles := by simp only [State.judgeGreen] <;> (repeat' split) <;> simp
@[simp] theorem State.judgeGreen_cables (s : State) :
    (s.judgeGreen).cables = s.cables := by simp only [State.judgeGreen] <;> (repeat' split) <;> simp
@[simp] theorem State.judgeGreen_plans (s : State) :
    (s.judgeGreen).plans = s.plans := by simp only [State.judgeGreen] <;> (repeat' split) <;> simp
@[simp] theorem State.judgeGreen_stages (s : State) :
    (s.judgeGreen).stages = s.stages := by simp only [State.judgeGreen] <;> (repeat' split) <;> simp
@[simp] theorem State.judgeGreen_schedule (s : State) :
    (s.judgeGreen).schedule = s.schedule := by simp only [State.judgeGreen] <;> (repeat' split) <;> simp
@[simp] theorem State.judgeGreen_junctionRev (s : State) :
    (s.judgeGreen).junctionRev = s.junctionRev := by simp only [State.judgeGreen] <;> (repeat' split) <;> simp
@[simp] theorem State.judgeGreen_counted (s : State) :
    (s.judgeGreen).counted = s.counted := by simp only [State.judgeGreen] <;> (repeat' split) <;> simp

@[simp] theorem State.greenStep_pending (s : State) :
    (s.greenStep).pending = s.pending := by simp only [State.greenStep] <;> (repeat' split) <;> simp
@[simp] theorem State.greenStep_link (s : State) :
    (s.greenStep).link = s.link := by simp only [State.greenStep] <;> (repeat' split) <;> simp
@[simp] theorem State.greenStep_base (s : State) :
    (s.greenStep).base = s.base := by simp only [State.greenStep] <;> (repeat' split) <;> simp
@[simp] theorem State.greenStep_sched (s : State) :
    (s.greenStep).sched = s.sched := by simp only [State.greenStep] <;> (repeat' split) <;> simp
@[simp] theorem State.greenStep_sampler (s : State) :
    (s.greenStep).sampler = s.sampler := by simp only [State.greenStep] <;> (repeat' split) <;> simp
@[simp] theorem State.greenStep_bridge (s : State) :
    (s.greenStep).bridge = s.bridge := by simp only [State.greenStep] <;> (repeat' split) <;> simp
@[simp] theorem State.greenStep_conflicts (s : State) :
    (s.greenStep).conflicts = s.conflicts := by simp only [State.greenStep] <;> (repeat' split) <;> simp
@[simp] theorem State.greenStep_channels (s : State) :
    (s.greenStep).channels = s.channels := by simp only [State.greenStep] <;> (repeat' split) <;> simp
@[simp] theorem State.greenStep_profiles (s : State) :
    (s.greenStep).profiles = s.profiles := by simp only [State.greenStep] <;> (repeat' split) <;> simp
@[simp] theorem State.greenStep_cables (s : State) :
    (s.greenStep).cables = s.cables := by simp only [State.greenStep] <;> (repeat' split) <;> simp
@[simp] theorem State.greenStep_plans (s : State) :
    (s.greenStep).plans = s.plans := by simp only [State.greenStep] <;> (repeat' split) <;> simp
@[simp] theorem State.greenStep_stages (s : State) :
    (s.greenStep).stages = s.stages := by simp only [State.greenStep] <;> (repeat' split) <;> simp
@[simp] theorem State.greenStep_schedule (s : State) :
    (s.greenStep).schedule = s.schedule := by simp only [State.greenStep] <;> (repeat' split) <;> simp
@[simp] theorem State.greenStep_junctionRev (s : State) :
    (s.greenStep).junctionRev = s.junctionRev := by simp only [State.greenStep] <;> (repeat' split) <;> simp
@[simp] theorem State.greenStep_counted (s : State) :
    (s.greenStep).counted = s.counted := by simp only [State.greenStep] <;> (repeat' split) <;> simp

@[simp] theorem State.enterPlan_pending (s : State) :
    (s.enterPlan).pending = s.pending := by simp only [State.enterPlan] <;> (repeat' split) <;> simp
@[simp] theorem State.enterPlan_link (s : State) :
    (s.enterPlan).link = s.link := by simp only [State.enterPlan] <;> (repeat' split) <;> simp
@[simp] theorem State.enterPlan_base (s : State) :
    (s.enterPlan).base = s.base := by simp only [State.enterPlan] <;> (repeat' split) <;> simp
@[simp] theorem State.enterPlan_sched (s : State) :
    (s.enterPlan).sched = s.sched := by simp only [State.enterPlan] <;> (repeat' split) <;> simp
@[simp] theorem State.enterPlan_sampler (s : State) :
    (s.enterPlan).sampler = s.sampler := by simp only [State.enterPlan] <;> (repeat' split) <;> simp
@[simp] theorem State.enterPlan_conflicts (s : State) :
    (s.enterPlan).conflicts = s.conflicts := by simp only [State.enterPlan] <;> (repeat' split) <;> simp
@[simp] theorem State.enterPlan_channels (s : State) :
    (s.enterPlan).channels = s.channels := by simp only [State.enterPlan] <;> (repeat' split) <;> simp
@[simp] theorem State.enterPlan_profiles (s : State) :
    (s.enterPlan).profiles = s.profiles := by simp only [State.enterPlan] <;> (repeat' split) <;> simp
@[simp] theorem State.enterPlan_plans (s : State) :
    (s.enterPlan).plans = s.plans := by simp only [State.enterPlan] <;> (repeat' split) <;> simp
@[simp] theorem State.enterPlan_stages (s : State) :
    (s.enterPlan).stages = s.stages := by simp only [State.enterPlan] <;> (repeat' split) <;> simp
@[simp] theorem State.enterPlan_schedule (s : State) :
    (s.enterPlan).schedule = s.schedule := by simp only [State.enterPlan] <;> (repeat' split) <;> simp
@[simp] theorem State.enterPlan_junctionRev (s : State) :
    (s.enterPlan).junctionRev = s.junctionRev := by simp only [State.enterPlan] <;> (repeat' split) <;> simp
@[simp] theorem State.enterPlan_counted (s : State) :
    (s.enterPlan).counted = s.counted := by simp only [State.enterPlan] <;> (repeat' split) <;> simp

@[simp] theorem State.detectorFaulty_pending (s : State) (n : Fin 16) :
    (s.detectorFaulty n).pending = s.pending := by simp [State.detectorFaulty]
@[simp] theorem State.detectorFaulty_link (s : State) (n : Fin 16) :
    (s.detectorFaulty n).link = s.link := by simp [State.detectorFaulty]
@[simp] theorem State.detectorFaulty_base (s : State) (n : Fin 16) :
    (s.detectorFaulty n).base = s.base := by simp [State.detectorFaulty]
@[simp] theorem State.detectorFaulty_sched (s : State) (n : Fin 16) :
    (s.detectorFaulty n).sched = s.sched := by simp [State.detectorFaulty]
@[simp] theorem State.detectorFaulty_seq (s : State) (n : Fin 16) :
    (s.detectorFaulty n).seq = s.seq := by simp [State.detectorFaulty]
@[simp] theorem State.detectorFaulty_sampler (s : State) (n : Fin 16) :
    (s.detectorFaulty n).sampler = s.sampler := by simp [State.detectorFaulty]
@[simp] theorem State.detectorFaulty_sup (s : State) (n : Fin 16) :
    (s.detectorFaulty n).sup = s.sup := by simp [State.detectorFaulty]
@[simp] theorem State.detectorFaulty_bridge (s : State) (n : Fin 16) :
    (s.detectorFaulty n).bridge = s.bridge := by simp [State.detectorFaulty]
@[simp] theorem State.detectorFaulty_port (s : State) (n : Fin 16) :
    (s.detectorFaulty n).port = s.port := by simp [State.detectorFaulty]
@[simp] theorem State.detectorFaulty_groups (s : State) (n : Fin 16) :
    (s.detectorFaulty n).groups = s.groups := by simp [State.detectorFaulty]
@[simp] theorem State.detectorFaulty_conflicts (s : State) (n : Fin 16) :
    (s.detectorFaulty n).conflicts = s.conflicts := by simp [State.detectorFaulty]
@[simp] theorem State.detectorFaulty_channels (s : State) (n : Fin 16) :
    (s.detectorFaulty n).channels = s.channels := by simp [State.detectorFaulty]
@[simp] theorem State.detectorFaulty_profiles (s : State) (n : Fin 16) :
    (s.detectorFaulty n).profiles = s.profiles := by simp [State.detectorFaulty]
@[simp] theorem State.detectorFaulty_cables (s : State) (n : Fin 16) :
    (s.detectorFaulty n).cables = s.cables := by simp [State.detectorFaulty]
@[simp] theorem State.detectorFaulty_plans (s : State) (n : Fin 16) :
    (s.detectorFaulty n).plans = s.plans := by simp [State.detectorFaulty]
@[simp] theorem State.detectorFaulty_stages (s : State) (n : Fin 16) :
    (s.detectorFaulty n).stages = s.stages := by simp [State.detectorFaulty]
@[simp] theorem State.detectorFaulty_schedule (s : State) (n : Fin 16) :
    (s.detectorFaulty n).schedule = s.schedule := by simp [State.detectorFaulty]
@[simp] theorem State.detectorFaulty_junctionRev (s : State) (n : Fin 16) :
    (s.detectorFaulty n).junctionRev = s.junctionRev := by simp [State.detectorFaulty]
@[simp] theorem State.detectorFaulty_counted (s : State) (n : Fin 16) :
    (s.detectorFaulty n).counted = s.counted := by simp [State.detectorFaulty]

@[simp] theorem State.sampleDetectors_pending (s : State) (p : Set16) :
    (s.sampleDetectors p).pending = s.pending := by simp only [State.sampleDetectors]
@[simp] theorem State.sampleDetectors_link (s : State) (p : Set16) :
    (s.sampleDetectors p).link = s.link := by simp only [State.sampleDetectors]
@[simp] theorem State.sampleDetectors_base (s : State) (p : Set16) :
    (s.sampleDetectors p).base = s.base := by simp only [State.sampleDetectors]
@[simp] theorem State.sampleDetectors_sched (s : State) (p : Set16) :
    (s.sampleDetectors p).sched = s.sched := by simp only [State.sampleDetectors]
@[simp] theorem State.sampleDetectors_seq (s : State) (p : Set16) :
    (s.sampleDetectors p).seq = s.seq := by simp only [State.sampleDetectors]
@[simp] theorem State.sampleDetectors_sampler (s : State) (p : Set16) :
    (s.sampleDetectors p).sampler = s.sampler := by simp only [State.sampleDetectors]
@[simp] theorem State.sampleDetectors_sup (s : State) (p : Set16) :
    (s.sampleDetectors p).sup = s.sup := by simp only [State.sampleDetectors]
@[simp] theorem State.sampleDetectors_bridge (s : State) (p : Set16) :
    (s.sampleDetectors p).bridge = s.bridge := by simp only [State.sampleDetectors]
@[simp] theorem State.sampleDetectors_attn (s : State) (p : Set16) :
    (s.sampleDetectors p).attn = s.attn := by simp only [State.sampleDetectors]
@[simp] theorem State.sampleDetectors_port (s : State) (p : Set16) :
    (s.sampleDetectors p).port = s.port := by simp only [State.sampleDetectors]
@[simp] theorem State.sampleDetectors_groups (s : State) (p : Set16) :
    (s.sampleDetectors p).groups = s.groups := by simp only [State.sampleDetectors]
@[simp] theorem State.sampleDetectors_conflicts (s : State) (p : Set16) :
    (s.sampleDetectors p).conflicts = s.conflicts := by simp only [State.sampleDetectors]
@[simp] theorem State.sampleDetectors_channels (s : State) (p : Set16) :
    (s.sampleDetectors p).channels = s.channels := by simp only [State.sampleDetectors]
@[simp] theorem State.sampleDetectors_profiles (s : State) (p : Set16) :
    (s.sampleDetectors p).profiles = s.profiles := by simp only [State.sampleDetectors]
@[simp] theorem State.sampleDetectors_cables (s : State) (p : Set16) :
    (s.sampleDetectors p).cables = s.cables := by simp only [State.sampleDetectors]
@[simp] theorem State.sampleDetectors_plans (s : State) (p : Set16) :
    (s.sampleDetectors p).plans = s.plans := by simp only [State.sampleDetectors]
@[simp] theorem State.sampleDetectors_stages (s : State) (p : Set16) :
    (s.sampleDetectors p).stages = s.stages := by simp only [State.sampleDetectors]
@[simp] theorem State.sampleDetectors_schedule (s : State) (p : Set16) :
    (s.sampleDetectors p).schedule = s.schedule := by simp only [State.sampleDetectors]
@[simp] theorem State.sampleDetectors_junctionRev (s : State) (p : Set16) :
    (s.sampleDetectors p).junctionRev = s.junctionRev := by simp only [State.sampleDetectors]
@[simp] theorem State.sampleDetectors_counted (s : State) (p : Set16) :
    (s.sampleDetectors p).counted = s.counted := by simp only [State.sampleDetectors]

@[simp] theorem State.raiseTimers_pending (s : State) :
    (s.raiseTimers).pending = s.pending := by simp [State.raiseTimers]
@[simp] theorem State.raiseTimers_link (s : State) :
    (s.raiseTimers).link = s.link := by simp [State.raiseTimers]
@[simp] theorem State.raiseTimers_base (s : State) :
    (s.raiseTimers).base = s.base := by simp [State.raiseTimers]
@[simp] theorem State.raiseTimers_sched (s : State) :
    (s.raiseTimers).sched = s.sched := by simp [State.raiseTimers]
@[simp] theorem State.raiseTimers_sampler (s : State) :
    (s.raiseTimers).sampler = s.sampler := by simp [State.raiseTimers]
@[simp] theorem State.raiseTimers_sup (s : State) :
    (s.raiseTimers).sup = s.sup := by simp [State.raiseTimers]
@[simp] theorem State.raiseTimers_bridge (s : State) :
    (s.raiseTimers).bridge = s.bridge := by simp [State.raiseTimers]
@[simp] theorem State.raiseTimers_attn (s : State) :
    (s.raiseTimers).attn = s.attn := by simp [State.raiseTimers]
@[simp] theorem State.raiseTimers_port (s : State) :
    (s.raiseTimers).port = s.port := by simp [State.raiseTimers]
@[simp] theorem State.raiseTimers_conflicts (s : State) :
    (s.raiseTimers).conflicts = s.conflicts := by simp [State.raiseTimers]
@[simp] theorem State.raiseTimers_channels (s : State) :
    (s.raiseTimers).channels = s.channels := by simp [State.raiseTimers]
@[simp] theorem State.raiseTimers_profiles (s : State) :
    (s.raiseTimers).profiles = s.profiles := by simp [State.raiseTimers]
@[simp] theorem State.raiseTimers_cables (s : State) :
    (s.raiseTimers).cables = s.cables := by simp [State.raiseTimers]
@[simp] theorem State.raiseTimers_plans (s : State) :
    (s.raiseTimers).plans = s.plans := by simp [State.raiseTimers]
@[simp] theorem State.raiseTimers_stages (s : State) :
    (s.raiseTimers).stages = s.stages := by simp [State.raiseTimers]
@[simp] theorem State.raiseTimers_schedule (s : State) :
    (s.raiseTimers).schedule = s.schedule := by simp [State.raiseTimers]
@[simp] theorem State.raiseTimers_junctionRev (s : State) :
    (s.raiseTimers).junctionRev = s.junctionRev := by simp [State.raiseTimers]
@[simp] theorem State.raiseTimers_counted (s : State) :
    (s.raiseTimers).counted = s.counted := by simp [State.raiseTimers]

@[simp] theorem State.stuckCheck_pending (s : State) :
    (s.stuckCheck).pending = s.pending := foldl_keeps State.pending _ (by intros; split <;> simp) _ _
@[simp] theorem State.stuckCheck_link (s : State) :
    (s.stuckCheck).link = s.link := foldl_keeps State.link _ (by intros; split <;> simp) _ _
@[simp] theorem State.stuckCheck_base (s : State) :
    (s.stuckCheck).base = s.base := foldl_keeps State.base _ (by intros; split <;> simp) _ _
@[simp] theorem State.stuckCheck_sched (s : State) :
    (s.stuckCheck).sched = s.sched := foldl_keeps State.sched _ (by intros; split <;> simp) _ _
@[simp] theorem State.stuckCheck_seq (s : State) :
    (s.stuckCheck).seq = s.seq := foldl_keeps State.seq _ (by intros; split <;> simp) _ _
@[simp] theorem State.stuckCheck_sampler (s : State) :
    (s.stuckCheck).sampler = s.sampler := foldl_keeps State.sampler _ (by intros; split <;> simp) _ _
@[simp] theorem State.stuckCheck_sup (s : State) :
    (s.stuckCheck).sup = s.sup := foldl_keeps State.sup _ (by intros; split <;> simp) _ _
@[simp] theorem State.stuckCheck_bridge (s : State) :
    (s.stuckCheck).bridge = s.bridge := foldl_keeps State.bridge _ (by intros; split <;> simp) _ _
@[simp] theorem State.stuckCheck_port (s : State) :
    (s.stuckCheck).port = s.port := foldl_keeps State.port _ (by intros; split <;> simp) _ _
@[simp] theorem State.stuckCheck_groups (s : State) :
    (s.stuckCheck).groups = s.groups := foldl_keeps State.groups _ (by intros; split <;> simp) _ _
@[simp] theorem State.stuckCheck_conflicts (s : State) :
    (s.stuckCheck).conflicts = s.conflicts := foldl_keeps State.conflicts _ (by intros; split <;> simp) _ _
@[simp] theorem State.stuckCheck_channels (s : State) :
    (s.stuckCheck).channels = s.channels := foldl_keeps State.channels _ (by intros; split <;> simp) _ _
@[simp] theorem State.stuckCheck_profiles (s : State) :
    (s.stuckCheck).profiles = s.profiles := foldl_keeps State.profiles _ (by intros; split <;> simp) _ _
@[simp] theorem State.stuckCheck_cables (s : State) :
    (s.stuckCheck).cables = s.cables := foldl_keeps State.cables _ (by intros; split <;> simp) _ _
@[simp] theorem State.stuckCheck_plans (s : State) :
    (s.stuckCheck).plans = s.plans := foldl_keeps State.plans _ (by intros; split <;> simp) _ _
@[simp] theorem State.stuckCheck_stages (s : State) :
    (s.stuckCheck).stages = s.stages := foldl_keeps State.stages _ (by intros; split <;> simp) _ _
@[simp] theorem State.stuckCheck_schedule (s : State) :
    (s.stuckCheck).schedule = s.schedule := foldl_keeps State.schedule _ (by intros; split <;> simp) _ _
@[simp] theorem State.stuckCheck_junctionRev (s : State) :
    (s.stuckCheck).junctionRev = s.junctionRev := foldl_keeps State.junctionRev _ (by intros; split <;> simp) _ _
@[simp] theorem State.stuckCheck_counted (s : State) :
    (s.stuckCheck).counted = s.counted := foldl_keeps State.counted _ (by intros; split <;> simp) _ _

@[simp] theorem State.sequencerTenth_pending (s : State) :
    (s.sequencerTenth).pending = s.pending := by simp [State.sequencerTenth]
@[simp] theorem State.sequencerTenth_link (s : State) :
    (s.sequencerTenth).link = s.link := by simp [State.sequencerTenth]
@[simp] theorem State.sequencerTenth_base (s : State) :
    (s.sequencerTenth).base = s.base := by simp [State.sequencerTenth]
@[simp] theorem State.sequencerTenth_sched (s : State) :
    (s.sequencerTenth).sched = s.sched := by simp [State.sequencerTenth]
@[simp] theorem State.sequencerTenth_sampler (s : State) :
    (s.sequencerTenth).sampler = s.sampler := by simp [State.sequencerTenth]
@[simp] theorem State.sequencerTenth_bridge (s : State) :
    (s.sequencerTenth).bridge = s.bridge := by simp [State.sequencerTenth]
@[simp] theorem State.sequencerTenth_conflicts (s : State) :
    (s.sequencerTenth).conflicts = s.conflicts := by simp [State.sequencerTenth]
@[simp] theorem State.sequencerTenth_channels (s : State) :
    (s.sequencerTenth).channels = s.channels := by simp [State.sequencerTenth]
@[simp] theorem State.sequencerTenth_profiles (s : State) :
    (s.sequencerTenth).profiles = s.profiles := by simp [State.sequencerTenth]
@[simp] theorem State.sequencerTenth_plans (s : State) :
    (s.sequencerTenth).plans = s.plans := by simp [State.sequencerTenth]
@[simp] theorem State.sequencerTenth_stages (s : State) :
    (s.sequencerTenth).stages = s.stages := by simp [State.sequencerTenth]
@[simp] theorem State.sequencerTenth_schedule (s : State) :
    (s.sequencerTenth).schedule = s.schedule := by simp [State.sequencerTenth]
@[simp] theorem State.sequencerTenth_counted (s : State) :
    (s.sequencerTenth).counted = s.counted := by simp [State.sequencerTenth]

@[simp] theorem State.darkStep_pending (s : State) :
    (s.darkStep).pending = s.pending := by simp [State.darkStep]
@[simp] theorem State.darkStep_link (s : State) :
    (s.darkStep).link = s.link := by simp [State.darkStep]
@[simp] theorem State.darkStep_base (s : State) :
    (s.darkStep).base = s.base := by simp [State.darkStep]
@[simp] theorem State.darkStep_sched (s : State) :
    (s.darkStep).sched = s.sched := by simp [State.darkStep]
@[simp] theorem State.darkStep_sampler (s : State) :
    (s.darkStep).sampler = s.sampler := by simp [State.darkStep]
@[simp] theorem State.darkStep_sup (s : State) :
    (s.darkStep).sup = s.sup := by simp [State.darkStep]
@[simp] theorem State.darkStep_bridge (s : State) :
    (s.darkStep).bridge = s.bridge := by simp [State.darkStep]
@[simp] theorem State.darkStep_attn (s : State) :
    (s.darkStep).attn = s.attn := by simp [State.darkStep]
@[simp] theorem State.darkStep_port (s : State) :
    (s.darkStep).port = s.port := by simp [State.darkStep]
@[simp] theorem State.darkStep_conflicts (s : State) :
    (s.darkStep).conflicts = s.conflicts := by simp [State.darkStep]
@[simp] theorem State.darkStep_channels (s : State) :
    (s.darkStep).channels = s.channels := by simp [State.darkStep]
@[simp] theorem State.darkStep_profiles (s : State) :
    (s.darkStep).profiles = s.profiles := by simp [State.darkStep]
@[simp] theorem State.darkStep_cables (s : State) :
    (s.darkStep).cables = s.cables := by simp [State.darkStep]
@[simp] theorem State.darkStep_plans (s : State) :
    (s.darkStep).plans = s.plans := by simp [State.darkStep]
@[simp] theorem State.darkStep_stages (s : State) :
    (s.darkStep).stages = s.stages := by simp [State.darkStep]
@[simp] theorem State.darkStep_schedule (s : State) :
    (s.darkStep).schedule = s.schedule := by simp [State.darkStep]
@[simp] theorem State.darkStep_detectors (s : State) :
    (s.darkStep).detectors = s.detectors := by simp [State.darkStep]
@[simp] theorem State.darkStep_junctionRev (s : State) :
    (s.darkStep).junctionRev = s.junctionRev := by simp [State.darkStep]
@[simp] theorem State.darkStep_counted (s : State) :
    (s.darkStep).counted = s.counted := by simp [State.darkStep]

@[simp] theorem State.verdictChanged_pending (s : State) :
    (s.verdictChanged).pending = s.pending := by simp [State.verdictChanged]
@[simp] theorem State.verdictChanged_link (s : State) :
    (s.verdictChanged).link = s.link := by simp [State.verdictChanged]
@[simp] theorem State.verdictChanged_base (s : State) :
    (s.verdictChanged).base = s.base := by simp [State.verdictChanged]
@[simp] theorem State.verdictChanged_sched (s : State) :
    (s.verdictChanged).sched = s.sched := by simp [State.verdictChanged]
@[simp] theorem State.verdictChanged_sampler (s : State) :
    (s.verdictChanged).sampler = s.sampler := by simp [State.verdictChanged]
@[simp] theorem State.verdictChanged_bridge (s : State) :
    (s.verdictChanged).bridge = s.bridge := by simp [State.verdictChanged]
@[simp] theorem State.verdictChanged_conflicts (s : State) :
    (s.verdictChanged).conflicts = s.conflicts := by simp [State.verdictChanged]
@[simp] theorem State.verdictChanged_channels (s : State) :
    (s.verdictChanged).channels = s.channels := by simp [State.verdictChanged]
@[simp] theorem State.verdictChanged_profiles (s : State) :
    (s.verdictChanged).profiles = s.profiles := by simp [State.verdictChanged]
@[simp] theorem State.verdictChanged_cables (s : State) :
    (s.verdictChanged).cables = s.cables := by simp [State.verdictChanged]
@[simp] theorem State.verdictChanged_plans (s : State) :
    (s.verdictChanged).plans = s.plans := by simp [State.verdictChanged]
@[simp] theorem State.verdictChanged_stages (s : State) :
    (s.verdictChanged).stages = s.stages := by simp [State.verdictChanged]
@[simp] theorem State.verdictChanged_schedule (s : State) :
    (s.verdictChanged).schedule = s.schedule := by simp [State.verdictChanged]
@[simp] theorem State.verdictChanged_detectors (s : State) :
    (s.verdictChanged).detectors = s.detectors := by simp [State.verdictChanged]
@[simp] theorem State.verdictChanged_junctionRev (s : State) :
    (s.verdictChanged).junctionRev = s.junctionRev := by simp [State.verdictChanged]
@[simp] theorem State.verdictChanged_counted (s : State) :
    (s.verdictChanged).counted = s.counted := by simp [State.verdictChanged]

theorem foldl_post_keeps {γ : Type} (g : State → γ) (h : ∀ (s : State) (b : Bool) (c : AClass) (t : Table) (i : Nat),
    g (s.postIf b c t i) = g s) (p : Fin 64 → Bool) (l : List (Fin 64)) (s : State) :
    g (l.foldl (fun v c => v.postIf (p c) .lamp .channel c.val) s) = g s :=
  foldl_keeps g _ (fun _ _ => h ..) _ _

@[simp] theorem State.proveTick_pending (s : State) (r : Option Readings) (o : Vector Bool 64) :
    (s.proveTick r o).pending = s.pending := by
  simp only [State.proveTick]
  simp [foldl_post_keeps State.pending]
@[simp] theorem State.proveTick_link (s : State) (r : Option Readings) (o : Vector Bool 64) :
    (s.proveTick r o).link = s.link := by
  simp only [State.proveTick]
  simp [foldl_post_keeps State.link]
@[simp] theorem State.proveTick_base (s : State) (r : Option Readings) (o : Vector Bool 64) :
    (s.proveTick r o).base = s.base := by
  simp only [State.proveTick]
  simp [foldl_post_keeps State.base]
@[simp] theorem State.proveTick_sched (s : State) (r : Option Readings) (o : Vector Bool 64) :
    (s.proveTick r o).sched = s.sched := by
  simp only [State.proveTick]
  simp [foldl_post_keeps State.sched]
@[simp] theorem State.proveTick_seq (s : State) (r : Option Readings) (o : Vector Bool 64) :
    (s.proveTick r o).seq = s.seq := by
  simp only [State.proveTick]
  simp [foldl_post_keeps State.seq]
@[simp] theorem State.proveTick_sampler (s : State) (r : Option Readings) (o : Vector Bool 64) :
    (s.proveTick r o).sampler = s.sampler := by
  simp only [State.proveTick]
  simp [foldl_post_keeps State.sampler]
@[simp] theorem State.proveTick_sup (s : State) (r : Option Readings) (o : Vector Bool 64) :
    (s.proveTick r o).sup = s.sup := by
  simp only [State.proveTick]
  simp [foldl_post_keeps State.sup]
@[simp] theorem State.proveTick_bridge (s : State) (r : Option Readings) (o : Vector Bool 64) :
    (s.proveTick r o).bridge = s.bridge := by
  simp only [State.proveTick]
  simp [foldl_post_keeps State.bridge]
@[simp] theorem State.proveTick_port (s : State) (r : Option Readings) (o : Vector Bool 64) :
    (s.proveTick r o).port = s.port := by
  simp only [State.proveTick]
  simp [foldl_post_keeps State.port]
@[simp] theorem State.proveTick_groups (s : State) (r : Option Readings) (o : Vector Bool 64) :
    (s.proveTick r o).groups = s.groups := by
  simp only [State.proveTick]
  simp [foldl_post_keeps State.groups]
@[simp] theorem State.proveTick_conflicts (s : State) (r : Option Readings) (o : Vector Bool 64) :
    (s.proveTick r o).conflicts = s.conflicts := by
  simp only [State.proveTick]
  simp [foldl_post_keeps State.conflicts]
@[simp] theorem State.proveTick_profiles (s : State) (r : Option Readings) (o : Vector Bool 64) :
    (s.proveTick r o).profiles = s.profiles := by
  simp only [State.proveTick]
  simp [foldl_post_keeps State.profiles]
@[simp] theorem State.proveTick_cables (s : State) (r : Option Readings) (o : Vector Bool 64) :
    (s.proveTick r o).cables = s.cables := by
  simp only [State.proveTick]
  simp [foldl_post_keeps State.cables]
@[simp] theorem State.proveTick_plans (s : State) (r : Option Readings) (o : Vector Bool 64) :
    (s.proveTick r o).plans = s.plans := by
  simp only [State.proveTick]
  simp [foldl_post_keeps State.plans]
@[simp] theorem State.proveTick_stages (s : State) (r : Option Readings) (o : Vector Bool 64) :
    (s.proveTick r o).stages = s.stages := by
  simp only [State.proveTick]
  simp [foldl_post_keeps State.stages]
@[simp] theorem State.proveTick_schedule (s : State) (r : Option Readings) (o : Vector Bool 64) :
    (s.proveTick r o).schedule = s.schedule := by
  simp only [State.proveTick]
  simp [foldl_post_keeps State.schedule]
@[simp] theorem State.proveTick_detectors (s : State) (r : Option Readings) (o : Vector Bool 64) :
    (s.proveTick r o).detectors = s.detectors := by
  simp only [State.proveTick]
  simp [foldl_post_keeps State.detectors]
@[simp] theorem State.proveTick_junctionRev (s : State) (r : Option Readings) (o : Vector Bool 64) :
    (s.proveTick r o).junctionRev = s.junctionRev := by
  simp only [State.proveTick]
  simp [foldl_post_keeps State.junctionRev]
@[simp] theorem State.proveTick_counted (s : State) (r : Option Readings) (o : Vector Bool 64) :
    (s.proveTick r o).counted = s.counted := by
  simp only [State.proveTick]
  simp [foldl_post_keeps State.counted]

@[simp] theorem State.verdictTick_pending (s : State) (b : Bool) :
    (s.verdictTick b).pending = s.pending := by simp only [State.verdictTick] <;> (repeat' split) <;> simp
@[simp] theorem State.verdictTick_link (s : State) (b : Bool) :
    (s.verdictTick b).link = s.link := by simp only [State.verdictTick] <;> (repeat' split) <;> simp
@[simp] theorem State.verdictTick_base (s : State) (b : Bool) :
    (s.verdictTick b).base = s.base := by simp only [State.verdictTick] <;> (repeat' split) <;> simp
@[simp] theorem State.verdictTick_sched (s : State) (b : Bool) :
    (s.verdictTick b).sched = s.sched := by simp only [State.verdictTick] <;> (repeat' split) <;> simp
@[simp] theorem State.verdictTick_sampler (s : State) (b : Bool) :
    (s.verdictTick b).sampler = s.sampler := by simp only [State.verdictTick] <;> (repeat' split) <;> simp
@[simp] theorem State.verdictTick_bridge (s : State) (b : Bool) :
    (s.verdictTick b).bridge = s.bridge := by simp only [State.verdictTick] <;> (repeat' split) <;> simp
@[simp] theorem State.verdictTick_conflicts (s : State) (b : Bool) :
    (s.verdictTick b).conflicts = s.conflicts := by simp only [State.verdictTick] <;> (repeat' split) <;> simp
@[simp] theorem State.verdictTick_channels (s : State) (b : Bool) :
    (s.verdictTick b).channels = s.channels := by simp only [State.verdictTick] <;> (repeat' split) <;> simp
@[simp] theorem State.verdictTick_profiles (s : State) (b : Bool) :
    (s.verdictTick b).profiles = s.profiles := by simp only [State.verdictTick] <;> (repeat' split) <;> simp
@[simp] theorem State.verdictTick_plans (s : State) (b : Bool) :
    (s.verdictTick b).plans = s.plans := by simp only [State.verdictTick] <;> (repeat' split) <;> simp
@[simp] theorem State.verdictTick_stages (s : State) (b : Bool) :
    (s.verdictTick b).stages = s.stages := by simp only [State.verdictTick] <;> (repeat' split) <;> simp
@[simp] theorem State.verdictTick_schedule (s : State) (b : Bool) :
    (s.verdictTick b).schedule = s.schedule := by simp only [State.verdictTick] <;> (repeat' split) <;> simp
@[simp] theorem State.verdictTick_detectors (s : State) (b : Bool) :
    (s.verdictTick b).detectors = s.detectors := by simp only [State.verdictTick] <;> (repeat' split) <;> simp
@[simp] theorem State.verdictTick_counted (s : State) (b : Bool) :
    (s.verdictTick b).counted = s.counted := by simp only [State.verdictTick] <;> (repeat' split) <;> simp

@[simp] theorem State.completeLearning_pending (s : State) (c : Fin 64) :
    (s.completeLearning c).pending = s.pending := by simp [State.completeLearning]
@[simp] theorem State.completeLearning_link (s : State) (c : Fin 64) :
    (s.completeLearning c).link = s.link := by simp [State.completeLearning]
@[simp] theorem State.completeLearning_base (s : State) (c : Fin 64) :
    (s.completeLearning c).base = s.base := by simp [State.completeLearning]
@[simp] theorem State.completeLearning_sched (s : State) (c : Fin 64) :
    (s.completeLearning c).sched = s.sched := by simp [State.completeLearning]
@[simp] theorem State.completeLearning_seq (s : State) (c : Fin 64) :
    (s.completeLearning c).seq = s.seq := by simp [State.completeLearning]
@[simp] theorem State.completeLearning_sampler (s : State) (c : Fin 64) :
    (s.completeLearning c).sampler = s.sampler := by simp [State.completeLearning]
@[simp] theorem State.completeLearning_sup (s : State) (c : Fin 64) :
    (s.completeLearning c).sup = s.sup := by simp [State.completeLearning]
@[simp] theorem State.completeLearning_bridge (s : State) (c : Fin 64) :
    (s.completeLearning c).bridge = s.bridge := by simp [State.completeLearning]
@[simp] theorem State.completeLearning_port (s : State) (c : Fin 64) :
    (s.completeLearning c).port = s.port := by simp [State.completeLearning]
@[simp] theorem State.completeLearning_groups (s : State) (c : Fin 64) :
    (s.completeLearning c).groups = s.groups := by simp [State.completeLearning]
@[simp] theorem State.completeLearning_conflicts (s : State) (c : Fin 64) :
    (s.completeLearning c).conflicts = s.conflicts := by simp [State.completeLearning]
@[simp] theorem State.completeLearning_profiles (s : State) (c : Fin 64) :
    (s.completeLearning c).profiles = s.profiles := by simp [State.completeLearning]
@[simp] theorem State.completeLearning_cables (s : State) (c : Fin 64) :
    (s.completeLearning c).cables = s.cables := by simp [State.completeLearning]
@[simp] theorem State.completeLearning_plans (s : State) (c : Fin 64) :
    (s.completeLearning c).plans = s.plans := by simp [State.completeLearning]
@[simp] theorem State.completeLearning_stages (s : State) (c : Fin 64) :
    (s.completeLearning c).stages = s.stages := by simp [State.completeLearning]
@[simp] theorem State.completeLearning_schedule (s : State) (c : Fin 64) :
    (s.completeLearning c).schedule = s.schedule := by simp [State.completeLearning]
@[simp] theorem State.completeLearning_detectors (s : State) (c : Fin 64) :
    (s.completeLearning c).detectors = s.detectors := by simp [State.completeLearning]
@[simp] theorem State.completeLearning_junctionRev (s : State) (c : Fin 64) :
    (s.completeLearning c).junctionRev = s.junctionRev := by simp [State.completeLearning]
@[simp] theorem State.completeLearning_counted (s : State) (c : Fin 64) :
    (s.completeLearning c).counted = s.counted := by simp [State.completeLearning]

@[simp] theorem State.confirmStreak_pending (s : State) (c : Fin 64) :
    (s.confirmStreak c).pending = s.pending := by simp only [State.confirmStreak] <;> (repeat' split) <;> simp
@[simp] theorem State.confirmStreak_link (s : State) (c : Fin 64) :
    (s.confirmStreak c).link = s.link := by simp only [State.confirmStreak] <;> (repeat' split) <;> simp
@[simp] theorem State.confirmStreak_base (s : State) (c : Fin 64) :
    (s.confirmStreak c).base = s.base := by simp only [State.confirmStreak] <;> (repeat' split) <;> simp
@[simp] theorem State.confirmStreak_sched (s : State) (c : Fin 64) :
    (s.confirmStreak c).sched = s.sched := by simp only [State.confirmStreak] <;> (repeat' split) <;> simp
@[simp] theorem State.confirmStreak_sampler (s : State) (c : Fin 64) :
    (s.confirmStreak c).sampler = s.sampler := by simp only [State.confirmStreak] <;> (repeat' split) <;> simp
@[simp] theorem State.confirmStreak_bridge (s : State) (c : Fin 64) :
    (s.confirmStreak c).bridge = s.bridge := by simp only [State.confirmStreak] <;> (repeat' split) <;> simp
@[simp] theorem State.confirmStreak_conflicts (s : State) (c : Fin 64) :
    (s.confirmStreak c).conflicts = s.conflicts := by simp only [State.confirmStreak] <;> (repeat' split) <;> simp
@[simp] theorem State.confirmStreak_profiles (s : State) (c : Fin 64) :
    (s.confirmStreak c).profiles = s.profiles := by simp only [State.confirmStreak] <;> (repeat' split) <;> simp
@[simp] theorem State.confirmStreak_cables (s : State) (c : Fin 64) :
    (s.confirmStreak c).cables = s.cables := by simp only [State.confirmStreak] <;> (repeat' split) <;> simp
@[simp] theorem State.confirmStreak_plans (s : State) (c : Fin 64) :
    (s.confirmStreak c).plans = s.plans := by simp only [State.confirmStreak] <;> (repeat' split) <;> simp
@[simp] theorem State.confirmStreak_stages (s : State) (c : Fin 64) :
    (s.confirmStreak c).stages = s.stages := by simp only [State.confirmStreak] <;> (repeat' split) <;> simp
@[simp] theorem State.confirmStreak_schedule (s : State) (c : Fin 64) :
    (s.confirmStreak c).schedule = s.schedule := by simp only [State.confirmStreak] <;> (repeat' split) <;> simp
@[simp] theorem State.confirmStreak_detectors (s : State) (c : Fin 64) :
    (s.confirmStreak c).detectors = s.detectors := by simp only [State.confirmStreak] <;> (repeat' split) <;> simp
@[simp] theorem State.confirmStreak_junctionRev (s : State) (c : Fin 64) :
    (s.confirmStreak c).junctionRev = s.junctionRev := by simp only [State.confirmStreak] <;> (repeat' split) <;> simp
@[simp] theorem State.confirmStreak_counted (s : State) (c : Fin 64) :
    (s.confirmStreak c).counted = s.counted := by simp only [State.confirmStreak] <;> (repeat' split) <;> simp

@[simp] theorem State.recordCables_pending (s : State) (r : Readings) :
    (s.recordCables r).pending = s.pending := by simp only [State.recordCables]
@[simp] theorem State.recordCables_link (s : State) (r : Readings) :
    (s.recordCables r).link = s.link := by simp only [State.recordCables]
@[simp] theorem State.recordCables_base (s : State) (r : Readings) :
    (s.recordCables r).base = s.base := by simp only [State.recordCables]
@[simp] theorem State.recordCables_sched (s : State) (r : Readings) :
    (s.recordCables r).sched = s.sched := by simp only [State.recordCables]
@[simp] theorem State.recordCables_seq (s : State) (r : Readings) :
    (s.recordCables r).seq = s.seq := by simp only [State.recordCables]
@[simp] theorem State.recordCables_sampler (s : State) (r : Readings) :
    (s.recordCables r).sampler = s.sampler := by simp only [State.recordCables]
@[simp] theorem State.recordCables_sup (s : State) (r : Readings) :
    (s.recordCables r).sup = s.sup := by simp only [State.recordCables]
@[simp] theorem State.recordCables_bridge (s : State) (r : Readings) :
    (s.recordCables r).bridge = s.bridge := by simp only [State.recordCables]
@[simp] theorem State.recordCables_attn (s : State) (r : Readings) :
    (s.recordCables r).attn = s.attn := by simp only [State.recordCables]
@[simp] theorem State.recordCables_port (s : State) (r : Readings) :
    (s.recordCables r).port = s.port := by simp only [State.recordCables]
@[simp] theorem State.recordCables_groups (s : State) (r : Readings) :
    (s.recordCables r).groups = s.groups := by simp only [State.recordCables]
@[simp] theorem State.recordCables_conflicts (s : State) (r : Readings) :
    (s.recordCables r).conflicts = s.conflicts := by simp only [State.recordCables]
@[simp] theorem State.recordCables_channels (s : State) (r : Readings) :
    (s.recordCables r).channels = s.channels := by simp only [State.recordCables]
@[simp] theorem State.recordCables_profiles (s : State) (r : Readings) :
    (s.recordCables r).profiles = s.profiles := by simp only [State.recordCables]
@[simp] theorem State.recordCables_plans (s : State) (r : Readings) :
    (s.recordCables r).plans = s.plans := by simp only [State.recordCables]
@[simp] theorem State.recordCables_stages (s : State) (r : Readings) :
    (s.recordCables r).stages = s.stages := by simp only [State.recordCables]
@[simp] theorem State.recordCables_schedule (s : State) (r : Readings) :
    (s.recordCables r).schedule = s.schedule := by simp only [State.recordCables]
@[simp] theorem State.recordCables_detectors (s : State) (r : Readings) :
    (s.recordCables r).detectors = s.detectors := by simp only [State.recordCables]
@[simp] theorem State.recordCables_junctionRev (s : State) (r : Readings) :
    (s.recordCables r).junctionRev = s.junctionRev := by simp only [State.recordCables]
@[simp] theorem State.recordCables_counted (s : State) (r : Readings) :
    (s.recordCables r).counted = s.counted := by simp only [State.recordCables]

@[simp] theorem State.confirmOpen_pending (s : State) (k : Fin 16) :
    (s.confirmOpen k).pending = s.pending := by simp [State.confirmOpen]
@[simp] theorem State.confirmOpen_link (s : State) (k : Fin 16) :
    (s.confirmOpen k).link = s.link := by simp [State.confirmOpen]
@[simp] theorem State.confirmOpen_base (s : State) (k : Fin 16) :
    (s.confirmOpen k).base = s.base := by simp [State.confirmOpen]
@[simp] theorem State.confirmOpen_sched (s : State) (k : Fin 16) :
    (s.confirmOpen k).sched = s.sched := by simp [State.confirmOpen]
@[simp] theorem State.confirmOpen_seq (s : State) (k : Fin 16) :
    (s.confirmOpen k).seq = s.seq := by simp [State.confirmOpen]
@[simp] theorem State.confirmOpen_sampler (s : State) (k : Fin 16) :
    (s.confirmOpen k).sampler = s.sampler := by simp [State.confirmOpen]
@[simp] theorem State.confirmOpen_sup (s : State) (k : Fin 16) :
    (s.confirmOpen k).sup = s.sup := by simp [State.confirmOpen]
@[simp] theorem State.confirmOpen_bridge (s : State) (k : Fin 16) :
    (s.confirmOpen k).bridge = s.bridge := by simp [State.confirmOpen]
@[simp] theorem State.confirmOpen_port (s : State) (k : Fin 16) :
    (s.confirmOpen k).port = s.port := by simp [State.confirmOpen]
@[simp] theorem State.confirmOpen_conflicts (s : State) (k : Fin 16) :
    (s.confirmOpen k).conflicts = s.conflicts := by simp [State.confirmOpen]
@[simp] theorem State.confirmOpen_channels (s : State) (k : Fin 16) :
    (s.confirmOpen k).channels = s.channels := by simp [State.confirmOpen]
@[simp] theorem State.confirmOpen_profiles (s : State) (k : Fin 16) :
    (s.confirmOpen k).profiles = s.profiles := by simp [State.confirmOpen]
@[simp] theorem State.confirmOpen_plans (s : State) (k : Fin 16) :
    (s.confirmOpen k).plans = s.plans := by simp [State.confirmOpen]
@[simp] theorem State.confirmOpen_stages (s : State) (k : Fin 16) :
    (s.confirmOpen k).stages = s.stages := by simp [State.confirmOpen]
@[simp] theorem State.confirmOpen_schedule (s : State) (k : Fin 16) :
    (s.confirmOpen k).schedule = s.schedule := by simp [State.confirmOpen]
@[simp] theorem State.confirmOpen_detectors (s : State) (k : Fin 16) :
    (s.confirmOpen k).detectors = s.detectors := by simp [State.confirmOpen]
@[simp] theorem State.confirmOpen_junctionRev (s : State) (k : Fin 16) :
    (s.confirmOpen k).junctionRev = s.junctionRev := by simp [State.confirmOpen]
@[simp] theorem State.confirmOpen_counted (s : State) (k : Fin 16) :
    (s.confirmOpen k).counted = s.counted := by simp [State.confirmOpen]

@[simp] theorem State.confirmBalance_pending (s : State) (k : Fin 16) :
    (s.confirmBalance k).pending = s.pending := by simp [State.confirmBalance]
@[simp] theorem State.confirmBalance_link (s : State) (k : Fin 16) :
    (s.confirmBalance k).link = s.link := by simp [State.confirmBalance]
@[simp] theorem State.confirmBalance_base (s : State) (k : Fin 16) :
    (s.confirmBalance k).base = s.base := by simp [State.confirmBalance]
@[simp] theorem State.confirmBalance_sched (s : State) (k : Fin 16) :
    (s.confirmBalance k).sched = s.sched := by simp [State.confirmBalance]
@[simp] theorem State.confirmBalance_seq (s : State) (k : Fin 16) :
    (s.confirmBalance k).seq = s.seq := by simp [State.confirmBalance]
@[simp] theorem State.confirmBalance_sampler (s : State) (k : Fin 16) :
    (s.confirmBalance k).sampler = s.sampler := by simp [State.confirmBalance]
@[simp] theorem State.confirmBalance_sup (s : State) (k : Fin 16) :
    (s.confirmBalance k).sup = s.sup := by simp [State.confirmBalance]
@[simp] theorem State.confirmBalance_bridge (s : State) (k : Fin 16) :
    (s.confirmBalance k).bridge = s.bridge := by simp [State.confirmBalance]
@[simp] theorem State.confirmBalance_port (s : State) (k : Fin 16) :
    (s.confirmBalance k).port = s.port := by simp [State.confirmBalance]
@[simp] theorem State.confirmBalance_conflicts (s : State) (k : Fin 16) :
    (s.confirmBalance k).conflicts = s.conflicts := by simp [State.confirmBalance]
@[simp] theorem State.confirmBalance_channels (s : State) (k : Fin 16) :
    (s.confirmBalance k).channels = s.channels := by simp [State.confirmBalance]
@[simp] theorem State.confirmBalance_profiles (s : State) (k : Fin 16) :
    (s.confirmBalance k).profiles = s.profiles := by simp [State.confirmBalance]
@[simp] theorem State.confirmBalance_plans (s : State) (k : Fin 16) :
    (s.confirmBalance k).plans = s.plans := by simp [State.confirmBalance]
@[simp] theorem State.confirmBalance_stages (s : State) (k : Fin 16) :
    (s.confirmBalance k).stages = s.stages := by simp [State.confirmBalance]
@[simp] theorem State.confirmBalance_schedule (s : State) (k : Fin 16) :
    (s.confirmBalance k).schedule = s.schedule := by simp [State.confirmBalance]
@[simp] theorem State.confirmBalance_detectors (s : State) (k : Fin 16) :
    (s.confirmBalance k).detectors = s.detectors := by simp [State.confirmBalance]
@[simp] theorem State.confirmBalance_junctionRev (s : State) (k : Fin 16) :
    (s.confirmBalance k).junctionRev = s.junctionRev := by simp [State.confirmBalance]
@[simp] theorem State.confirmBalance_counted (s : State) (k : Fin 16) :
    (s.confirmBalance k).counted = s.counted := by simp [State.confirmBalance]

@[simp] theorem State.openBad_pending (s : State) (k : Fin 16) :
    (s.openBad k).pending = s.pending := by simp only [State.openBad] <;> (repeat' split) <;> simp
@[simp] theorem State.openBad_link (s : State) (k : Fin 16) :
    (s.openBad k).link = s.link := by simp only [State.openBad] <;> (repeat' split) <;> simp
@[simp] theorem State.openBad_base (s : State) (k : Fin 16) :
    (s.openBad k).base = s.base := by simp only [State.openBad] <;> (repeat' split) <;> simp
@[simp] theorem State.openBad_sched (s : State) (k : Fin 16) :
    (s.openBad k).sched = s.sched := by simp only [State.openBad] <;> (repeat' split) <;> simp
@[simp] theorem State.openBad_seq (s : State) (k : Fin 16) :
    (s.openBad k).seq = s.seq := by simp only [State.openBad] <;> (repeat' split) <;> simp
@[simp] theorem State.openBad_sampler (s : State) (k : Fin 16) :
    (s.openBad k).sampler = s.sampler := by simp only [State.openBad] <;> (repeat' split) <;> simp
@[simp] theorem State.openBad_sup (s : State) (k : Fin 16) :
    (s.openBad k).sup = s.sup := by simp only [State.openBad] <;> (repeat' split) <;> simp
@[simp] theorem State.openBad_bridge (s : State) (k : Fin 16) :
    (s.openBad k).bridge = s.bridge := by simp only [State.openBad] <;> (repeat' split) <;> simp
@[simp] theorem State.openBad_port (s : State) (k : Fin 16) :
    (s.openBad k).port = s.port := by simp only [State.openBad] <;> (repeat' split) <;> simp
@[simp] theorem State.openBad_conflicts (s : State) (k : Fin 16) :
    (s.openBad k).conflicts = s.conflicts := by simp only [State.openBad] <;> (repeat' split) <;> simp
@[simp] theorem State.openBad_channels (s : State) (k : Fin 16) :
    (s.openBad k).channels = s.channels := by simp only [State.openBad] <;> (repeat' split) <;> simp
@[simp] theorem State.openBad_profiles (s : State) (k : Fin 16) :
    (s.openBad k).profiles = s.profiles := by simp only [State.openBad] <;> (repeat' split) <;> simp
@[simp] theorem State.openBad_plans (s : State) (k : Fin 16) :
    (s.openBad k).plans = s.plans := by simp only [State.openBad] <;> (repeat' split) <;> simp
@[simp] theorem State.openBad_stages (s : State) (k : Fin 16) :
    (s.openBad k).stages = s.stages := by simp only [State.openBad] <;> (repeat' split) <;> simp
@[simp] theorem State.openBad_schedule (s : State) (k : Fin 16) :
    (s.openBad k).schedule = s.schedule := by simp only [State.openBad] <;> (repeat' split) <;> simp
@[simp] theorem State.openBad_detectors (s : State) (k : Fin 16) :
    (s.openBad k).detectors = s.detectors := by simp only [State.openBad] <;> (repeat' split) <;> simp
@[simp] theorem State.openBad_counted (s : State) (k : Fin 16) :
    (s.openBad k).counted = s.counted := by simp only [State.openBad] <;> (repeat' split) <;> simp

@[simp] theorem State.judgeBalance_pending (s : State) (k : Fin 16) :
    (s.judgeBalance k).pending = s.pending := by simp only [State.judgeBalance] <;> (repeat' split) <;> simp
@[simp] theorem State.judgeBalance_link (s : State) (k : Fin 16) :
    (s.judgeBalance k).link = s.link := by simp only [State.judgeBalance] <;> (repeat' split) <;> simp
@[simp] theorem State.judgeBalance_base (s : State) (k : Fin 16) :
    (s.judgeBalance k).base = s.base := by simp only [State.judgeBalance] <;> (repeat' split) <;> simp
@[simp] theorem State.judgeBalance_sched (s : State) (k : Fin 16) :
    (s.judgeBalance k).sched = s.sched := by simp only [State.judgeBalance] <;> (repeat' split) <;> simp
@[simp] theorem State.judgeBalance_seq (s : State) (k : Fin 16) :
    (s.judgeBalance k).seq = s.seq := by simp only [State.judgeBalance] <;> (repeat' split) <;> simp
@[simp] theorem State.judgeBalance_sampler (s : State) (k : Fin 16) :
    (s.judgeBalance k).sampler = s.sampler := by simp only [State.judgeBalance] <;> (repeat' split) <;> simp
@[simp] theorem State.judgeBalance_sup (s : State) (k : Fin 16) :
    (s.judgeBalance k).sup = s.sup := by simp only [State.judgeBalance] <;> (repeat' split) <;> simp
@[simp] theorem State.judgeBalance_bridge (s : State) (k : Fin 16) :
    (s.judgeBalance k).bridge = s.bridge := by simp only [State.judgeBalance] <;> (repeat' split) <;> simp
@[simp] theorem State.judgeBalance_port (s : State) (k : Fin 16) :
    (s.judgeBalance k).port = s.port := by simp only [State.judgeBalance] <;> (repeat' split) <;> simp
@[simp] theorem State.judgeBalance_conflicts (s : State) (k : Fin 16) :
    (s.judgeBalance k).conflicts = s.conflicts := by simp only [State.judgeBalance] <;> (repeat' split) <;> simp
@[simp] theorem State.judgeBalance_channels (s : State) (k : Fin 16) :
    (s.judgeBalance k).channels = s.channels := by simp only [State.judgeBalance] <;> (repeat' split) <;> simp
@[simp] theorem State.judgeBalance_profiles (s : State) (k : Fin 16) :
    (s.judgeBalance k).profiles = s.profiles := by simp only [State.judgeBalance] <;> (repeat' split) <;> simp
@[simp] theorem State.judgeBalance_plans (s : State) (k : Fin 16) :
    (s.judgeBalance k).plans = s.plans := by simp only [State.judgeBalance] <;> (repeat' split) <;> simp
@[simp] theorem State.judgeBalance_stages (s : State) (k : Fin 16) :
    (s.judgeBalance k).stages = s.stages := by simp only [State.judgeBalance] <;> (repeat' split) <;> simp
@[simp] theorem State.judgeBalance_schedule (s : State) (k : Fin 16) :
    (s.judgeBalance k).schedule = s.schedule := by simp only [State.judgeBalance] <;> (repeat' split) <;> simp
@[simp] theorem State.judgeBalance_detectors (s : State) (k : Fin 16) :
    (s.judgeBalance k).detectors = s.detectors := by simp only [State.judgeBalance] <;> (repeat' split) <;> simp
@[simp] theorem State.judgeBalance_counted (s : State) (k : Fin 16) :
    (s.judgeBalance k).counted = s.counted := by simp only [State.judgeBalance] <;> (repeat' split) <;> simp

@[simp] theorem State.evaluateCable_pending (s : State) (k : Fin 16) :
    (s.evaluateCable k).pending = s.pending := by simp only [State.evaluateCable] <;> (repeat' split) <;> simp
@[simp] theorem State.evaluateCable_link (s : State) (k : Fin 16) :
    (s.evaluateCable k).link = s.link := by simp only [State.evaluateCable] <;> (repeat' split) <;> simp
@[simp] theorem State.evaluateCable_base (s : State) (k : Fin 16) :
    (s.evaluateCable k).base = s.base := by simp only [State.evaluateCable] <;> (repeat' split) <;> simp
@[simp] theorem State.evaluateCable_sched (s : State) (k : Fin 16) :
    (s.evaluateCable k).sched = s.sched := by simp only [State.evaluateCable] <;> (repeat' split) <;> simp
@[simp] theorem State.evaluateCable_seq (s : State) (k : Fin 16) :
    (s.evaluateCable k).seq = s.seq := by simp only [State.evaluateCable] <;> (repeat' split) <;> simp
@[simp] theorem State.evaluateCable_sampler (s : State) (k : Fin 16) :
    (s.evaluateCable k).sampler = s.sampler := by simp only [State.evaluateCable] <;> (repeat' split) <;> simp
@[simp] theorem State.evaluateCable_sup (s : State) (k : Fin 16) :
    (s.evaluateCable k).sup = s.sup := by simp only [State.evaluateCable] <;> (repeat' split) <;> simp
@[simp] theorem State.evaluateCable_bridge (s : State) (k : Fin 16) :
    (s.evaluateCable k).bridge = s.bridge := by simp only [State.evaluateCable] <;> (repeat' split) <;> simp
@[simp] theorem State.evaluateCable_port (s : State) (k : Fin 16) :
    (s.evaluateCable k).port = s.port := by simp only [State.evaluateCable] <;> (repeat' split) <;> simp
@[simp] theorem State.evaluateCable_conflicts (s : State) (k : Fin 16) :
    (s.evaluateCable k).conflicts = s.conflicts := by simp only [State.evaluateCable] <;> (repeat' split) <;> simp
@[simp] theorem State.evaluateCable_channels (s : State) (k : Fin 16) :
    (s.evaluateCable k).channels = s.channels := by simp only [State.evaluateCable] <;> (repeat' split) <;> simp
@[simp] theorem State.evaluateCable_profiles (s : State) (k : Fin 16) :
    (s.evaluateCable k).profiles = s.profiles := by simp only [State.evaluateCable] <;> (repeat' split) <;> simp
@[simp] theorem State.evaluateCable_plans (s : State) (k : Fin 16) :
    (s.evaluateCable k).plans = s.plans := by simp only [State.evaluateCable] <;> (repeat' split) <;> simp
@[simp] theorem State.evaluateCable_stages (s : State) (k : Fin 16) :
    (s.evaluateCable k).stages = s.stages := by simp only [State.evaluateCable] <;> (repeat' split) <;> simp
@[simp] theorem State.evaluateCable_schedule (s : State) (k : Fin 16) :
    (s.evaluateCable k).schedule = s.schedule := by simp only [State.evaluateCable] <;> (repeat' split) <;> simp
@[simp] theorem State.evaluateCable_detectors (s : State) (k : Fin 16) :
    (s.evaluateCable k).detectors = s.detectors := by simp only [State.evaluateCable] <;> (repeat' split) <;> simp
@[simp] theorem State.evaluateCable_counted (s : State) (k : Fin 16) :
    (s.evaluateCable k).counted = s.counted := by simp only [State.evaluateCable] <;> (repeat' split) <;> simp

@[simp] theorem State.cableTick_pending (s : State) (r : Option Readings) :
    (s.cableTick r).pending = s.pending := by
  cases r with
  | none => rfl
  | some r => exact (foldl_keeps State.pending _ (by intros; simp) _ _).trans (by simp)
@[simp] theorem State.cableTick_link (s : State) (r : Option Readings) :
    (s.cableTick r).link = s.link := by
  cases r with
  | none => rfl
  | some r => exact (foldl_keeps State.link _ (by intros; simp) _ _).trans (by simp)
@[simp] theorem State.cableTick_base (s : State) (r : Option Readings) :
    (s.cableTick r).base = s.base := by
  cases r with
  | none => rfl
  | some r => exact (foldl_keeps State.base _ (by intros; simp) _ _).trans (by simp)
@[simp] theorem State.cableTick_sched (s : State) (r : Option Readings) :
    (s.cableTick r).sched = s.sched := by
  cases r with
  | none => rfl
  | some r => exact (foldl_keeps State.sched _ (by intros; simp) _ _).trans (by simp)
@[simp] theorem State.cableTick_seq (s : State) (r : Option Readings) :
    (s.cableTick r).seq = s.seq := by
  cases r with
  | none => rfl
  | some r => exact (foldl_keeps State.seq _ (by intros; simp) _ _).trans (by simp)
@[simp] theorem State.cableTick_sampler (s : State) (r : Option Readings) :
    (s.cableTick r).sampler = s.sampler := by
  cases r with
  | none => rfl
  | some r => exact (foldl_keeps State.sampler _ (by intros; simp) _ _).trans (by simp)
@[simp] theorem State.cableTick_sup (s : State) (r : Option Readings) :
    (s.cableTick r).sup = s.sup := by
  cases r with
  | none => rfl
  | some r => exact (foldl_keeps State.sup _ (by intros; simp) _ _).trans (by simp)
@[simp] theorem State.cableTick_bridge (s : State) (r : Option Readings) :
    (s.cableTick r).bridge = s.bridge := by
  cases r with
  | none => rfl
  | some r => exact (foldl_keeps State.bridge _ (by intros; simp) _ _).trans (by simp)
@[simp] theorem State.cableTick_port (s : State) (r : Option Readings) :
    (s.cableTick r).port = s.port := by
  cases r with
  | none => rfl
  | some r => exact (foldl_keeps State.port _ (by intros; simp) _ _).trans (by simp)
@[simp] theorem State.cableTick_conflicts (s : State) (r : Option Readings) :
    (s.cableTick r).conflicts = s.conflicts := by
  cases r with
  | none => rfl
  | some r => exact (foldl_keeps State.conflicts _ (by intros; simp) _ _).trans (by simp)
@[simp] theorem State.cableTick_channels (s : State) (r : Option Readings) :
    (s.cableTick r).channels = s.channels := by
  cases r with
  | none => rfl
  | some r => exact (foldl_keeps State.channels _ (by intros; simp) _ _).trans (by simp)
@[simp] theorem State.cableTick_profiles (s : State) (r : Option Readings) :
    (s.cableTick r).profiles = s.profiles := by
  cases r with
  | none => rfl
  | some r => exact (foldl_keeps State.profiles _ (by intros; simp) _ _).trans (by simp)
@[simp] theorem State.cableTick_plans (s : State) (r : Option Readings) :
    (s.cableTick r).plans = s.plans := by
  cases r with
  | none => rfl
  | some r => exact (foldl_keeps State.plans _ (by intros; simp) _ _).trans (by simp)
@[simp] theorem State.cableTick_stages (s : State) (r : Option Readings) :
    (s.cableTick r).stages = s.stages := by
  cases r with
  | none => rfl
  | some r => exact (foldl_keeps State.stages _ (by intros; simp) _ _).trans (by simp)
@[simp] theorem State.cableTick_schedule (s : State) (r : Option Readings) :
    (s.cableTick r).schedule = s.schedule := by
  cases r with
  | none => rfl
  | some r => exact (foldl_keeps State.schedule _ (by intros; simp) _ _).trans (by simp)
@[simp] theorem State.cableTick_detectors (s : State) (r : Option Readings) :
    (s.cableTick r).detectors = s.detectors := by
  cases r with
  | none => rfl
  | some r => exact (foldl_keeps State.detectors _ (by intros; simp) _ _).trans (by simp)
@[simp] theorem State.cableTick_counted (s : State) (r : Option Readings) :
    (s.cableTick r).counted = s.counted := by
  cases r with
  | none => rfl
  | some r => exact (foldl_keeps State.counted _ (by intros; simp) _ _).trans (by simp)

@[simp] theorem State.withhold_pending (s : State) :
    (s.withhold).pending = s.pending := by simp [State.withhold]
@[simp] theorem State.withhold_link (s : State) :
    (s.withhold).link = s.link := by simp [State.withhold]
@[simp] theorem State.withhold_base (s : State) :
    (s.withhold).base = s.base := by simp [State.withhold]
@[simp] theorem State.withhold_sched (s : State) :
    (s.withhold).sched = s.sched := by simp [State.withhold]
@[simp] theorem State.withhold_sampler (s : State) :
    (s.withhold).sampler = s.sampler := by simp [State.withhold]
@[simp] theorem State.withhold_bridge (s : State) :
    (s.withhold).bridge = s.bridge := by simp [State.withhold]
@[simp] theorem State.withhold_conflicts (s : State) :
    (s.withhold).conflicts = s.conflicts := by simp [State.withhold]
@[simp] theorem State.withhold_channels (s : State) :
    (s.withhold).channels = s.channels := by simp [State.withhold]
@[simp] theorem State.withhold_profiles (s : State) :
    (s.withhold).profiles = s.profiles := by simp [State.withhold]
@[simp] theorem State.withhold_cables (s : State) :
    (s.withhold).cables = s.cables := by simp [State.withhold]
@[simp] theorem State.withhold_plans (s : State) :
    (s.withhold).plans = s.plans := by simp [State.withhold]
@[simp] theorem State.withhold_stages (s : State) :
    (s.withhold).stages = s.stages := by simp [State.withhold]
@[simp] theorem State.withhold_schedule (s : State) :
    (s.withhold).schedule = s.schedule := by simp [State.withhold]
@[simp] theorem State.withhold_detectors (s : State) :
    (s.withhold).detectors = s.detectors := by simp [State.withhold]
@[simp] theorem State.withhold_junctionRev (s : State) :
    (s.withhold).junctionRev = s.junctionRev := by simp [State.withhold]
@[simp] theorem State.withhold_counted (s : State) :
    (s.withhold).counted = s.counted := by simp [State.withhold]

@[simp] theorem State.yieldBridge_pending (s : State) (v : Vector Bool 64) :
    (s.yieldBridge v).pending = s.pending := by simp only [State.yieldBridge] <;> (repeat' split) <;> simp
@[simp] theorem State.yieldBridge_link (s : State) (v : Vector Bool 64) :
    (s.yieldBridge v).link = s.link := by simp only [State.yieldBridge] <;> (repeat' split) <;> simp
@[simp] theorem State.yieldBridge_base (s : State) (v : Vector Bool 64) :
    (s.yieldBridge v).base = s.base := by simp only [State.yieldBridge] <;> (repeat' split) <;> simp
@[simp] theorem State.yieldBridge_sched (s : State) (v : Vector Bool 64) :
    (s.yieldBridge v).sched = s.sched := by simp only [State.yieldBridge] <;> (repeat' split) <;> simp
@[simp] theorem State.yieldBridge_seq (s : State) (v : Vector Bool 64) :
    (s.yieldBridge v).seq = s.seq := by simp only [State.yieldBridge] <;> (repeat' split) <;> simp
@[simp] theorem State.yieldBridge_sampler (s : State) (v : Vector Bool 64) :
    (s.yieldBridge v).sampler = s.sampler := by simp only [State.yieldBridge] <;> (repeat' split) <;> simp
@[simp] theorem State.yieldBridge_sup (s : State) (v : Vector Bool 64) :
    (s.yieldBridge v).sup = s.sup := by simp only [State.yieldBridge] <;> (repeat' split) <;> simp
@[simp] theorem State.yieldBridge_port (s : State) (v : Vector Bool 64) :
    (s.yieldBridge v).port = s.port := by simp only [State.yieldBridge] <;> (repeat' split) <;> simp
@[simp] theorem State.yieldBridge_groups (s : State) (v : Vector Bool 64) :
    (s.yieldBridge v).groups = s.groups := by simp only [State.yieldBridge] <;> (repeat' split) <;> simp
@[simp] theorem State.yieldBridge_conflicts (s : State) (v : Vector Bool 64) :
    (s.yieldBridge v).conflicts = s.conflicts := by simp only [State.yieldBridge] <;> (repeat' split) <;> simp
@[simp] theorem State.yieldBridge_channels (s : State) (v : Vector Bool 64) :
    (s.yieldBridge v).channels = s.channels := by simp only [State.yieldBridge] <;> (repeat' split) <;> simp
@[simp] theorem State.yieldBridge_profiles (s : State) (v : Vector Bool 64) :
    (s.yieldBridge v).profiles = s.profiles := by simp only [State.yieldBridge] <;> (repeat' split) <;> simp
@[simp] theorem State.yieldBridge_plans (s : State) (v : Vector Bool 64) :
    (s.yieldBridge v).plans = s.plans := by simp only [State.yieldBridge] <;> (repeat' split) <;> simp
@[simp] theorem State.yieldBridge_stages (s : State) (v : Vector Bool 64) :
    (s.yieldBridge v).stages = s.stages := by simp only [State.yieldBridge] <;> (repeat' split) <;> simp
@[simp] theorem State.yieldBridge_schedule (s : State) (v : Vector Bool 64) :
    (s.yieldBridge v).schedule = s.schedule := by simp only [State.yieldBridge] <;> (repeat' split) <;> simp
@[simp] theorem State.yieldBridge_detectors (s : State) (v : Vector Bool 64) :
    (s.yieldBridge v).detectors = s.detectors := by simp only [State.yieldBridge] <;> (repeat' split) <;> simp
@[simp] theorem State.yieldBridge_junctionRev (s : State) (v : Vector Bool 64) :
    (s.yieldBridge v).junctionRev = s.junctionRev := by simp only [State.yieldBridge] <;> (repeat' split) <;> simp
@[simp] theorem State.yieldBridge_counted (s : State) (v : Vector Bool 64) :
    (s.yieldBridge v).counted = s.counted := by simp only [State.yieldBridge] <;> (repeat' split) <;> simp

@[simp] theorem State.accept_pending (s : State) (v : Vector Bool 64) :
    (s.accept v).pending = s.pending := by simp [State.accept]
@[simp] theorem State.accept_link (s : State) (v : Vector Bool 64) :
    (s.accept v).link = s.link := by simp [State.accept]
@[simp] theorem State.accept_base (s : State) (v : Vector Bool 64) :
    (s.accept v).base = s.base := by simp [State.accept]
@[simp] theorem State.accept_sched (s : State) (v : Vector Bool 64) :
    (s.accept v).sched = s.sched := by simp [State.accept]
@[simp] theorem State.accept_seq (s : State) (v : Vector Bool 64) :
    (s.accept v).seq = s.seq := by simp [State.accept]
@[simp] theorem State.accept_sampler (s : State) (v : Vector Bool 64) :
    (s.accept v).sampler = s.sampler := by simp [State.accept]
@[simp] theorem State.accept_sup (s : State) (v : Vector Bool 64) :
    (s.accept v).sup = s.sup := by simp [State.accept]
@[simp] theorem State.accept_groups (s : State) (v : Vector Bool 64) :
    (s.accept v).groups = s.groups := by simp [State.accept]
@[simp] theorem State.accept_conflicts (s : State) (v : Vector Bool 64) :
    (s.accept v).conflicts = s.conflicts := by simp [State.accept]
@[simp] theorem State.accept_channels (s : State) (v : Vector Bool 64) :
    (s.accept v).channels = s.channels := by simp [State.accept]
@[simp] theorem State.accept_profiles (s : State) (v : Vector Bool 64) :
    (s.accept v).profiles = s.profiles := by simp [State.accept]
@[simp] theorem State.accept_plans (s : State) (v : Vector Bool 64) :
    (s.accept v).plans = s.plans := by simp [State.accept]
@[simp] theorem State.accept_stages (s : State) (v : Vector Bool 64) :
    (s.accept v).stages = s.stages := by simp [State.accept]
@[simp] theorem State.accept_schedule (s : State) (v : Vector Bool 64) :
    (s.accept v).schedule = s.schedule := by simp [State.accept]
@[simp] theorem State.accept_detectors (s : State) (v : Vector Bool 64) :
    (s.accept v).detectors = s.detectors := by simp [State.accept]
@[simp] theorem State.accept_junctionRev (s : State) (v : Vector Bool 64) :
    (s.accept v).junctionRev = s.junctionRev := by simp [State.accept]
@[simp] theorem State.accept_counted (s : State) (v : Vector Bool 64) :
    (s.accept v).counted = s.counted := by simp [State.accept]

@[simp] theorem State.examine_pending (s : State) (v : Vector Bool 64) :
    (s.examine v).pending = s.pending := by simp only [State.examine] <;> (repeat' split) <;> simp
@[simp] theorem State.examine_link (s : State) (v : Vector Bool 64) :
    (s.examine v).link = s.link := by simp only [State.examine] <;> (repeat' split) <;> simp
@[simp] theorem State.examine_base (s : State) (v : Vector Bool 64) :
    (s.examine v).base = s.base := by simp only [State.examine] <;> (repeat' split) <;> simp
@[simp] theorem State.examine_sched (s : State) (v : Vector Bool 64) :
    (s.examine v).sched = s.sched := by simp only [State.examine] <;> (repeat' split) <;> simp
@[simp] theorem State.examine_sampler (s : State) (v : Vector Bool 64) :
    (s.examine v).sampler = s.sampler := by simp only [State.examine] <;> (repeat' split) <;> simp
@[simp] theorem State.examine_conflicts (s : State) (v : Vector Bool 64) :
    (s.examine v).conflicts = s.conflicts := by simp only [State.examine] <;> (repeat' split) <;> simp
@[simp] theorem State.examine_channels (s : State) (v : Vector Bool 64) :
    (s.examine v).channels = s.channels := by simp only [State.examine] <;> (repeat' split) <;> simp
@[simp] theorem State.examine_profiles (s : State) (v : Vector Bool 64) :
    (s.examine v).profiles = s.profiles := by simp only [State.examine] <;> (repeat' split) <;> simp
@[simp] theorem State.examine_plans (s : State) (v : Vector Bool 64) :
    (s.examine v).plans = s.plans := by simp only [State.examine] <;> (repeat' split) <;> simp
@[simp] theorem State.examine_stages (s : State) (v : Vector Bool 64) :
    (s.examine v).stages = s.stages := by simp only [State.examine] <;> (repeat' split) <;> simp
@[simp] theorem State.examine_schedule (s : State) (v : Vector Bool 64) :
    (s.examine v).schedule = s.schedule := by simp only [State.examine] <;> (repeat' split) <;> simp
@[simp] theorem State.examine_detectors (s : State) (v : Vector Bool 64) :
    (s.examine v).detectors = s.detectors := by simp only [State.examine] <;> (repeat' split) <;> simp
@[simp] theorem State.examine_junctionRev (s : State) (v : Vector Bool 64) :
    (s.examine v).junctionRev = s.junctionRev := by simp only [State.examine] <;> (repeat' split) <;> simp
@[simp] theorem State.examine_counted (s : State) (v : Vector Bool 64) :
    (s.examine v).counted = s.counted := by simp only [State.examine] <;> (repeat' split) <;> simp

@[simp] theorem State.sequencerCycle_pending (s : State) (m : Bool) (d : Set16) :
    (s.sequencerCycle m d).pending = s.pending := by simp only [State.sequencerCycle] <;> (repeat' split) <;> simp
@[simp] theorem State.sequencerCycle_link (s : State) (m : Bool) (d : Set16) :
    (s.sequencerCycle m d).link = s.link := by simp only [State.sequencerCycle] <;> (repeat' split) <;> simp
@[simp] theorem State.sequencerCycle_base (s : State) (m : Bool) (d : Set16) :
    (s.sequencerCycle m d).base = s.base := by simp only [State.sequencerCycle] <;> (repeat' split) <;> simp
@[simp] theorem State.sequencerCycle_sched (s : State) (m : Bool) (d : Set16) :
    (s.sequencerCycle m d).sched = s.sched := by simp only [State.sequencerCycle] <;> (repeat' split) <;> simp
@[simp] theorem State.sequencerCycle_sampler (s : State) (m : Bool) (d : Set16) :
    (s.sequencerCycle m d).sampler = s.sampler := by simp only [State.sequencerCycle] <;> (repeat' split) <;> simp
@[simp] theorem State.sequencerCycle_conflicts (s : State) (m : Bool) (d : Set16) :
    (s.sequencerCycle m d).conflicts = s.conflicts := by simp only [State.sequencerCycle] <;> (repeat' split) <;> simp
@[simp] theorem State.sequencerCycle_channels (s : State) (m : Bool) (d : Set16) :
    (s.sequencerCycle m d).channels = s.channels := by simp only [State.sequencerCycle] <;> (repeat' split) <;> simp
@[simp] theorem State.sequencerCycle_profiles (s : State) (m : Bool) (d : Set16) :
    (s.sequencerCycle m d).profiles = s.profiles := by simp only [State.sequencerCycle] <;> (repeat' split) <;> simp
@[simp] theorem State.sequencerCycle_plans (s : State) (m : Bool) (d : Set16) :
    (s.sequencerCycle m d).plans = s.plans := by simp only [State.sequencerCycle] <;> (repeat' split) <;> simp
@[simp] theorem State.sequencerCycle_stages (s : State) (m : Bool) (d : Set16) :
    (s.sequencerCycle m d).stages = s.stages := by simp only [State.sequencerCycle] <;> (repeat' split) <;> simp
@[simp] theorem State.sequencerCycle_schedule (s : State) (m : Bool) (d : Set16) :
    (s.sequencerCycle m d).schedule = s.schedule := by simp only [State.sequencerCycle] <;> (repeat' split) <;> simp
@[simp] theorem State.sequencerCycle_counted (s : State) (m : Bool) (d : Set16) :
    (s.sequencerCycle m d).counted = s.counted := by simp only [State.sequencerCycle] <;> (repeat' split) <;> simp

@[simp] theorem State.provenConflict_pending (s : State) (i j : Fin 16) :
    (s.provenConflict i j).pending = s.pending := by simp [State.provenConflict]
@[simp] theorem State.provenConflict_link (s : State) (i j : Fin 16) :
    (s.provenConflict i j).link = s.link := by simp [State.provenConflict]
@[simp] theorem State.provenConflict_base (s : State) (i j : Fin 16) :
    (s.provenConflict i j).base = s.base := by simp [State.provenConflict]
@[simp] theorem State.provenConflict_sched (s : State) (i j : Fin 16) :
    (s.provenConflict i j).sched = s.sched := by simp [State.provenConflict]
@[simp] theorem State.provenConflict_sampler (s : State) (i j : Fin 16) :
    (s.provenConflict i j).sampler = s.sampler := by simp [State.provenConflict]
@[simp] theorem State.provenConflict_bridge (s : State) (i j : Fin 16) :
    (s.provenConflict i j).bridge = s.bridge := by simp [State.provenConflict]
@[simp] theorem State.provenConflict_conflicts (s : State) (i j : Fin 16) :
    (s.provenConflict i j).conflicts = s.conflicts := by simp [State.provenConflict]
@[simp] theorem State.provenConflict_channels (s : State) (i j : Fin 16) :
    (s.provenConflict i j).channels = s.channels := by simp [State.provenConflict]
@[simp] theorem State.provenConflict_profiles (s : State) (i j : Fin 16) :
    (s.provenConflict i j).profiles = s.profiles := by simp [State.provenConflict]
@[simp] theorem State.provenConflict_cables (s : State) (i j : Fin 16) :
    (s.provenConflict i j).cables = s.cables := by simp [State.provenConflict]
@[simp] theorem State.provenConflict_plans (s : State) (i j : Fin 16) :
    (s.provenConflict i j).plans = s.plans := by simp [State.provenConflict]
@[simp] theorem State.provenConflict_stages (s : State) (i j : Fin 16) :
    (s.provenConflict i j).stages = s.stages := by simp [State.provenConflict]
@[simp] theorem State.provenConflict_schedule (s : State) (i j : Fin 16) :
    (s.provenConflict i j).schedule = s.schedule := by simp [State.provenConflict]
@[simp] theorem State.provenConflict_detectors (s : State) (i j : Fin 16) :
    (s.provenConflict i j).detectors = s.detectors := by simp [State.provenConflict]
@[simp] theorem State.provenConflict_junctionRev (s : State) (i j : Fin 16) :
    (s.provenConflict i j).junctionRev = s.junctionRev := by simp [State.provenConflict]
@[simp] theorem State.provenConflict_counted (s : State) (i j : Fin 16) :
    (s.provenConflict i j).counted = s.counted := by simp [State.provenConflict]

@[simp] theorem State.evidenceTick_pending (s : State) (u : Supervisor) (m : Bool) (e : Vector Bool 64) :
    (s.evidenceTick u m e).pending = s.pending := by simp only [State.evidenceTick] <;> (repeat' split) <;> simp
@[simp] theorem State.evidenceTick_link (s : State) (u : Supervisor) (m : Bool) (e : Vector Bool 64) :
    (s.evidenceTick u m e).link = s.link := by simp only [State.evidenceTick] <;> (repeat' split) <;> simp
@[simp] theorem State.evidenceTick_base (s : State) (u : Supervisor) (m : Bool) (e : Vector Bool 64) :
    (s.evidenceTick u m e).base = s.base := by simp only [State.evidenceTick] <;> (repeat' split) <;> simp
@[simp] theorem State.evidenceTick_sched (s : State) (u : Supervisor) (m : Bool) (e : Vector Bool 64) :
    (s.evidenceTick u m e).sched = s.sched := by simp only [State.evidenceTick] <;> (repeat' split) <;> simp
@[simp] theorem State.evidenceTick_sampler (s : State) (u : Supervisor) (m : Bool) (e : Vector Bool 64) :
    (s.evidenceTick u m e).sampler = s.sampler := by simp only [State.evidenceTick] <;> (repeat' split) <;> simp
@[simp] theorem State.evidenceTick_bridge (s : State) (u : Supervisor) (m : Bool) (e : Vector Bool 64) :
    (s.evidenceTick u m e).bridge = s.bridge := by simp only [State.evidenceTick] <;> (repeat' split) <;> simp
@[simp] theorem State.evidenceTick_conflicts (s : State) (u : Supervisor) (m : Bool) (e : Vector Bool 64) :
    (s.evidenceTick u m e).conflicts = s.conflicts := by simp only [State.evidenceTick] <;> (repeat' split) <;> simp
@[simp] theorem State.evidenceTick_channels (s : State) (u : Supervisor) (m : Bool) (e : Vector Bool 64) :
    (s.evidenceTick u m e).channels = s.channels := by simp only [State.evidenceTick] <;> (repeat' split) <;> simp
@[simp] theorem State.evidenceTick_profiles (s : State) (u : Supervisor) (m : Bool) (e : Vector Bool 64) :
    (s.evidenceTick u m e).profiles = s.profiles := by simp only [State.evidenceTick] <;> (repeat' split) <;> simp
@[simp] theorem State.evidenceTick_plans (s : State) (u : Supervisor) (m : Bool) (e : Vector Bool 64) :
    (s.evidenceTick u m e).plans = s.plans := by simp only [State.evidenceTick] <;> (repeat' split) <;> simp
@[simp] theorem State.evidenceTick_stages (s : State) (u : Supervisor) (m : Bool) (e : Vector Bool 64) :
    (s.evidenceTick u m e).stages = s.stages := by simp only [State.evidenceTick] <;> (repeat' split) <;> simp
@[simp] theorem State.evidenceTick_schedule (s : State) (u : Supervisor) (m : Bool) (e : Vector Bool 64) :
    (s.evidenceTick u m e).schedule = s.schedule := by simp only [State.evidenceTick] <;> (repeat' split) <;> simp
@[simp] theorem State.evidenceTick_detectors (s : State) (u : Supervisor) (m : Bool) (e : Vector Bool 64) :
    (s.evidenceTick u m e).detectors = s.detectors := by simp only [State.evidenceTick] <;> (repeat' split) <;> simp
@[simp] theorem State.evidenceTick_counted (s : State) (u : Supervisor) (m : Bool) (e : Vector Bool 64) :
    (s.evidenceTick u m e).counted = s.counted := by simp only [State.evidenceTick] <;> (repeat' split) <;> simp

@[simp] theorem State.limitDarkTest_pending (s : State) :
    (s.limitDarkTest).pending = s.pending := by
  simp only [State.limitDarkTest, State.beginAllRed_pending, State.post_pending]
  exact foldl_keeps State.pending _ (by intros; simp) _ _
@[simp] theorem State.limitDarkTest_link (s : State) :
    (s.limitDarkTest).link = s.link := by
  simp only [State.limitDarkTest, State.beginAllRed_link, State.post_link]
  exact foldl_keeps State.link _ (by intros; simp) _ _
@[simp] theorem State.limitDarkTest_base (s : State) :
    (s.limitDarkTest).base = s.base := by
  simp only [State.limitDarkTest, State.beginAllRed_base, State.post_base]
  exact foldl_keeps State.base _ (by intros; simp) _ _
@[simp] theorem State.limitDarkTest_sched (s : State) :
    (s.limitDarkTest).sched = s.sched := by
  simp only [State.limitDarkTest, State.beginAllRed_sched, State.post_sched]
  exact foldl_keeps State.sched _ (by intros; simp) _ _
@[simp] theorem State.limitDarkTest_sampler (s : State) :
    (s.limitDarkTest).sampler = s.sampler := by
  simp only [State.limitDarkTest, State.beginAllRed_sampler, State.post_sampler]
  exact foldl_keeps State.sampler _ (by intros; simp) _ _
@[simp] theorem State.limitDarkTest_conflicts (s : State) :
    (s.limitDarkTest).conflicts = s.conflicts := by
  simp only [State.limitDarkTest, State.beginAllRed_conflicts, State.post_conflicts]
  exact foldl_keeps State.conflicts _ (by intros; simp) _ _
@[simp] theorem State.limitDarkTest_channels (s : State) :
    (s.limitDarkTest).channels = s.channels := by
  simp only [State.limitDarkTest, State.beginAllRed_channels, State.post_channels]
  exact foldl_keeps State.channels _ (by intros; simp) _ _
@[simp] theorem State.limitDarkTest_profiles (s : State) :
    (s.limitDarkTest).profiles = s.profiles := by
  simp only [State.limitDarkTest, State.beginAllRed_profiles, State.post_profiles]
  exact foldl_keeps State.profiles _ (by intros; simp) _ _
@[simp] theorem State.limitDarkTest_plans (s : State) :
    (s.limitDarkTest).plans = s.plans := by
  simp only [State.limitDarkTest, State.beginAllRed_plans, State.post_plans]
  exact foldl_keeps State.plans _ (by intros; simp) _ _
@[simp] theorem State.limitDarkTest_stages (s : State) :
    (s.limitDarkTest).stages = s.stages := by
  simp only [State.limitDarkTest, State.beginAllRed_stages, State.post_stages]
  exact foldl_keeps State.stages _ (by intros; simp) _ _
@[simp] theorem State.limitDarkTest_schedule (s : State) :
    (s.limitDarkTest).schedule = s.schedule := by
  simp only [State.limitDarkTest, State.beginAllRed_schedule, State.post_schedule]
  exact foldl_keeps State.schedule _ (by intros; simp) _ _
@[simp] theorem State.limitDarkTest_detectors (s : State) :
    (s.limitDarkTest).detectors = s.detectors := by
  simp only [State.limitDarkTest, State.beginAllRed_detectors, State.post_detectors]
  exact foldl_keeps State.detectors _ (by intros; simp) _ _
@[simp] theorem State.limitDarkTest_junctionRev (s : State) :
    (s.limitDarkTest).junctionRev = s.junctionRev := by
  simp only [State.limitDarkTest, State.beginAllRed_junctionRev, State.post_junctionRev]
  exact foldl_keeps State.junctionRev _ (by intros; simp) _ _
@[simp] theorem State.limitDarkTest_counted (s : State) :
    (s.limitDarkTest).counted = s.counted := by
  simp only [State.limitDarkTest, State.beginAllRed_counted, State.post_counted]
  exact foldl_keeps State.counted _ (by intros; simp) _ _

@[simp] theorem State.judgePhase_pending (s : State) :
    (s.judgePhase).pending = s.pending := by simp only [State.judgePhase] <;> (repeat' split) <;> simp
@[simp] theorem State.judgePhase_link (s : State) :
    (s.judgePhase).link = s.link := by simp only [State.judgePhase] <;> (repeat' split) <;> simp
@[simp] theorem State.judgePhase_base (s : State) :
    (s.judgePhase).base = s.base := by simp only [State.judgePhase] <;> (repeat' split) <;> simp
@[simp] theorem State.judgePhase_sched (s : State) :
    (s.judgePhase).sched = s.sched := by simp only [State.judgePhase] <;> (repeat' split) <;> simp
@[simp] theorem State.judgePhase_sampler (s : State) :
    (s.judgePhase).sampler = s.sampler := by simp only [State.judgePhase] <;> (repeat' split) <;> simp
@[simp] theorem State.judgePhase_conflicts (s : State) :
    (s.judgePhase).conflicts = s.conflicts := by simp only [State.judgePhase] <;> (repeat' split) <;> simp
@[simp] theorem State.judgePhase_channels (s : State) :
    (s.judgePhase).channels = s.channels := by simp only [State.judgePhase] <;> (repeat' split) <;> simp
@[simp] theorem State.judgePhase_profiles (s : State) :
    (s.judgePhase).profiles = s.profiles := by simp only [State.judgePhase] <;> (repeat' split) <;> simp
@[simp] theorem State.judgePhase_plans (s : State) :
    (s.judgePhase).plans = s.plans := by simp only [State.judgePhase] <;> (repeat' split) <;> simp
@[simp] theorem State.judgePhase_stages (s : State) :
    (s.judgePhase).stages = s.stages := by simp only [State.judgePhase] <;> (repeat' split) <;> simp
@[simp] theorem State.judgePhase_schedule (s : State) :
    (s.judgePhase).schedule = s.schedule := by simp only [State.judgePhase] <;> (repeat' split) <;> simp
@[simp] theorem State.judgePhase_counted (s : State) :
    (s.judgePhase).counted = s.counted := by simp only [State.judgePhase] <;> (repeat' split) <;> simp

@[simp] theorem State.supervisorTenth_pending (s : State) :
    (s.supervisorTenth).pending = s.pending := by simp [State.supervisorTenth]
@[simp] theorem State.supervisorTenth_link (s : State) :
    (s.supervisorTenth).link = s.link := by simp [State.supervisorTenth]
@[simp] theorem State.supervisorTenth_base (s : State) :
    (s.supervisorTenth).base = s.base := by simp [State.supervisorTenth]
@[simp] theorem State.supervisorTenth_sched (s : State) :
    (s.supervisorTenth).sched = s.sched := by simp [State.supervisorTenth]
@[simp] theorem State.supervisorTenth_sampler (s : State) :
    (s.supervisorTenth).sampler = s.sampler := by simp [State.supervisorTenth]
@[simp] theorem State.supervisorTenth_conflicts (s : State) :
    (s.supervisorTenth).conflicts = s.conflicts := by simp [State.supervisorTenth]
@[simp] theorem State.supervisorTenth_channels (s : State) :
    (s.supervisorTenth).channels = s.channels := by simp [State.supervisorTenth]
@[simp] theorem State.supervisorTenth_profiles (s : State) :
    (s.supervisorTenth).profiles = s.profiles := by simp [State.supervisorTenth]
@[simp] theorem State.supervisorTenth_plans (s : State) :
    (s.supervisorTenth).plans = s.plans := by simp [State.supervisorTenth]
@[simp] theorem State.supervisorTenth_stages (s : State) :
    (s.supervisorTenth).stages = s.stages := by simp [State.supervisorTenth]
@[simp] theorem State.supervisorTenth_schedule (s : State) :
    (s.supervisorTenth).schedule = s.schedule := by simp [State.supervisorTenth]
@[simp] theorem State.supervisorTenth_counted (s : State) :
    (s.supervisorTenth).counted = s.counted := by simp [State.supervisorTenth]

@[simp] theorem State.queueAndPhase_pending (s : State) (i : TenthInput) :
    (s.queueAndPhase i).pending = s.pending := by simp only [State.queueAndPhase] <;> (repeat' split) <;> simp
@[simp] theorem State.queueAndPhase_link (s : State) (i : TenthInput) :
    (s.queueAndPhase i).link = s.link := by simp only [State.queueAndPhase] <;> (repeat' split) <;> simp
@[simp] theorem State.queueAndPhase_base (s : State) (i : TenthInput) :
    (s.queueAndPhase i).base = s.base := by simp only [State.queueAndPhase] <;> (repeat' split) <;> simp
@[simp] theorem State.queueAndPhase_sched (s : State) (i : TenthInput) :
    (s.queueAndPhase i).sched = s.sched := by simp only [State.queueAndPhase] <;> (repeat' split) <;> simp
@[simp] theorem State.queueAndPhase_sampler (s : State) (i : TenthInput) :
    (s.queueAndPhase i).sampler = s.sampler := by simp only [State.queueAndPhase] <;> (repeat' split) <;> simp
@[simp] theorem State.queueAndPhase_conflicts (s : State) (i : TenthInput) :
    (s.queueAndPhase i).conflicts = s.conflicts := by simp only [State.queueAndPhase] <;> (repeat' split) <;> simp
@[simp] theorem State.queueAndPhase_channels (s : State) (i : TenthInput) :
    (s.queueAndPhase i).channels = s.channels := by simp only [State.queueAndPhase] <;> (repeat' split) <;> simp
@[simp] theorem State.queueAndPhase_profiles (s : State) (i : TenthInput) :
    (s.queueAndPhase i).profiles = s.profiles := by simp only [State.queueAndPhase] <;> (repeat' split) <;> simp
@[simp] theorem State.queueAndPhase_plans (s : State) (i : TenthInput) :
    (s.queueAndPhase i).plans = s.plans := by simp only [State.queueAndPhase] <;> (repeat' split) <;> simp
@[simp] theorem State.queueAndPhase_stages (s : State) (i : TenthInput) :
    (s.queueAndPhase i).stages = s.stages := by simp only [State.queueAndPhase] <;> (repeat' split) <;> simp
@[simp] theorem State.queueAndPhase_schedule (s : State) (i : TenthInput) :
    (s.queueAndPhase i).schedule = s.schedule := by simp only [State.queueAndPhase] <;> (repeat' split) <;> simp
@[simp] theorem State.queueAndPhase_counted (s : State) (i : TenthInput) :
    (s.queueAndPhase i).counted = s.counted := by simp only [State.queueAndPhase] <;> (repeat' split) <;> simp

@[simp] theorem State.tenth_pending (s : State) (i : TenthInput) :
    (s.tenth i).pending = s.pending := by simp only [State.tenth] <;> (repeat' split) <;> simp
@[simp] theorem State.tenth_link (s : State) (i : TenthInput) :
    (s.tenth i).link = s.link := by simp only [State.tenth] <;> (repeat' split) <;> simp
@[simp] theorem State.tenth_sampler (s : State) (i : TenthInput) :
    (s.tenth i).sampler = s.sampler := by simp only [State.tenth] <;> (repeat' split) <;> simp
@[simp] theorem State.tenth_conflicts (s : State) (i : TenthInput) :
    (s.tenth i).conflicts = s.conflicts := by simp only [State.tenth] <;> (repeat' split) <;> simp
@[simp] theorem State.tenth_profiles (s : State) (i : TenthInput) :
    (s.tenth i).profiles = s.profiles := by simp only [State.tenth] <;> (repeat' split) <;> simp
@[simp] theorem State.tenth_plans (s : State) (i : TenthInput) :
    (s.tenth i).plans = s.plans := by simp only [State.tenth] <;> (repeat' split) <;> simp
@[simp] theorem State.tenth_stages (s : State) (i : TenthInput) :
    (s.tenth i).stages = s.stages := by simp only [State.tenth] <;> (repeat' split) <;> simp
@[simp] theorem State.tenth_schedule (s : State) (i : TenthInput) :
    (s.tenth i).schedule = s.schedule := by simp only [State.tenth] <;> (repeat' split) <;> simp
@[simp] theorem State.tenth_counted (s : State) (i : TenthInput) :
    (s.tenth i).counted = s.counted := by simp only [State.tenth] <;> (repeat' split) <;> simp

@[simp] theorem State.atTurn_pending (s : State) (m : Bool) (i : TickInput) (n : Nat) :
    (s.atTurn m i n).pending = s.pending := by simp only [State.atTurn] <;> (repeat' split) <;> simp
@[simp] theorem State.atTurn_link (s : State) (m : Bool) (i : TickInput) (n : Nat) :
    (s.atTurn m i n).link = s.link := by simp only [State.atTurn] <;> (repeat' split) <;> simp
@[simp] theorem State.atTurn_base (s : State) (m : Bool) (i : TickInput) (n : Nat) :
    (s.atTurn m i n).base = s.base := by simp only [State.atTurn] <;> (repeat' split) <;> simp
@[simp] theorem State.atTurn_sched (s : State) (m : Bool) (i : TickInput) (n : Nat) :
    (s.atTurn m i n).sched = s.sched := by simp only [State.atTurn] <;> (repeat' split) <;> simp
@[simp] theorem State.atTurn_sampler (s : State) (m : Bool) (i : TickInput) (n : Nat) :
    (s.atTurn m i n).sampler = s.sampler := by simp only [State.atTurn] <;> (repeat' split) <;> simp
@[simp] theorem State.atTurn_conflicts (s : State) (m : Bool) (i : TickInput) (n : Nat) :
    (s.atTurn m i n).conflicts = s.conflicts := by simp only [State.atTurn] <;> (repeat' split) <;> simp
@[simp] theorem State.atTurn_channels (s : State) (m : Bool) (i : TickInput) (n : Nat) :
    (s.atTurn m i n).channels = s.channels := by simp only [State.atTurn] <;> (repeat' split) <;> simp
@[simp] theorem State.atTurn_profiles (s : State) (m : Bool) (i : TickInput) (n : Nat) :
    (s.atTurn m i n).profiles = s.profiles := by simp only [State.atTurn] <;> (repeat' split) <;> simp
@[simp] theorem State.atTurn_plans (s : State) (m : Bool) (i : TickInput) (n : Nat) :
    (s.atTurn m i n).plans = s.plans := by simp only [State.atTurn] <;> (repeat' split) <;> simp
@[simp] theorem State.atTurn_stages (s : State) (m : Bool) (i : TickInput) (n : Nat) :
    (s.atTurn m i n).stages = s.stages := by simp only [State.atTurn] <;> (repeat' split) <;> simp
@[simp] theorem State.atTurn_schedule (s : State) (m : Bool) (i : TickInput) (n : Nat) :
    (s.atTurn m i n).schedule = s.schedule := by simp only [State.atTurn] <;> (repeat' split) <;> simp
@[simp] theorem State.atTurn_counted (s : State) (m : Bool) (i : TickInput) (n : Nat) :
    (s.atTurn m i n).counted = s.counted := by simp only [State.atTurn] <;> (repeat' split) <;> simp

/-- What every work that follows the proving unit's keeps, the three of them keep in any order. -/
theorem tickWorks_keeps {γ : Type} (g : State → γ) (o : TickOrder) (v c e : State → State)
    (hv : ∀ s, g (v s) = g s) (hc : ∀ s, g (c s) = g s) (he : ∀ s, g (e s) = g s) :
    ∀ work ∈ tickWorks o v c e, ∀ s, g (work s) = g s := by
  intro work hw
  have : work ∈ [v, c, e] := by
    unfold tickWorks at hw
    rcases List.mem_append.1 hw with h | h
    · have h := List.mem_of_mem_take h
      split at h <;> simp at h <;> rcases h with h | h <;> simp [h]
    · rcases List.mem_cons.1 h with h | h
      · simp [h]
      · have h := List.mem_of_mem_drop h
        split at h <;> simp at h <;> rcases h with h | h <;> simp [h]
  simp at this
  rcases this with h | h | h <;> subst h <;> assumption

/-- What the works and the sequencer's turn keep, the whole of a tick's works keeps. -/
theorem foldl_works_keeps {γ : Type} (g : State → γ) (m : Bool) (i : TickInput)
    (ht : ∀ (s : State) (n : Nat), g (s.atTurn m i n) = g s) (works : List (State → State))
    (h : ∀ work ∈ works, ∀ s, g (work s) = g s) (p : Nat × State) :
    g (works.foldl (fun (p : Nat × State) work => (p.1 + 1, (work p.2).atTurn m i (p.1 + 1))) p).2 = g p.2 := by
  induction works generalizing p with
  | nil => rfl
  | cons w ws ih =>
    rw [List.foldl_cons, ih (fun x hx => h x (List.mem_cons_of_mem _ hx))]
    exact (ht _ _).trans (h w List.mem_cons_self _)

@[simp] theorem State.tickBlocks_pending (s : State) (m : Bool) (i : TickInput) (o e : Vector Bool 64) :
    (s.tickBlocks m i o e).pending = s.pending := by
  simp only [State.tickBlocks]
  rw [foldl_works_keeps State.pending _ _ (by intros; simp) _
    (tickWorks_keeps State.pending _ _ _ _ (by intros; simp) (by intros; simp) (by intros; simp))]
  simp
@[simp] theorem State.tickBlocks_link (s : State) (m : Bool) (i : TickInput) (o e : Vector Bool 64) :
    (s.tickBlocks m i o e).link = s.link := by
  simp only [State.tickBlocks]
  rw [foldl_works_keeps State.link _ _ (by intros; simp) _
    (tickWorks_keeps State.link _ _ _ _ (by intros; simp) (by intros; simp) (by intros; simp))]
  simp
@[simp] theorem State.tickBlocks_base (s : State) (m : Bool) (i : TickInput) (o e : Vector Bool 64) :
    (s.tickBlocks m i o e).base = s.base := by
  simp only [State.tickBlocks]
  rw [foldl_works_keeps State.base _ _ (by intros; simp) _
    (tickWorks_keeps State.base _ _ _ _ (by intros; simp) (by intros; simp) (by intros; simp))]
  simp
@[simp] theorem State.tickBlocks_sched (s : State) (m : Bool) (i : TickInput) (o e : Vector Bool 64) :
    (s.tickBlocks m i o e).sched = s.sched := by
  simp only [State.tickBlocks]
  rw [foldl_works_keeps State.sched _ _ (by intros; simp) _
    (tickWorks_keeps State.sched _ _ _ _ (by intros; simp) (by intros; simp) (by intros; simp))]
  simp
@[simp] theorem State.tickBlocks_sampler (s : State) (m : Bool) (i : TickInput) (o e : Vector Bool 64) :
    (s.tickBlocks m i o e).sampler = s.sampler := by
  simp only [State.tickBlocks]
  rw [foldl_works_keeps State.sampler _ _ (by intros; simp) _
    (tickWorks_keeps State.sampler _ _ _ _ (by intros; simp) (by intros; simp) (by intros; simp))]
  simp
@[simp] theorem State.tickBlocks_conflicts (s : State) (m : Bool) (i : TickInput) (o e : Vector Bool 64) :
    (s.tickBlocks m i o e).conflicts = s.conflicts := by
  simp only [State.tickBlocks]
  rw [foldl_works_keeps State.conflicts _ _ (by intros; simp) _
    (tickWorks_keeps State.conflicts _ _ _ _ (by intros; simp) (by intros; simp) (by intros; simp))]
  simp
@[simp] theorem State.tickBlocks_profiles (s : State) (m : Bool) (i : TickInput) (o e : Vector Bool 64) :
    (s.tickBlocks m i o e).profiles = s.profiles := by
  simp only [State.tickBlocks]
  rw [foldl_works_keeps State.profiles _ _ (by intros; simp) _
    (tickWorks_keeps State.profiles _ _ _ _ (by intros; simp) (by intros; simp) (by intros; simp))]
  simp
@[simp] theorem State.tickBlocks_plans (s : State) (m : Bool) (i : TickInput) (o e : Vector Bool 64) :
    (s.tickBlocks m i o e).plans = s.plans := by
  simp only [State.tickBlocks]
  rw [foldl_works_keeps State.plans _ _ (by intros; simp) _
    (tickWorks_keeps State.plans _ _ _ _ (by intros; simp) (by intros; simp) (by intros; simp))]
  simp
@[simp] theorem State.tickBlocks_stages (s : State) (m : Bool) (i : TickInput) (o e : Vector Bool 64) :
    (s.tickBlocks m i o e).stages = s.stages := by
  simp only [State.tickBlocks]
  rw [foldl_works_keeps State.stages _ _ (by intros; simp) _
    (tickWorks_keeps State.stages _ _ _ _ (by intros; simp) (by intros; simp) (by intros; simp))]
  simp
@[simp] theorem State.tickBlocks_schedule (s : State) (m : Bool) (i : TickInput) (o e : Vector Bool 64) :
    (s.tickBlocks m i o e).schedule = s.schedule := by
  simp only [State.tickBlocks]
  rw [foldl_works_keeps State.schedule _ _ (by intros; simp) _
    (tickWorks_keeps State.schedule _ _ _ _ (by intros; simp) (by intros; simp) (by intros; simp))]
  simp
@[simp] theorem State.tickBlocks_counted (s : State) (m : Bool) (i : TickInput) (o e : Vector Bool 64) :
    (s.tickBlocks m i o e).counted = s.counted := by
  simp only [State.tickBlocks]
  rw [foldl_works_keeps State.counted _ _ (by intros; simp) _
    (tickWorks_keeps State.counted _ _ _ _ (by intros; simp) (by intros; simp) (by intros; simp))]
  simp

@[simp] theorem State.cycleTick_pending (s : State) (m : Bool) (i : TickInput) :
    (s.cycleTick m i).pending = s.pending := by simp only [State.cycleTick] <;> (repeat' split) <;> simp
@[simp] theorem State.cycleTick_link (s : State) (m : Bool) (i : TickInput) :
    (s.cycleTick m i).link = s.link := by simp only [State.cycleTick] <;> (repeat' split) <;> simp
@[simp] theorem State.cycleTick_base (s : State) (m : Bool) (i : TickInput) :
    (s.cycleTick m i).base = s.base := by simp only [State.cycleTick] <;> (repeat' split) <;> simp
@[simp] theorem State.cycleTick_conflicts (s : State) (m : Bool) (i : TickInput) :
    (s.cycleTick m i).conflicts = s.conflicts := by simp only [State.cycleTick] <;> (repeat' split) <;> simp
@[simp] theorem State.cycleTick_profiles (s : State) (m : Bool) (i : TickInput) :
    (s.cycleTick m i).profiles = s.profiles := by simp only [State.cycleTick] <;> (repeat' split) <;> simp
@[simp] theorem State.cycleTick_plans (s : State) (m : Bool) (i : TickInput) :
    (s.cycleTick m i).plans = s.plans := by simp only [State.cycleTick] <;> (repeat' split) <;> simp
@[simp] theorem State.cycleTick_stages (s : State) (m : Bool) (i : TickInput) :
    (s.cycleTick m i).stages = s.stages := by simp only [State.cycleTick] <;> (repeat' split) <;> simp
@[simp] theorem State.cycleTick_schedule (s : State) (m : Bool) (i : TickInput) :
    (s.cycleTick m i).schedule = s.schedule := by simp only [State.cycleTick] <;> (repeat' split) <;> simp

@[simp] theorem State.setTracker_pending (s : State) (m : MainsState) :
    (s.setTracker m).pending = s.pending := by simp [State.setTracker]
@[simp] theorem State.setTracker_link (s : State) (m : MainsState) :
    (s.setTracker m).link = s.link := by simp [State.setTracker]
@[simp] theorem State.setTracker_sched (s : State) (m : MainsState) :
    (s.setTracker m).sched = s.sched := by simp [State.setTracker]
@[simp] theorem State.setTracker_seq (s : State) (m : MainsState) :
    (s.setTracker m).seq = s.seq := by simp [State.setTracker]
@[simp] theorem State.setTracker_sampler (s : State) (m : MainsState) :
    (s.setTracker m).sampler = s.sampler := by simp [State.setTracker]
@[simp] theorem State.setTracker_sup (s : State) (m : MainsState) :
    (s.setTracker m).sup = s.sup := by simp [State.setTracker]
@[simp] theorem State.setTracker_bridge (s : State) (m : MainsState) :
    (s.setTracker m).bridge = s.bridge := by simp [State.setTracker]
@[simp] theorem State.setTracker_attn (s : State) (m : MainsState) :
    (s.setTracker m).attn = s.attn := by simp [State.setTracker]
@[simp] theorem State.setTracker_port (s : State) (m : MainsState) :
    (s.setTracker m).port = s.port := by simp [State.setTracker]
@[simp] theorem State.setTracker_conflicts (s : State) (m : MainsState) :
    (s.setTracker m).conflicts = s.conflicts := by simp [State.setTracker]
@[simp] theorem State.setTracker_channels (s : State) (m : MainsState) :
    (s.setTracker m).channels = s.channels := by simp [State.setTracker]
@[simp] theorem State.setTracker_profiles (s : State) (m : MainsState) :
    (s.setTracker m).profiles = s.profiles := by simp [State.setTracker]
@[simp] theorem State.setTracker_plans (s : State) (m : MainsState) :
    (s.setTracker m).plans = s.plans := by simp [State.setTracker]
@[simp] theorem State.setTracker_stages (s : State) (m : MainsState) :
    (s.setTracker m).stages = s.stages := by simp [State.setTracker]
@[simp] theorem State.setTracker_schedule (s : State) (m : MainsState) :
    (s.setTracker m).schedule = s.schedule := by simp [State.setTracker]
@[simp] theorem State.setTracker_detectors (s : State) (m : MainsState) :
    (s.setTracker m).detectors = s.detectors := by simp [State.setTracker]
@[simp] theorem State.setTracker_counted (s : State) (m : MainsState) :
    (s.setTracker m).counted = s.counted := by simp [State.setTracker]

@[simp] theorem State.endCycle_pending (s : State) (m : Bool) (i : TickInput) :
    (s.endCycle m i).pending = s.pending := by simp [State.endCycle]
@[simp] theorem State.endCycle_link (s : State) (m : Bool) (i : TickInput) :
    (s.endCycle m i).link = s.link := by simp [State.endCycle]
@[simp] theorem State.endCycle_conflicts (s : State) (m : Bool) (i : TickInput) :
    (s.endCycle m i).conflicts = s.conflicts := by simp [State.endCycle]
@[simp] theorem State.endCycle_profiles (s : State) (m : Bool) (i : TickInput) :
    (s.endCycle m i).profiles = s.profiles := by simp [State.endCycle]
@[simp] theorem State.endCycle_plans (s : State) (m : Bool) (i : TickInput) :
    (s.endCycle m i).plans = s.plans := by simp [State.endCycle]
@[simp] theorem State.endCycle_stages (s : State) (m : Bool) (i : TickInput) :
    (s.endCycle m i).stages = s.stages := by simp [State.endCycle]
@[simp] theorem State.endCycle_schedule (s : State) (m : Bool) (i : TickInput) :
    (s.endCycle m i).schedule = s.schedule := by simp [State.endCycle]

@[simp] theorem State.causedTenth_pending (s : State) (b : TimeBase) (i : TickInput) :
    (s.causedTenth b i).pending = s.pending := by simp only [State.causedTenth] <;> (repeat' split) <;> simp
@[simp] theorem State.causedTenth_link (s : State) (b : TimeBase) (i : TickInput) :
    (s.causedTenth b i).link = s.link := by simp only [State.causedTenth] <;> (repeat' split) <;> simp
@[simp] theorem State.causedTenth_conflicts (s : State) (b : TimeBase) (i : TickInput) :
    (s.causedTenth b i).conflicts = s.conflicts := by simp only [State.causedTenth] <;> (repeat' split) <;> simp
@[simp] theorem State.causedTenth_profiles (s : State) (b : TimeBase) (i : TickInput) :
    (s.causedTenth b i).profiles = s.profiles := by simp only [State.causedTenth] <;> (repeat' split) <;> simp
@[simp] theorem State.causedTenth_plans (s : State) (b : TimeBase) (i : TickInput) :
    (s.causedTenth b i).plans = s.plans := by simp only [State.causedTenth] <;> (repeat' split) <;> simp
@[simp] theorem State.causedTenth_stages (s : State) (b : TimeBase) (i : TickInput) :
    (s.causedTenth b i).stages = s.stages := by simp only [State.causedTenth] <;> (repeat' split) <;> simp
@[simp] theorem State.causedTenth_schedule (s : State) (b : TimeBase) (i : TickInput) :
    (s.causedTenth b i).schedule = s.schedule := by simp only [State.causedTenth] <;> (repeat' split) <;> simp

@[simp] theorem State.takeReturn_pending (s : State) (o : TickOrder) :
    (s.takeReturn o).pending = s.pending := by simp only [State.takeReturn] <;> (repeat' split) <;> simp
@[simp] theorem State.takeReturn_link (s : State) (o : TickOrder) :
    (s.takeReturn o).link = s.link := by simp only [State.takeReturn] <;> (repeat' split) <;> simp
@[simp] theorem State.takeReturn_conflicts (s : State) (o : TickOrder) :
    (s.takeReturn o).conflicts = s.conflicts := by simp only [State.takeReturn] <;> (repeat' split) <;> simp
@[simp] theorem State.takeReturn_profiles (s : State) (o : TickOrder) :
    (s.takeReturn o).profiles = s.profiles := by simp only [State.takeReturn] <;> (repeat' split) <;> simp
@[simp] theorem State.takeReturn_plans (s : State) (o : TickOrder) :
    (s.takeReturn o).plans = s.plans := by simp only [State.takeReturn] <;> (repeat' split) <;> simp
@[simp] theorem State.takeReturn_stages (s : State) (o : TickOrder) :
    (s.takeReturn o).stages = s.stages := by simp only [State.takeReturn] <;> (repeat' split) <;> simp
@[simp] theorem State.takeReturn_schedule (s : State) (o : TickOrder) :
    (s.takeReturn o).schedule = s.schedule := by simp only [State.takeReturn] <;> (repeat' split) <;> simp

@[simp] theorem State.lock_pending (s : State) (o : TickOrder) :
    (s.lock o).pending = s.pending := by simp [State.lock]
@[simp] theorem State.lock_link (s : State) (o : TickOrder) :
    (s.lock o).link = s.link := by simp [State.lock]
@[simp] theorem State.lock_conflicts (s : State) (o : TickOrder) :
    (s.lock o).conflicts = s.conflicts := by simp [State.lock]
@[simp] theorem State.lock_profiles (s : State) (o : TickOrder) :
    (s.lock o).profiles = s.profiles := by simp [State.lock]
@[simp] theorem State.lock_plans (s : State) (o : TickOrder) :
    (s.lock o).plans = s.plans := by simp [State.lock]
@[simp] theorem State.lock_stages (s : State) (o : TickOrder) :
    (s.lock o).stages = s.stages := by simp [State.lock]
@[simp] theorem State.lock_schedule (s : State) (o : TickOrder) :
    (s.lock o).schedule = s.schedule := by simp [State.lock]

@[simp] theorem State.loseMains_pending (s : State) :
    (s.loseMains).pending = s.pending := by simp [State.loseMains]
@[simp] theorem State.loseMains_link (s : State) :
    (s.loseMains).link = s.link := by simp [State.loseMains]
@[simp] theorem State.loseMains_conflicts (s : State) :
    (s.loseMains).conflicts = s.conflicts := by simp [State.loseMains]
@[simp] theorem State.loseMains_profiles (s : State) :
    (s.loseMains).profiles = s.profiles := by simp [State.loseMains]
@[simp] theorem State.loseMains_plans (s : State) :
    (s.loseMains).plans = s.plans := by simp [State.loseMains]
@[simp] theorem State.loseMains_stages (s : State) :
    (s.loseMains).stages = s.stages := by simp [State.loseMains]
@[simp] theorem State.loseMains_schedule (s : State) :
    (s.loseMains).schedule = s.schedule := by simp [State.loseMains]

@[simp] theorem State.slip_pending (s : State) (i : TickInput) :
    (s.slip i).pending = s.pending := by simp [State.slip]
@[simp] theorem State.slip_link (s : State) (i : TickInput) :
    (s.slip i).link = s.link := by simp [State.slip]
@[simp] theorem State.slip_conflicts (s : State) (i : TickInput) :
    (s.slip i).conflicts = s.conflicts := by simp [State.slip]
@[simp] theorem State.slip_profiles (s : State) (i : TickInput) :
    (s.slip i).profiles = s.profiles := by simp [State.slip]
@[simp] theorem State.slip_plans (s : State) (i : TickInput) :
    (s.slip i).plans = s.plans := by simp [State.slip]
@[simp] theorem State.slip_stages (s : State) (i : TickInput) :
    (s.slip i).stages = s.stages := by simp [State.slip]
@[simp] theorem State.slip_schedule (s : State) (i : TickInput) :
    (s.slip i).schedule = s.schedule := by simp [State.slip]

@[simp] theorem State.firstWindow_pending (s : State) (i : TickInput) :
    (s.firstWindow i).pending = s.pending := by simp only [State.firstWindow] <;> (repeat' split) <;> simp
@[simp] theorem State.firstWindow_link (s : State) (i : TickInput) :
    (s.firstWindow i).link = s.link := by simp only [State.firstWindow] <;> (repeat' split) <;> simp
@[simp] theorem State.firstWindow_conflicts (s : State) (i : TickInput) :
    (s.firstWindow i).conflicts = s.conflicts := by simp only [State.firstWindow] <;> (repeat' split) <;> simp
@[simp] theorem State.firstWindow_profiles (s : State) (i : TickInput) :
    (s.firstWindow i).profiles = s.profiles := by simp only [State.firstWindow] <;> (repeat' split) <;> simp
@[simp] theorem State.firstWindow_plans (s : State) (i : TickInput) :
    (s.firstWindow i).plans = s.plans := by simp only [State.firstWindow] <;> (repeat' split) <;> simp
@[simp] theorem State.firstWindow_stages (s : State) (i : TickInput) :
    (s.firstWindow i).stages = s.stages := by simp only [State.firstWindow] <;> (repeat' split) <;> simp
@[simp] theorem State.firstWindow_schedule (s : State) (i : TickInput) :
    (s.firstWindow i).schedule = s.schedule := by simp only [State.firstWindow] <;> (repeat' split) <;> simp

@[simp] theorem State.secondWindow_pending (s : State) :
    (s.secondWindow).pending = s.pending := by simp only [State.secondWindow] <;> (repeat' split) <;> simp
@[simp] theorem State.secondWindow_link (s : State) :
    (s.secondWindow).link = s.link := by simp only [State.secondWindow] <;> (repeat' split) <;> simp
@[simp] theorem State.secondWindow_conflicts (s : State) :
    (s.secondWindow).conflicts = s.conflicts := by simp only [State.secondWindow] <;> (repeat' split) <;> simp
@[simp] theorem State.secondWindow_profiles (s : State) :
    (s.secondWindow).profiles = s.profiles := by simp only [State.secondWindow] <;> (repeat' split) <;> simp
@[simp] theorem State.secondWindow_plans (s : State) :
    (s.secondWindow).plans = s.plans := by simp only [State.secondWindow] <;> (repeat' split) <;> simp
@[simp] theorem State.secondWindow_stages (s : State) :
    (s.secondWindow).stages = s.stages := by simp only [State.secondWindow] <;> (repeat' split) <;> simp
@[simp] theorem State.secondWindow_schedule (s : State) :
    (s.secondWindow).schedule = s.schedule := by simp only [State.secondWindow] <;> (repeat' split) <;> simp

@[simp] theorem State.refer_pending (s : State) (n : Nat) :
    (s.refer n).pending = s.pending := by simp [State.refer]
@[simp] theorem State.refer_link (s : State) (n : Nat) :
    (s.refer n).link = s.link := by simp [State.refer]
@[simp] theorem State.refer_sched (s : State) (n : Nat) :
    (s.refer n).sched = s.sched := by simp [State.refer]
@[simp] theorem State.refer_seq (s : State) (n : Nat) :
    (s.refer n).seq = s.seq := by simp [State.refer]
@[simp] theorem State.refer_sampler (s : State) (n : Nat) :
    (s.refer n).sampler = s.sampler := by simp [State.refer]
@[simp] theorem State.refer_sup (s : State) (n : Nat) :
    (s.refer n).sup = s.sup := by simp [State.refer]
@[simp] theorem State.refer_bridge (s : State) (n : Nat) :
    (s.refer n).bridge = s.bridge := by simp [State.refer]
@[simp] theorem State.refer_attn (s : State) (n : Nat) :
    (s.refer n).attn = s.attn := by simp [State.refer]
@[simp] theorem State.refer_port (s : State) (n : Nat) :
    (s.refer n).port = s.port := by simp [State.refer]
@[simp] theorem State.refer_groups (s : State) (n : Nat) :
    (s.refer n).groups = s.groups := by simp [State.refer]
@[simp] theorem State.refer_conflicts (s : State) (n : Nat) :
    (s.refer n).conflicts = s.conflicts := by simp [State.refer]
@[simp] theorem State.refer_channels (s : State) (n : Nat) :
    (s.refer n).channels = s.channels := by simp [State.refer]
@[simp] theorem State.refer_profiles (s : State) (n : Nat) :
    (s.refer n).profiles = s.profiles := by simp [State.refer]
@[simp] theorem State.refer_cables (s : State) (n : Nat) :
    (s.refer n).cables = s.cables := by simp [State.refer]
@[simp] theorem State.refer_plans (s : State) (n : Nat) :
    (s.refer n).plans = s.plans := by simp [State.refer]
@[simp] theorem State.refer_stages (s : State) (n : Nat) :
    (s.refer n).stages = s.stages := by simp [State.refer]
@[simp] theorem State.refer_schedule (s : State) (n : Nat) :
    (s.refer n).schedule = s.schedule := by simp [State.refer]
@[simp] theorem State.refer_detectors (s : State) (n : Nat) :
    (s.refer n).detectors = s.detectors := by simp [State.refer]
@[simp] theorem State.refer_junctionRev (s : State) (n : Nat) :
    (s.refer n).junctionRev = s.junctionRev := by simp [State.refer]
@[simp] theorem State.refer_counted (s : State) (n : Nat) :
    (s.refer n).counted = s.counted := by simp [State.refer]

@[simp] theorem State.openAt_pending (s : State) (n : Nat) :
    (s.openAt n).pending = s.pending := by simp [State.openAt]
@[simp] theorem State.openAt_link (s : State) (n : Nat) :
    (s.openAt n).link = s.link := by simp [State.openAt]
@[simp] theorem State.openAt_sched (s : State) (n : Nat) :
    (s.openAt n).sched = s.sched := by simp [State.openAt]
@[simp] theorem State.openAt_seq (s : State) (n : Nat) :
    (s.openAt n).seq = s.seq := by simp [State.openAt]
@[simp] theorem State.openAt_sup (s : State) (n : Nat) :
    (s.openAt n).sup = s.sup := by simp [State.openAt]
@[simp] theorem State.openAt_bridge (s : State) (n : Nat) :
    (s.openAt n).bridge = s.bridge := by simp [State.openAt]
@[simp] theorem State.openAt_attn (s : State) (n : Nat) :
    (s.openAt n).attn = s.attn := by simp [State.openAt]
@[simp] theorem State.openAt_port (s : State) (n : Nat) :
    (s.openAt n).port = s.port := by simp [State.openAt]
@[simp] theorem State.openAt_groups (s : State) (n : Nat) :
    (s.openAt n).groups = s.groups := by simp [State.openAt]
@[simp] theorem State.openAt_conflicts (s : State) (n : Nat) :
    (s.openAt n).conflicts = s.conflicts := by simp [State.openAt]
@[simp] theorem State.openAt_channels (s : State) (n : Nat) :
    (s.openAt n).channels = s.channels := by simp [State.openAt]
@[simp] theorem State.openAt_profiles (s : State) (n : Nat) :
    (s.openAt n).profiles = s.profiles := by simp [State.openAt]
@[simp] theorem State.openAt_cables (s : State) (n : Nat) :
    (s.openAt n).cables = s.cables := by simp [State.openAt]
@[simp] theorem State.openAt_plans (s : State) (n : Nat) :
    (s.openAt n).plans = s.plans := by simp [State.openAt]
@[simp] theorem State.openAt_stages (s : State) (n : Nat) :
    (s.openAt n).stages = s.stages := by simp [State.openAt]
@[simp] theorem State.openAt_schedule (s : State) (n : Nat) :
    (s.openAt n).schedule = s.schedule := by simp [State.openAt]
@[simp] theorem State.openAt_detectors (s : State) (n : Nat) :
    (s.openAt n).detectors = s.detectors := by simp [State.openAt]
@[simp] theorem State.openAt_junctionRev (s : State) (n : Nat) :
    (s.openAt n).junctionRev = s.junctionRev := by simp [State.openAt]
@[simp] theorem State.openAt_counted (s : State) (n : Nat) :
    (s.openAt n).counted = s.counted := by simp [State.openAt]

@[simp] theorem State.countGood_pending (s : State) (o : TickOrder) :
    (s.countGood o).pending = s.pending := by simp only [State.countGood] <;> (repeat' split) <;> simp
@[simp] theorem State.countGood_link (s : State) (o : TickOrder) :
    (s.countGood o).link = s.link := by simp only [State.countGood] <;> (repeat' split) <;> simp
@[simp] theorem State.countGood_conflicts (s : State) (o : TickOrder) :
    (s.countGood o).conflicts = s.conflicts := by simp only [State.countGood] <;> (repeat' split) <;> simp
@[simp] theorem State.countGood_profiles (s : State) (o : TickOrder) :
    (s.countGood o).profiles = s.profiles := by simp only [State.countGood] <;> (repeat' split) <;> simp
@[simp] theorem State.countGood_plans (s : State) (o : TickOrder) :
    (s.countGood o).plans = s.plans := by simp only [State.countGood] <;> (repeat' split) <;> simp
@[simp] theorem State.countGood_stages (s : State) (o : TickOrder) :
    (s.countGood o).stages = s.stages := by simp only [State.countGood] <;> (repeat' split) <;> simp
@[simp] theorem State.countGood_schedule (s : State) (o : TickOrder) :
    (s.countGood o).schedule = s.schedule := by simp only [State.countGood] <;> (repeat' split) <;> simp

theorem State.acceptCrossing_pending (s : State) (x : CrossingInput) (after : State → State)
    (h : ∀ t, (after t).pending = t.pending) : (s.acceptCrossing x after).pending = s.pending := by
  simp only [State.acceptCrossing]
  split <;> simp [h]

theorem State.acceptCrossing_link (s : State) (x : CrossingInput) (after : State → State)
    (h : ∀ t, (after t).link = t.link) : (s.acceptCrossing x after).link = s.link := by
  simp only [State.acceptCrossing]
  split <;> simp [h]

theorem State.acceptCrossing_conflicts (s : State) (x : CrossingInput) (after : State → State)
    (h : ∀ t, (after t).conflicts = t.conflicts) : (s.acceptCrossing x after).conflicts = s.conflicts := by
  simp only [State.acceptCrossing]
  split <;> simp [h]

theorem State.acceptCrossing_profiles (s : State) (x : CrossingInput) (after : State → State)
    (h : ∀ t, (after t).profiles = t.profiles) : (s.acceptCrossing x after).profiles = s.profiles := by
  simp only [State.acceptCrossing]
  split <;> simp [h]

theorem State.acceptCrossing_plans (s : State) (x : CrossingInput) (after : State → State)
    (h : ∀ t, (after t).plans = t.plans) : (s.acceptCrossing x after).plans = s.plans := by
  simp only [State.acceptCrossing]
  split <;> simp [h]

theorem State.acceptCrossing_stages (s : State) (x : CrossingInput) (after : State → State)
    (h : ∀ t, (after t).stages = t.stages) : (s.acceptCrossing x after).stages = s.stages := by
  simp only [State.acceptCrossing]
  split <;> simp [h]

theorem State.acceptCrossing_schedule (s : State) (x : CrossingInput) (after : State → State)
    (h : ∀ t, (after t).schedule = t.schedule) : (s.acceptCrossing x after).schedule = s.schedule := by
  simp only [State.acceptCrossing]
  split <;> simp [h]

@[simp] theorem State.acquire_pending (s : State) (x : CrossingInput) :
    (s.acquire x).pending = s.pending := by
  simp only [State.acquire]
  (repeat' split) <;> first | simp; done | (rw [State.acceptCrossing_pending]; simp)
@[simp] theorem State.acquire_link (s : State) (x : CrossingInput) :
    (s.acquire x).link = s.link := by
  simp only [State.acquire]
  (repeat' split) <;> first | simp; done | (rw [State.acceptCrossing_link]; simp)
@[simp] theorem State.acquire_conflicts (s : State) (x : CrossingInput) :
    (s.acquire x).conflicts = s.conflicts := by
  simp only [State.acquire]
  (repeat' split) <;> first | simp; done | (rw [State.acceptCrossing_conflicts]; simp)
@[simp] theorem State.acquire_profiles (s : State) (x : CrossingInput) :
    (s.acquire x).profiles = s.profiles := by
  simp only [State.acquire]
  (repeat' split) <;> first | simp; done | (rw [State.acceptCrossing_profiles]; simp)
@[simp] theorem State.acquire_plans (s : State) (x : CrossingInput) :
    (s.acquire x).plans = s.plans := by
  simp only [State.acquire]
  (repeat' split) <;> first | simp; done | (rw [State.acceptCrossing_plans]; simp)
@[simp] theorem State.acquire_stages (s : State) (x : CrossingInput) :
    (s.acquire x).stages = s.stages := by
  simp only [State.acquire]
  (repeat' split) <;> first | simp; done | (rw [State.acceptCrossing_stages]; simp)
@[simp] theorem State.acquire_schedule (s : State) (x : CrossingInput) :
    (s.acquire x).schedule = s.schedule := by
  simp only [State.acquire]
  (repeat' split) <;> first | simp; done | (rw [State.acceptCrossing_schedule]; simp)

@[simp] theorem State.crossLocked_pending (s : State) (x : CrossingInput) :
    (s.crossLocked x).pending = s.pending := by
  simp only [State.crossLocked]
  (repeat' split) <;> first | simp; done | (rw [State.acceptCrossing_pending]; simp)
@[simp] theorem State.crossLocked_link (s : State) (x : CrossingInput) :
    (s.crossLocked x).link = s.link := by
  simp only [State.crossLocked]
  (repeat' split) <;> first | simp; done | (rw [State.acceptCrossing_link]; simp)
@[simp] theorem State.crossLocked_conflicts (s : State) (x : CrossingInput) :
    (s.crossLocked x).conflicts = s.conflicts := by
  simp only [State.crossLocked]
  (repeat' split) <;> first | simp; done | (rw [State.acceptCrossing_conflicts]; simp)
@[simp] theorem State.crossLocked_profiles (s : State) (x : CrossingInput) :
    (s.crossLocked x).profiles = s.profiles := by
  simp only [State.crossLocked]
  (repeat' split) <;> first | simp; done | (rw [State.acceptCrossing_profiles]; simp)
@[simp] theorem State.crossLocked_plans (s : State) (x : CrossingInput) :
    (s.crossLocked x).plans = s.plans := by
  simp only [State.crossLocked]
  (repeat' split) <;> first | simp; done | (rw [State.acceptCrossing_plans]; simp)
@[simp] theorem State.crossLocked_stages (s : State) (x : CrossingInput) :
    (s.crossLocked x).stages = s.stages := by
  simp only [State.crossLocked]
  (repeat' split) <;> first | simp; done | (rw [State.acceptCrossing_stages]; simp)
@[simp] theorem State.crossLocked_schedule (s : State) (x : CrossingInput) :
    (s.crossLocked x).schedule = s.schedule := by
  simp only [State.crossLocked]
  (repeat' split) <;> first | simp; done | (rw [State.acceptCrossing_schedule]; simp)

@[simp] theorem State.expireBefore_pending (s : State) (x : CrossingInput) :
    (s.expireBefore x).pending = s.pending := by
  simp only [State.expireBefore]
  (repeat' split) <;> simp
@[simp] theorem State.expireBefore_link (s : State) (x : CrossingInput) :
    (s.expireBefore x).link = s.link := by
  simp only [State.expireBefore]
  (repeat' split) <;> simp
@[simp] theorem State.expireBefore_conflicts (s : State) (x : CrossingInput) :
    (s.expireBefore x).conflicts = s.conflicts := by
  simp only [State.expireBefore]
  (repeat' split) <;> simp
@[simp] theorem State.expireBefore_profiles (s : State) (x : CrossingInput) :
    (s.expireBefore x).profiles = s.profiles := by
  simp only [State.expireBefore]
  (repeat' split) <;> simp
@[simp] theorem State.expireBefore_plans (s : State) (x : CrossingInput) :
    (s.expireBefore x).plans = s.plans := by
  simp only [State.expireBefore]
  (repeat' split) <;> simp
@[simp] theorem State.expireBefore_stages (s : State) (x : CrossingInput) :
    (s.expireBefore x).stages = s.stages := by
  simp only [State.expireBefore]
  (repeat' split) <;> simp
@[simp] theorem State.expireBefore_schedule (s : State) (x : CrossingInput) :
    (s.expireBefore x).schedule = s.schedule := by
  simp only [State.expireBefore]
  (repeat' split) <;> simp

@[simp] theorem State.cross_pending (s : State) (x : CrossingInput) :
    (s.cross x).pending = s.pending := by
  simp only [State.cross]
  (repeat' split) <;> first | simp; done | (rw [State.acceptCrossing_pending]; simp)
@[simp] theorem State.cross_link (s : State) (x : CrossingInput) :
    (s.cross x).link = s.link := by
  simp only [State.cross]
  (repeat' split) <;> first | simp; done | (rw [State.acceptCrossing_link]; simp)
@[simp] theorem State.cross_conflicts (s : State) (x : CrossingInput) :
    (s.cross x).conflicts = s.conflicts := by
  simp only [State.cross]
  (repeat' split) <;> first | simp; done | (rw [State.acceptCrossing_conflicts]; simp)
@[simp] theorem State.cross_profiles (s : State) (x : CrossingInput) :
    (s.cross x).profiles = s.profiles := by
  simp only [State.cross]
  (repeat' split) <;> first | simp; done | (rw [State.acceptCrossing_profiles]; simp)
@[simp] theorem State.cross_plans (s : State) (x : CrossingInput) :
    (s.cross x).plans = s.plans := by
  simp only [State.cross]
  (repeat' split) <;> first | simp; done | (rw [State.acceptCrossing_plans]; simp)
@[simp] theorem State.cross_stages (s : State) (x : CrossingInput) :
    (s.cross x).stages = s.stages := by
  simp only [State.cross]
  (repeat' split) <;> first | simp; done | (rw [State.acceptCrossing_stages]; simp)
@[simp] theorem State.cross_schedule (s : State) (x : CrossingInput) :
    (s.cross x).schedule = s.schedule := by
  simp only [State.cross]
  (repeat' split) <;> first | simp; done | (rw [State.acceptCrossing_schedule]; simp)

@[simp] theorem State.zeroCrossing_pending (s : State) (x : CrossingInput) :
    (s.zeroCrossing x).pending = s.pending := by simp [State.zeroCrossing]
@[simp] theorem State.zeroCrossing_link (s : State) (x : CrossingInput) :
    (s.zeroCrossing x).link = s.link := by simp [State.zeroCrossing]
@[simp] theorem State.zeroCrossing_conflicts (s : State) (x : CrossingInput) :
    (s.zeroCrossing x).conflicts = s.conflicts := by simp [State.zeroCrossing]
@[simp] theorem State.zeroCrossing_profiles (s : State) (x : CrossingInput) :
    (s.zeroCrossing x).profiles = s.profiles := by simp [State.zeroCrossing]
@[simp] theorem State.zeroCrossing_plans (s : State) (x : CrossingInput) :
    (s.zeroCrossing x).plans = s.plans := by simp [State.zeroCrossing]
@[simp] theorem State.zeroCrossing_stages (s : State) (x : CrossingInput) :
    (s.zeroCrossing x).stages = s.stages := by simp [State.zeroCrossing]
@[simp] theorem State.zeroCrossing_schedule (s : State) (x : CrossingInput) :
    (s.zeroCrossing x).schedule = s.schedule := by simp [State.zeroCrossing]

@[simp] theorem State.crystalTenth_pending (s : State) (i : TenthInput) :
    (s.crystalTenth i).pending = s.pending := by simp only [State.crystalTenth] <;> (repeat' split) <;> simp
@[simp] theorem State.crystalTenth_link (s : State) (i : TenthInput) :
    (s.crystalTenth i).link = s.link := by simp only [State.crystalTenth] <;> (repeat' split) <;> simp
@[simp] theorem State.crystalTenth_conflicts (s : State) (i : TenthInput) :
    (s.crystalTenth i).conflicts = s.conflicts := by simp only [State.crystalTenth] <;> (repeat' split) <;> simp
@[simp] theorem State.crystalTenth_profiles (s : State) (i : TenthInput) :
    (s.crystalTenth i).profiles = s.profiles := by simp only [State.crystalTenth] <;> (repeat' split) <;> simp
@[simp] theorem State.crystalTenth_plans (s : State) (i : TenthInput) :
    (s.crystalTenth i).plans = s.plans := by simp only [State.crystalTenth] <;> (repeat' split) <;> simp
@[simp] theorem State.crystalTenth_stages (s : State) (i : TenthInput) :
    (s.crystalTenth i).stages = s.stages := by simp only [State.crystalTenth] <;> (repeat' split) <;> simp
@[simp] theorem State.crystalTenth_schedule (s : State) (i : TenthInput) :
    (s.crystalTenth i).schedule = s.schedule := by simp only [State.crystalTenth] <;> (repeat' split) <;> simp

@[simp] theorem State.cascadeTenth_pending (s : State) (i : TenthInput) :
    (s.cascadeTenth i).pending = s.pending := by simp only [State.cascadeTenth] <;> (repeat' split) <;> simp
@[simp] theorem State.cascadeTenth_link (s : State) (i : TenthInput) :
    (s.cascadeTenth i).link = s.link := by simp only [State.cascadeTenth] <;> (repeat' split) <;> simp
@[simp] theorem State.cascadeTenth_conflicts (s : State) (i : TenthInput) :
    (s.cascadeTenth i).conflicts = s.conflicts := by simp only [State.cascadeTenth] <;> (repeat' split) <;> simp
@[simp] theorem State.cascadeTenth_profiles (s : State) (i : TenthInput) :
    (s.cascadeTenth i).profiles = s.profiles := by simp only [State.cascadeTenth] <;> (repeat' split) <;> simp
@[simp] theorem State.cascadeTenth_plans (s : State) (i : TenthInput) :
    (s.cascadeTenth i).plans = s.plans := by simp only [State.cascadeTenth] <;> (repeat' split) <;> simp
@[simp] theorem State.cascadeTenth_stages (s : State) (i : TenthInput) :
    (s.cascadeTenth i).stages = s.stages := by simp only [State.cascadeTenth] <;> (repeat' split) <;> simp
@[simp] theorem State.cascadeTenth_schedule (s : State) (i : TenthInput) :
    (s.cascadeTenth i).schedule = s.schedule := by simp only [State.cascadeTenth] <;> (repeat' split) <;> simp

@[simp] theorem State.decommission_pending (s : State) :
    (s.decommission).pending = s.pending := by simp only [State.decommission] <;> (repeat' split) <;> simp
@[simp] theorem State.decommission_link (s : State) :
    (s.decommission).link = s.link := by simp only [State.decommission] <;> (repeat' split) <;> simp
@[simp] theorem State.decommission_base (s : State) :
    (s.decommission).base = s.base := by simp only [State.decommission] <;> (repeat' split) <;> simp
@[simp] theorem State.decommission_sched (s : State) :
    (s.decommission).sched = s.sched := by simp only [State.decommission] <;> (repeat' split) <;> simp
@[simp] theorem State.decommission_sampler (s : State) :
    (s.decommission).sampler = s.sampler := by simp only [State.decommission] <;> (repeat' split) <;> simp
@[simp] theorem State.decommission_conflicts (s : State) :
    (s.decommission).conflicts = s.conflicts := by simp only [State.decommission] <;> (repeat' split) <;> simp
@[simp] theorem State.decommission_channels (s : State) :
    (s.decommission).channels = s.channels := by simp only [State.decommission] <;> (repeat' split) <;> simp
@[simp] theorem State.decommission_profiles (s : State) :
    (s.decommission).profiles = s.profiles := by simp only [State.decommission] <;> (repeat' split) <;> simp
@[simp] theorem State.decommission_plans (s : State) :
    (s.decommission).plans = s.plans := by simp only [State.decommission] <;> (repeat' split) <;> simp
@[simp] theorem State.decommission_stages (s : State) :
    (s.decommission).stages = s.stages := by simp only [State.decommission] <;> (repeat' split) <;> simp
@[simp] theorem State.decommission_schedule (s : State) :
    (s.decommission).schedule = s.schedule := by simp only [State.decommission] <;> (repeat' split) <;> simp
@[simp] theorem State.decommission_detectors (s : State) :
    (s.decommission).detectors = s.detectors := by simp only [State.decommission] <;> (repeat' split) <;> simp
@[simp] theorem State.decommission_junctionRev (s : State) :
    (s.decommission).junctionRev = s.junctionRev := by simp only [State.decommission] <;> (repeat' split) <;> simp
@[simp] theorem State.decommission_counted (s : State) :
    (s.decommission).counted = s.counted := by simp only [State.decommission] <;> (repeat' split) <;> simp

@[simp] theorem State.writeGroup_pending (s : State) (g : Fin 16) (c : GroupConfig) :
    (s.writeGroup g c).pending = s.pending := by simp [State.writeGroup]
@[simp] theorem State.writeGroup_link (s : State) (g : Fin 16) (c : GroupConfig) :
    (s.writeGroup g c).link = s.link := by simp [State.writeGroup]
@[simp] theorem State.writeGroup_base (s : State) (g : Fin 16) (c : GroupConfig) :
    (s.writeGroup g c).base = s.base := by simp [State.writeGroup]
@[simp] theorem State.writeGroup_sched (s : State) (g : Fin 16) (c : GroupConfig) :
    (s.writeGroup g c).sched = s.sched := by simp [State.writeGroup]
@[simp] theorem State.writeGroup_sampler (s : State) (g : Fin 16) (c : GroupConfig) :
    (s.writeGroup g c).sampler = s.sampler := by simp [State.writeGroup]
@[simp] theorem State.writeGroup_conflicts (s : State) (g : Fin 16) (c : GroupConfig) :
    (s.writeGroup g c).conflicts = s.conflicts := by simp [State.writeGroup]
@[simp] theorem State.writeGroup_channels (s : State) (g : Fin 16) (c : GroupConfig) :
    (s.writeGroup g c).channels = s.channels := by simp [State.writeGroup]
@[simp] theorem State.writeGroup_profiles (s : State) (g : Fin 16) (c : GroupConfig) :
    (s.writeGroup g c).profiles = s.profiles := by simp [State.writeGroup]
@[simp] theorem State.writeGroup_plans (s : State) (g : Fin 16) (c : GroupConfig) :
    (s.writeGroup g c).plans = s.plans := by simp [State.writeGroup]
@[simp] theorem State.writeGroup_stages (s : State) (g : Fin 16) (c : GroupConfig) :
    (s.writeGroup g c).stages = s.stages := by simp [State.writeGroup]
@[simp] theorem State.writeGroup_schedule (s : State) (g : Fin 16) (c : GroupConfig) :
    (s.writeGroup g c).schedule = s.schedule := by simp [State.writeGroup]
@[simp] theorem State.writeGroup_detectors (s : State) (g : Fin 16) (c : GroupConfig) :
    (s.writeGroup g c).detectors = s.detectors := by simp [State.writeGroup]
@[simp] theorem State.writeGroup_junctionRev (s : State) (g : Fin 16) (c : GroupConfig) :
    (s.writeGroup g c).junctionRev = s.junctionRev := by simp [State.writeGroup]
@[simp] theorem State.writeGroup_counted (s : State) (g : Fin 16) (c : GroupConfig) :
    (s.writeGroup g c).counted = s.counted := by simp [State.writeGroup]

@[simp] theorem State.writeConflict_pending (s : State) (i : Fin 16) (e : Vector (Option Nat) 16) :
    (s.writeConflict i e).pending = s.pending := by simp [State.writeConflict]
@[simp] theorem State.writeConflict_link (s : State) (i : Fin 16) (e : Vector (Option Nat) 16) :
    (s.writeConflict i e).link = s.link := by simp [State.writeConflict]
@[simp] theorem State.writeConflict_base (s : State) (i : Fin 16) (e : Vector (Option Nat) 16) :
    (s.writeConflict i e).base = s.base := by simp [State.writeConflict]
@[simp] theorem State.writeConflict_sched (s : State) (i : Fin 16) (e : Vector (Option Nat) 16) :
    (s.writeConflict i e).sched = s.sched := by simp [State.writeConflict]
@[simp] theorem State.writeConflict_sampler (s : State) (i : Fin 16) (e : Vector (Option Nat) 16) :
    (s.writeConflict i e).sampler = s.sampler := by simp [State.writeConflict]
@[simp] theorem State.writeConflict_channels (s : State) (i : Fin 16) (e : Vector (Option Nat) 16) :
    (s.writeConflict i e).channels = s.channels := by simp [State.writeConflict]
@[simp] theorem State.writeConflict_profiles (s : State) (i : Fin 16) (e : Vector (Option Nat) 16) :
    (s.writeConflict i e).profiles = s.profiles := by simp [State.writeConflict]
@[simp] theorem State.writeConflict_plans (s : State) (i : Fin 16) (e : Vector (Option Nat) 16) :
    (s.writeConflict i e).plans = s.plans := by simp [State.writeConflict]
@[simp] theorem State.writeConflict_stages (s : State) (i : Fin 16) (e : Vector (Option Nat) 16) :
    (s.writeConflict i e).stages = s.stages := by simp [State.writeConflict]
@[simp] theorem State.writeConflict_schedule (s : State) (i : Fin 16) (e : Vector (Option Nat) 16) :
    (s.writeConflict i e).schedule = s.schedule := by simp [State.writeConflict]
@[simp] theorem State.writeConflict_detectors (s : State) (i : Fin 16) (e : Vector (Option Nat) 16) :
    (s.writeConflict i e).detectors = s.detectors := by simp [State.writeConflict]
@[simp] theorem State.writeConflict_junctionRev (s : State) (i : Fin 16) (e : Vector (Option Nat) 16) :
    (s.writeConflict i e).junctionRev = s.junctionRev := by simp [State.writeConflict]
@[simp] theorem State.writeConflict_counted (s : State) (i : Fin 16) (e : Vector (Option Nat) 16) :
    (s.writeConflict i e).counted = s.counted := by simp [State.writeConflict]

@[simp] theorem State.writeChannel_pending (s : State) (c : Fin 64) (x : ChannelConfig) :
    (s.writeChannel c x).pending = s.pending := by simp [State.writeChannel]
@[simp] theorem State.writeChannel_link (s : State) (c : Fin 64) (x : ChannelConfig) :
    (s.writeChannel c x).link = s.link := by simp [State.writeChannel]
@[simp] theorem State.writeChannel_base (s : State) (c : Fin 64) (x : ChannelConfig) :
    (s.writeChannel c x).base = s.base := by simp [State.writeChannel]
@[simp] theorem State.writeChannel_sched (s : State) (c : Fin 64) (x : ChannelConfig) :
    (s.writeChannel c x).sched = s.sched := by simp [State.writeChannel]
@[simp] theorem State.writeChannel_seq (s : State) (c : Fin 64) (x : ChannelConfig) :
    (s.writeChannel c x).seq = s.seq := by simp [State.writeChannel]
@[simp] theorem State.writeChannel_sampler (s : State) (c : Fin 64) (x : ChannelConfig) :
    (s.writeChannel c x).sampler = s.sampler := by simp [State.writeChannel]
@[simp] theorem State.writeChannel_sup (s : State) (c : Fin 64) (x : ChannelConfig) :
    (s.writeChannel c x).sup = s.sup := by simp [State.writeChannel]
@[simp] theorem State.writeChannel_bridge (s : State) (c : Fin 64) (x : ChannelConfig) :
    (s.writeChannel c x).bridge = s.bridge := by simp [State.writeChannel]
@[simp] theorem State.writeChannel_attn (s : State) (c : Fin 64) (x : ChannelConfig) :
    (s.writeChannel c x).attn = s.attn := by simp [State.writeChannel]
@[simp] theorem State.writeChannel_port (s : State) (c : Fin 64) (x : ChannelConfig) :
    (s.writeChannel c x).port = s.port := by simp [State.writeChannel]
@[simp] theorem State.writeChannel_conflicts (s : State) (c : Fin 64) (x : ChannelConfig) :
    (s.writeChannel c x).conflicts = s.conflicts := by simp [State.writeChannel]
@[simp] theorem State.writeChannel_profiles (s : State) (c : Fin 64) (x : ChannelConfig) :
    (s.writeChannel c x).profiles = s.profiles := by simp [State.writeChannel]
@[simp] theorem State.writeChannel_cables (s : State) (c : Fin 64) (x : ChannelConfig) :
    (s.writeChannel c x).cables = s.cables := by simp [State.writeChannel]
@[simp] theorem State.writeChannel_plans (s : State) (c : Fin 64) (x : ChannelConfig) :
    (s.writeChannel c x).plans = s.plans := by simp [State.writeChannel]
@[simp] theorem State.writeChannel_stages (s : State) (c : Fin 64) (x : ChannelConfig) :
    (s.writeChannel c x).stages = s.stages := by simp [State.writeChannel]
@[simp] theorem State.writeChannel_schedule (s : State) (c : Fin 64) (x : ChannelConfig) :
    (s.writeChannel c x).schedule = s.schedule := by simp [State.writeChannel]
@[simp] theorem State.writeChannel_detectors (s : State) (c : Fin 64) (x : ChannelConfig) :
    (s.writeChannel c x).detectors = s.detectors := by simp [State.writeChannel]
@[simp] theorem State.writeChannel_junctionRev (s : State) (c : Fin 64) (x : ChannelConfig) :
    (s.writeChannel c x).junctionRev = s.junctionRev := by simp [State.writeChannel]
@[simp] theorem State.writeChannel_counted (s : State) (c : Fin 64) (x : ChannelConfig) :
    (s.writeChannel c x).counted = s.counted := by simp [State.writeChannel]

@[simp] theorem State.writeProfile_pending (s : State) (f : Fin 8) (x : ProfileConfig) :
    (s.writeProfile f x).pending = s.pending := by simp only [State.writeProfile] <;> (repeat' split) <;> simp
@[simp] theorem State.writeProfile_link (s : State) (f : Fin 8) (x : ProfileConfig) :
    (s.writeProfile f x).link = s.link := by simp only [State.writeProfile] <;> (repeat' split) <;> simp
@[simp] theorem State.writeProfile_base (s : State) (f : Fin 8) (x : ProfileConfig) :
    (s.writeProfile f x).base = s.base := by simp only [State.writeProfile] <;> (repeat' split) <;> simp
@[simp] theorem State.writeProfile_sched (s : State) (f : Fin 8) (x : ProfileConfig) :
    (s.writeProfile f x).sched = s.sched := by simp only [State.writeProfile] <;> (repeat' split) <;> simp
@[simp] theorem State.writeProfile_sampler (s : State) (f : Fin 8) (x : ProfileConfig) :
    (s.writeProfile f x).sampler = s.sampler := by simp only [State.writeProfile] <;> (repeat' split) <;> simp
@[simp] theorem State.writeProfile_conflicts (s : State) (f : Fin 8) (x : ProfileConfig) :
    (s.writeProfile f x).conflicts = s.conflicts := by simp only [State.writeProfile] <;> (repeat' split) <;> simp
@[simp] theorem State.writeProfile_plans (s : State) (f : Fin 8) (x : ProfileConfig) :
    (s.writeProfile f x).plans = s.plans := by simp only [State.writeProfile] <;> (repeat' split) <;> simp
@[simp] theorem State.writeProfile_stages (s : State) (f : Fin 8) (x : ProfileConfig) :
    (s.writeProfile f x).stages = s.stages := by simp only [State.writeProfile] <;> (repeat' split) <;> simp
@[simp] theorem State.writeProfile_schedule (s : State) (f : Fin 8) (x : ProfileConfig) :
    (s.writeProfile f x).schedule = s.schedule := by simp only [State.writeProfile] <;> (repeat' split) <;> simp
@[simp] theorem State.writeProfile_detectors (s : State) (f : Fin 8) (x : ProfileConfig) :
    (s.writeProfile f x).detectors = s.detectors := by simp only [State.writeProfile] <;> (repeat' split) <;> simp
@[simp] theorem State.writeProfile_junctionRev (s : State) (f : Fin 8) (x : ProfileConfig) :
    (s.writeProfile f x).junctionRev = s.junctionRev := by simp only [State.writeProfile] <;> (repeat' split) <;> simp
@[simp] theorem State.writeProfile_counted (s : State) (f : Fin 8) (x : ProfileConfig) :
    (s.writeProfile f x).counted = s.counted := by simp only [State.writeProfile] <;> (repeat' split) <;> simp

@[simp] theorem State.releaseCable_pending (s : State) (k : Fin 16) (x : CableConfig) :
    (s.releaseCable k x).pending = s.pending := by simp only [State.releaseCable] <;> (repeat' split) <;> simp
@[simp] theorem State.releaseCable_link (s : State) (k : Fin 16) (x : CableConfig) :
    (s.releaseCable k x).link = s.link := by simp only [State.releaseCable] <;> (repeat' split) <;> simp
@[simp] theorem State.releaseCable_base (s : State) (k : Fin 16) (x : CableConfig) :
    (s.releaseCable k x).base = s.base := by simp only [State.releaseCable] <;> (repeat' split) <;> simp
@[simp] theorem State.releaseCable_sched (s : State) (k : Fin 16) (x : CableConfig) :
    (s.releaseCable k x).sched = s.sched := by simp only [State.releaseCable] <;> (repeat' split) <;> simp
@[simp] theorem State.releaseCable_seq (s : State) (k : Fin 16) (x : CableConfig) :
    (s.releaseCable k x).seq = s.seq := by simp only [State.releaseCable] <;> (repeat' split) <;> simp
@[simp] theorem State.releaseCable_sampler (s : State) (k : Fin 16) (x : CableConfig) :
    (s.releaseCable k x).sampler = s.sampler := by simp only [State.releaseCable] <;> (repeat' split) <;> simp
@[simp] theorem State.releaseCable_sup (s : State) (k : Fin 16) (x : CableConfig) :
    (s.releaseCable k x).sup = s.sup := by simp only [State.releaseCable] <;> (repeat' split) <;> simp
@[simp] theorem State.releaseCable_port (s : State) (k : Fin 16) (x : CableConfig) :
    (s.releaseCable k x).port = s.port := by simp only [State.releaseCable] <;> (repeat' split) <;> simp
@[simp] theorem State.releaseCable_conflicts (s : State) (k : Fin 16) (x : CableConfig) :
    (s.releaseCable k x).conflicts = s.conflicts := by simp only [State.releaseCable] <;> (repeat' split) <;> simp
@[simp] theorem State.releaseCable_channels (s : State) (k : Fin 16) (x : CableConfig) :
    (s.releaseCable k x).channels = s.channels := by simp only [State.releaseCable] <;> (repeat' split) <;> simp
@[simp] theorem State.releaseCable_profiles (s : State) (k : Fin 16) (x : CableConfig) :
    (s.releaseCable k x).profiles = s.profiles := by simp only [State.releaseCable] <;> (repeat' split) <;> simp
@[simp] theorem State.releaseCable_plans (s : State) (k : Fin 16) (x : CableConfig) :
    (s.releaseCable k x).plans = s.plans := by simp only [State.releaseCable] <;> (repeat' split) <;> simp
@[simp] theorem State.releaseCable_stages (s : State) (k : Fin 16) (x : CableConfig) :
    (s.releaseCable k x).stages = s.stages := by simp only [State.releaseCable] <;> (repeat' split) <;> simp
@[simp] theorem State.releaseCable_schedule (s : State) (k : Fin 16) (x : CableConfig) :
    (s.releaseCable k x).schedule = s.schedule := by simp only [State.releaseCable] <;> (repeat' split) <;> simp
@[simp] theorem State.releaseCable_detectors (s : State) (k : Fin 16) (x : CableConfig) :
    (s.releaseCable k x).detectors = s.detectors := by simp only [State.releaseCable] <;> (repeat' split) <;> simp
@[simp] theorem State.releaseCable_junctionRev (s : State) (k : Fin 16) (x : CableConfig) :
    (s.releaseCable k x).junctionRev = s.junctionRev := by simp only [State.releaseCable] <;> (repeat' split) <;> simp
@[simp] theorem State.releaseCable_counted (s : State) (k : Fin 16) (x : CableConfig) :
    (s.releaseCable k x).counted = s.counted := by simp only [State.releaseCable] <;> (repeat' split) <;> simp

@[simp] theorem State.writeCable_pending (s : State) (k : Fin 16) (x : CableConfig) :
    (s.writeCable k x).pending = s.pending := by simp only [State.writeCable] <;> (repeat' split) <;> simp
@[simp] theorem State.writeCable_link (s : State) (k : Fin 16) (x : CableConfig) :
    (s.writeCable k x).link = s.link := by simp only [State.writeCable] <;> (repeat' split) <;> simp
@[simp] theorem State.writeCable_base (s : State) (k : Fin 16) (x : CableConfig) :
    (s.writeCable k x).base = s.base := by simp only [State.writeCable] <;> (repeat' split) <;> simp
@[simp] theorem State.writeCable_sched (s : State) (k : Fin 16) (x : CableConfig) :
    (s.writeCable k x).sched = s.sched := by simp only [State.writeCable] <;> (repeat' split) <;> simp
@[simp] theorem State.writeCable_sampler (s : State) (k : Fin 16) (x : CableConfig) :
    (s.writeCable k x).sampler = s.sampler := by simp only [State.writeCable] <;> (repeat' split) <;> simp
@[simp] theorem State.writeCable_conflicts (s : State) (k : Fin 16) (x : CableConfig) :
    (s.writeCable k x).conflicts = s.conflicts := by simp only [State.writeCable] <;> (repeat' split) <;> simp
@[simp] theorem State.writeCable_channels (s : State) (k : Fin 16) (x : CableConfig) :
    (s.writeCable k x).channels = s.channels := by simp only [State.writeCable] <;> (repeat' split) <;> simp
@[simp] theorem State.writeCable_profiles (s : State) (k : Fin 16) (x : CableConfig) :
    (s.writeCable k x).profiles = s.profiles := by simp only [State.writeCable] <;> (repeat' split) <;> simp
@[simp] theorem State.writeCable_plans (s : State) (k : Fin 16) (x : CableConfig) :
    (s.writeCable k x).plans = s.plans := by simp only [State.writeCable] <;> (repeat' split) <;> simp
@[simp] theorem State.writeCable_stages (s : State) (k : Fin 16) (x : CableConfig) :
    (s.writeCable k x).stages = s.stages := by simp only [State.writeCable] <;> (repeat' split) <;> simp
@[simp] theorem State.writeCable_schedule (s : State) (k : Fin 16) (x : CableConfig) :
    (s.writeCable k x).schedule = s.schedule := by simp only [State.writeCable] <;> (repeat' split) <;> simp
@[simp] theorem State.writeCable_detectors (s : State) (k : Fin 16) (x : CableConfig) :
    (s.writeCable k x).detectors = s.detectors := by simp only [State.writeCable] <;> (repeat' split) <;> simp
@[simp] theorem State.writeCable_junctionRev (s : State) (k : Fin 16) (x : CableConfig) :
    (s.writeCable k x).junctionRev = s.junctionRev := by simp only [State.writeCable] <;> (repeat' split) <;> simp
@[simp] theorem State.writeCable_counted (s : State) (k : Fin 16) (x : CableConfig) :
    (s.writeCable k x).counted = s.counted := by simp only [State.writeCable] <;> (repeat' split) <;> simp

@[simp] theorem State.writePlan_pending (s : State) (p : Fin 8) (x : PlanConfig) :
    (s.writePlan p x).pending = s.pending := by simp [State.writePlan]
@[simp] theorem State.writePlan_link (s : State) (p : Fin 8) (x : PlanConfig) :
    (s.writePlan p x).link = s.link := by simp [State.writePlan]
@[simp] theorem State.writePlan_base (s : State) (p : Fin 8) (x : PlanConfig) :
    (s.writePlan p x).base = s.base := by simp [State.writePlan]
@[simp] theorem State.writePlan_sched (s : State) (p : Fin 8) (x : PlanConfig) :
    (s.writePlan p x).sched = s.sched := by simp [State.writePlan]
@[simp] theorem State.writePlan_seq (s : State) (p : Fin 8) (x : PlanConfig) :
    (s.writePlan p x).seq = s.seq := by simp [State.writePlan]
@[simp] theorem State.writePlan_sampler (s : State) (p : Fin 8) (x : PlanConfig) :
    (s.writePlan p x).sampler = s.sampler := by simp [State.writePlan]
@[simp] theorem State.writePlan_sup (s : State) (p : Fin 8) (x : PlanConfig) :
    (s.writePlan p x).sup = s.sup := by simp [State.writePlan]
@[simp] theorem State.writePlan_bridge (s : State) (p : Fin 8) (x : PlanConfig) :
    (s.writePlan p x).bridge = s.bridge := by simp [State.writePlan]
@[simp] theorem State.writePlan_attn (s : State) (p : Fin 8) (x : PlanConfig) :
    (s.writePlan p x).attn = s.attn := by simp [State.writePlan]
@[simp] theorem State.writePlan_port (s : State) (p : Fin 8) (x : PlanConfig) :
    (s.writePlan p x).port = s.port := by simp [State.writePlan]
@[simp] theorem State.writePlan_groups (s : State) (p : Fin 8) (x : PlanConfig) :
    (s.writePlan p x).groups = s.groups := by simp [State.writePlan]
@[simp] theorem State.writePlan_conflicts (s : State) (p : Fin 8) (x : PlanConfig) :
    (s.writePlan p x).conflicts = s.conflicts := by simp [State.writePlan]
@[simp] theorem State.writePlan_channels (s : State) (p : Fin 8) (x : PlanConfig) :
    (s.writePlan p x).channels = s.channels := by simp [State.writePlan]
@[simp] theorem State.writePlan_profiles (s : State) (p : Fin 8) (x : PlanConfig) :
    (s.writePlan p x).profiles = s.profiles := by simp [State.writePlan]
@[simp] theorem State.writePlan_cables (s : State) (p : Fin 8) (x : PlanConfig) :
    (s.writePlan p x).cables = s.cables := by simp [State.writePlan]
@[simp] theorem State.writePlan_stages (s : State) (p : Fin 8) (x : PlanConfig) :
    (s.writePlan p x).stages = s.stages := by simp [State.writePlan]
@[simp] theorem State.writePlan_schedule (s : State) (p : Fin 8) (x : PlanConfig) :
    (s.writePlan p x).schedule = s.schedule := by simp [State.writePlan]
@[simp] theorem State.writePlan_detectors (s : State) (p : Fin 8) (x : PlanConfig) :
    (s.writePlan p x).detectors = s.detectors := by simp [State.writePlan]
@[simp] theorem State.writePlan_junctionRev (s : State) (p : Fin 8) (x : PlanConfig) :
    (s.writePlan p x).junctionRev = s.junctionRev := by simp [State.writePlan]
@[simp] theorem State.writePlan_counted (s : State) (p : Fin 8) (x : PlanConfig) :
    (s.writePlan p x).counted = s.counted := by simp [State.writePlan]

@[simp] theorem State.writeStage_pending (s : State) (d : Fin 96) (x : StageConfig) :
    (s.writeStage d x).pending = s.pending := by simp [State.writeStage]
@[simp] theorem State.writeStage_link (s : State) (d : Fin 96) (x : StageConfig) :
    (s.writeStage d x).link = s.link := by simp [State.writeStage]
@[simp] theorem State.writeStage_base (s : State) (d : Fin 96) (x : StageConfig) :
    (s.writeStage d x).base = s.base := by simp [State.writeStage]
@[simp] theorem State.writeStage_sched (s : State) (d : Fin 96) (x : StageConfig) :
    (s.writeStage d x).sched = s.sched := by simp [State.writeStage]
@[simp] theorem State.writeStage_seq (s : State) (d : Fin 96) (x : StageConfig) :
    (s.writeStage d x).seq = s.seq := by simp [State.writeStage]
@[simp] theorem State.writeStage_sampler (s : State) (d : Fin 96) (x : StageConfig) :
    (s.writeStage d x).sampler = s.sampler := by simp [State.writeStage]
@[simp] theorem State.writeStage_sup (s : State) (d : Fin 96) (x : StageConfig) :
    (s.writeStage d x).sup = s.sup := by simp [State.writeStage]
@[simp] theorem State.writeStage_bridge (s : State) (d : Fin 96) (x : StageConfig) :
    (s.writeStage d x).bridge = s.bridge := by simp [State.writeStage]
@[simp] theorem State.writeStage_attn (s : State) (d : Fin 96) (x : StageConfig) :
    (s.writeStage d x).attn = s.attn := by simp [State.writeStage]
@[simp] theorem State.writeStage_port (s : State) (d : Fin 96) (x : StageConfig) :
    (s.writeStage d x).port = s.port := by simp [State.writeStage]
@[simp] theorem State.writeStage_groups (s : State) (d : Fin 96) (x : StageConfig) :
    (s.writeStage d x).groups = s.groups := by simp [State.writeStage]
@[simp] theorem State.writeStage_conflicts (s : State) (d : Fin 96) (x : StageConfig) :
    (s.writeStage d x).conflicts = s.conflicts := by simp [State.writeStage]
@[simp] theorem State.writeStage_channels (s : State) (d : Fin 96) (x : StageConfig) :
    (s.writeStage d x).channels = s.channels := by simp [State.writeStage]
@[simp] theorem State.writeStage_profiles (s : State) (d : Fin 96) (x : StageConfig) :
    (s.writeStage d x).profiles = s.profiles := by simp [State.writeStage]
@[simp] theorem State.writeStage_cables (s : State) (d : Fin 96) (x : StageConfig) :
    (s.writeStage d x).cables = s.cables := by simp [State.writeStage]
@[simp] theorem State.writeStage_plans (s : State) (d : Fin 96) (x : StageConfig) :
    (s.writeStage d x).plans = s.plans := by simp [State.writeStage]
@[simp] theorem State.writeStage_schedule (s : State) (d : Fin 96) (x : StageConfig) :
    (s.writeStage d x).schedule = s.schedule := by simp [State.writeStage]
@[simp] theorem State.writeStage_detectors (s : State) (d : Fin 96) (x : StageConfig) :
    (s.writeStage d x).detectors = s.detectors := by simp [State.writeStage]
@[simp] theorem State.writeStage_junctionRev (s : State) (d : Fin 96) (x : StageConfig) :
    (s.writeStage d x).junctionRev = s.junctionRev := by simp [State.writeStage]
@[simp] theorem State.writeStage_counted (s : State) (d : Fin 96) (x : StageConfig) :
    (s.writeStage d x).counted = s.counted := by simp [State.writeStage]

@[simp] theorem State.writeSchedule_pending (s : State) (e : Fin 24) (x : ScheduleConfig) :
    (s.writeSchedule e x).pending = s.pending := by simp [State.writeSchedule]
@[simp] theorem State.writeSchedule_link (s : State) (e : Fin 24) (x : ScheduleConfig) :
    (s.writeSchedule e x).link = s.link := by simp [State.writeSchedule]
@[simp] theorem State.writeSchedule_base (s : State) (e : Fin 24) (x : ScheduleConfig) :
    (s.writeSchedule e x).base = s.base := by simp [State.writeSchedule]
@[simp] theorem State.writeSchedule_sched (s : State) (e : Fin 24) (x : ScheduleConfig) :
    (s.writeSchedule e x).sched = s.sched := by simp [State.writeSchedule]
@[simp] theorem State.writeSchedule_seq (s : State) (e : Fin 24) (x : ScheduleConfig) :
    (s.writeSchedule e x).seq = s.seq := by simp [State.writeSchedule]
@[simp] theorem State.writeSchedule_sampler (s : State) (e : Fin 24) (x : ScheduleConfig) :
    (s.writeSchedule e x).sampler = s.sampler := by simp [State.writeSchedule]
@[simp] theorem State.writeSchedule_sup (s : State) (e : Fin 24) (x : ScheduleConfig) :
    (s.writeSchedule e x).sup = s.sup := by simp [State.writeSchedule]
@[simp] theorem State.writeSchedule_bridge (s : State) (e : Fin 24) (x : ScheduleConfig) :
    (s.writeSchedule e x).bridge = s.bridge := by simp [State.writeSchedule]
@[simp] theorem State.writeSchedule_attn (s : State) (e : Fin 24) (x : ScheduleConfig) :
    (s.writeSchedule e x).attn = s.attn := by simp [State.writeSchedule]
@[simp] theorem State.writeSchedule_port (s : State) (e : Fin 24) (x : ScheduleConfig) :
    (s.writeSchedule e x).port = s.port := by simp [State.writeSchedule]
@[simp] theorem State.writeSchedule_groups (s : State) (e : Fin 24) (x : ScheduleConfig) :
    (s.writeSchedule e x).groups = s.groups := by simp [State.writeSchedule]
@[simp] theorem State.writeSchedule_conflicts (s : State) (e : Fin 24) (x : ScheduleConfig) :
    (s.writeSchedule e x).conflicts = s.conflicts := by simp [State.writeSchedule]
@[simp] theorem State.writeSchedule_channels (s : State) (e : Fin 24) (x : ScheduleConfig) :
    (s.writeSchedule e x).channels = s.channels := by simp [State.writeSchedule]
@[simp] theorem State.writeSchedule_profiles (s : State) (e : Fin 24) (x : ScheduleConfig) :
    (s.writeSchedule e x).profiles = s.profiles := by simp [State.writeSchedule]
@[simp] theorem State.writeSchedule_cables (s : State) (e : Fin 24) (x : ScheduleConfig) :
    (s.writeSchedule e x).cables = s.cables := by simp [State.writeSchedule]
@[simp] theorem State.writeSchedule_plans (s : State) (e : Fin 24) (x : ScheduleConfig) :
    (s.writeSchedule e x).plans = s.plans := by simp [State.writeSchedule]
@[simp] theorem State.writeSchedule_stages (s : State) (e : Fin 24) (x : ScheduleConfig) :
    (s.writeSchedule e x).stages = s.stages := by simp [State.writeSchedule]
@[simp] theorem State.writeSchedule_detectors (s : State) (e : Fin 24) (x : ScheduleConfig) :
    (s.writeSchedule e x).detectors = s.detectors := by simp [State.writeSchedule]
@[simp] theorem State.writeSchedule_junctionRev (s : State) (e : Fin 24) (x : ScheduleConfig) :
    (s.writeSchedule e x).junctionRev = s.junctionRev := by simp [State.writeSchedule]
@[simp] theorem State.writeSchedule_counted (s : State) (e : Fin 24) (x : ScheduleConfig) :
    (s.writeSchedule e x).counted = s.counted := by simp [State.writeSchedule]

@[simp] theorem State.writeDetector_pending (s : State) (d : Fin 16) (x : DetectorConfig) :
    (s.writeDetector d x).pending = s.pending := by simp [State.writeDetector]
@[simp] theorem State.writeDetector_link (s : State) (d : Fin 16) (x : DetectorConfig) :
    (s.writeDetector d x).link = s.link := by simp [State.writeDetector]
@[simp] theorem State.writeDetector_base (s : State) (d : Fin 16) (x : DetectorConfig) :
    (s.writeDetector d x).base = s.base := by simp [State.writeDetector]
@[simp] theorem State.writeDetector_sched (s : State) (d : Fin 16) (x : DetectorConfig) :
    (s.writeDetector d x).sched = s.sched := by simp [State.writeDetector]
@[simp] theorem State.writeDetector_seq (s : State) (d : Fin 16) (x : DetectorConfig) :
    (s.writeDetector d x).seq = s.seq := by simp [State.writeDetector]
@[simp] theorem State.writeDetector_sampler (s : State) (d : Fin 16) (x : DetectorConfig) :
    (s.writeDetector d x).sampler = s.sampler := by simp [State.writeDetector]
@[simp] theorem State.writeDetector_sup (s : State) (d : Fin 16) (x : DetectorConfig) :
    (s.writeDetector d x).sup = s.sup := by simp [State.writeDetector]
@[simp] theorem State.writeDetector_bridge (s : State) (d : Fin 16) (x : DetectorConfig) :
    (s.writeDetector d x).bridge = s.bridge := by simp [State.writeDetector]
@[simp] theorem State.writeDetector_attn (s : State) (d : Fin 16) (x : DetectorConfig) :
    (s.writeDetector d x).attn = s.attn := by simp [State.writeDetector]
@[simp] theorem State.writeDetector_port (s : State) (d : Fin 16) (x : DetectorConfig) :
    (s.writeDetector d x).port = s.port := by simp [State.writeDetector]
@[simp] theorem State.writeDetector_groups (s : State) (d : Fin 16) (x : DetectorConfig) :
    (s.writeDetector d x).groups = s.groups := by simp [State.writeDetector]
@[simp] theorem State.writeDetector_conflicts (s : State) (d : Fin 16) (x : DetectorConfig) :
    (s.writeDetector d x).conflicts = s.conflicts := by simp [State.writeDetector]
@[simp] theorem State.writeDetector_channels (s : State) (d : Fin 16) (x : DetectorConfig) :
    (s.writeDetector d x).channels = s.channels := by simp [State.writeDetector]
@[simp] theorem State.writeDetector_profiles (s : State) (d : Fin 16) (x : DetectorConfig) :
    (s.writeDetector d x).profiles = s.profiles := by simp [State.writeDetector]
@[simp] theorem State.writeDetector_cables (s : State) (d : Fin 16) (x : DetectorConfig) :
    (s.writeDetector d x).cables = s.cables := by simp [State.writeDetector]
@[simp] theorem State.writeDetector_plans (s : State) (d : Fin 16) (x : DetectorConfig) :
    (s.writeDetector d x).plans = s.plans := by simp [State.writeDetector]
@[simp] theorem State.writeDetector_stages (s : State) (d : Fin 16) (x : DetectorConfig) :
    (s.writeDetector d x).stages = s.stages := by simp [State.writeDetector]
@[simp] theorem State.writeDetector_schedule (s : State) (d : Fin 16) (x : DetectorConfig) :
    (s.writeDetector d x).schedule = s.schedule := by simp [State.writeDetector]
@[simp] theorem State.writeDetector_junctionRev (s : State) (d : Fin 16) (x : DetectorConfig) :
    (s.writeDetector d x).junctionRev = s.junctionRev := by simp [State.writeDetector]
@[simp] theorem State.writeDetector_counted (s : State) (d : Fin 16) (x : DetectorConfig) :
    (s.writeDetector d x).counted = s.counted := by simp [State.writeDetector]

@[simp] theorem State.writeJunction_pending (s : State) (x : JunctionConfig) :
    (s.writeJunction x).pending = s.pending := by simp [State.writeJunction]
@[simp] theorem State.writeJunction_link (s : State) (x : JunctionConfig) :
    (s.writeJunction x).link = s.link := by simp [State.writeJunction]
@[simp] theorem State.writeJunction_sched (s : State) (x : JunctionConfig) :
    (s.writeJunction x).sched = s.sched := by simp [State.writeJunction]
@[simp] theorem State.writeJunction_seq (s : State) (x : JunctionConfig) :
    (s.writeJunction x).seq = s.seq := by simp [State.writeJunction]
@[simp] theorem State.writeJunction_sampler (s : State) (x : JunctionConfig) :
    (s.writeJunction x).sampler = s.sampler := by simp [State.writeJunction]
@[simp] theorem State.writeJunction_bridge (s : State) (x : JunctionConfig) :
    (s.writeJunction x).bridge = s.bridge := by simp [State.writeJunction]
@[simp] theorem State.writeJunction_attn (s : State) (x : JunctionConfig) :
    (s.writeJunction x).attn = s.attn := by simp [State.writeJunction]
@[simp] theorem State.writeJunction_port (s : State) (x : JunctionConfig) :
    (s.writeJunction x).port = s.port := by simp [State.writeJunction]
@[simp] theorem State.writeJunction_groups (s : State) (x : JunctionConfig) :
    (s.writeJunction x).groups = s.groups := by simp [State.writeJunction]
@[simp] theorem State.writeJunction_conflicts (s : State) (x : JunctionConfig) :
    (s.writeJunction x).conflicts = s.conflicts := by simp [State.writeJunction]
@[simp] theorem State.writeJunction_channels (s : State) (x : JunctionConfig) :
    (s.writeJunction x).channels = s.channels := by simp [State.writeJunction]
@[simp] theorem State.writeJunction_profiles (s : State) (x : JunctionConfig) :
    (s.writeJunction x).profiles = s.profiles := by simp [State.writeJunction]
@[simp] theorem State.writeJunction_cables (s : State) (x : JunctionConfig) :
    (s.writeJunction x).cables = s.cables := by simp [State.writeJunction]
@[simp] theorem State.writeJunction_plans (s : State) (x : JunctionConfig) :
    (s.writeJunction x).plans = s.plans := by simp [State.writeJunction]
@[simp] theorem State.writeJunction_stages (s : State) (x : JunctionConfig) :
    (s.writeJunction x).stages = s.stages := by simp [State.writeJunction]
@[simp] theorem State.writeJunction_schedule (s : State) (x : JunctionConfig) :
    (s.writeJunction x).schedule = s.schedule := by simp [State.writeJunction]
@[simp] theorem State.writeJunction_detectors (s : State) (x : JunctionConfig) :
    (s.writeJunction x).detectors = s.detectors := by simp [State.writeJunction]
@[simp] theorem State.writeJunction_junctionRev (s : State) (x : JunctionConfig) :
    (s.writeJunction x).junctionRev = s.junctionRev := by simp [State.writeJunction]
@[simp] theorem State.writeJunction_counted (s : State) (x : JunctionConfig) :
    (s.writeJunction x).counted = s.counted := by simp [State.writeJunction]

@[simp] theorem State.retirePlan_pending (s : State) (p : Fin 8) :
    (s.retirePlan p).pending = s.pending := by simp [State.retirePlan]
@[simp] theorem State.retirePlan_link (s : State) (p : Fin 8) :
    (s.retirePlan p).link = s.link := by simp [State.retirePlan]
@[simp] theorem State.retirePlan_base (s : State) (p : Fin 8) :
    (s.retirePlan p).base = s.base := by simp [State.retirePlan]
@[simp] theorem State.retirePlan_sampler (s : State) (p : Fin 8) :
    (s.retirePlan p).sampler = s.sampler := by simp [State.retirePlan]
@[simp] theorem State.retirePlan_bridge (s : State) (p : Fin 8) :
    (s.retirePlan p).bridge = s.bridge := by simp [State.retirePlan]
@[simp] theorem State.retirePlan_conflicts (s : State) (p : Fin 8) :
    (s.retirePlan p).conflicts = s.conflicts := by simp [State.retirePlan]
@[simp] theorem State.retirePlan_channels (s : State) (p : Fin 8) :
    (s.retirePlan p).channels = s.channels := by simp [State.retirePlan]
@[simp] theorem State.retirePlan_profiles (s : State) (p : Fin 8) :
    (s.retirePlan p).profiles = s.profiles := by simp [State.retirePlan]
@[simp] theorem State.retirePlan_cables (s : State) (p : Fin 8) :
    (s.retirePlan p).cables = s.cables := by simp [State.retirePlan]
@[simp] theorem State.retirePlan_schedule (s : State) (p : Fin 8) :
    (s.retirePlan p).schedule = s.schedule := by simp [State.retirePlan]
@[simp] theorem State.retirePlan_detectors (s : State) (p : Fin 8) :
    (s.retirePlan p).detectors = s.detectors := by simp [State.retirePlan]
@[simp] theorem State.retirePlan_junctionRev (s : State) (p : Fin 8) :
    (s.retirePlan p).junctionRev = s.junctionRev := by simp [State.retirePlan]
@[simp] theorem State.retirePlan_counted (s : State) (p : Fin 8) :
    (s.retirePlan p).counted = s.counted := by simp [State.retirePlan]

@[simp] theorem State.retireStage_pending (s : State) (d : Fin 96) :
    (s.retireStage d).pending = s.pending := by simp [State.retireStage]
@[simp] theorem State.retireStage_link (s : State) (d : Fin 96) :
    (s.retireStage d).link = s.link := by simp [State.retireStage]
@[simp] theorem State.retireStage_base (s : State) (d : Fin 96) :
    (s.retireStage d).base = s.base := by simp [State.retireStage]
@[simp] theorem State.retireStage_sched (s : State) (d : Fin 96) :
    (s.retireStage d).sched = s.sched := by simp [State.retireStage]
@[simp] theorem State.retireStage_seq (s : State) (d : Fin 96) :
    (s.retireStage d).seq = s.seq := by simp [State.retireStage]
@[simp] theorem State.retireStage_sampler (s : State) (d : Fin 96) :
    (s.retireStage d).sampler = s.sampler := by simp [State.retireStage]
@[simp] theorem State.retireStage_sup (s : State) (d : Fin 96) :
    (s.retireStage d).sup = s.sup := by simp [State.retireStage]
@[simp] theorem State.retireStage_bridge (s : State) (d : Fin 96) :
    (s.retireStage d).bridge = s.bridge := by simp [State.retireStage]
@[simp] theorem State.retireStage_attn (s : State) (d : Fin 96) :
    (s.retireStage d).attn = s.attn := by simp [State.retireStage]
@[simp] theorem State.retireStage_port (s : State) (d : Fin 96) :
    (s.retireStage d).port = s.port := by simp [State.retireStage]
@[simp] theorem State.retireStage_groups (s : State) (d : Fin 96) :
    (s.retireStage d).groups = s.groups := by simp [State.retireStage]
@[simp] theorem State.retireStage_conflicts (s : State) (d : Fin 96) :
    (s.retireStage d).conflicts = s.conflicts := by simp [State.retireStage]
@[simp] theorem State.retireStage_channels (s : State) (d : Fin 96) :
    (s.retireStage d).channels = s.channels := by simp [State.retireStage]
@[simp] theorem State.retireStage_profiles (s : State) (d : Fin 96) :
    (s.retireStage d).profiles = s.profiles := by simp [State.retireStage]
@[simp] theorem State.retireStage_cables (s : State) (d : Fin 96) :
    (s.retireStage d).cables = s.cables := by simp [State.retireStage]
@[simp] theorem State.retireStage_plans (s : State) (d : Fin 96) :
    (s.retireStage d).plans = s.plans := by simp [State.retireStage]
@[simp] theorem State.retireStage_schedule (s : State) (d : Fin 96) :
    (s.retireStage d).schedule = s.schedule := by simp [State.retireStage]
@[simp] theorem State.retireStage_detectors (s : State) (d : Fin 96) :
    (s.retireStage d).detectors = s.detectors := by simp [State.retireStage]
@[simp] theorem State.retireStage_junctionRev (s : State) (d : Fin 96) :
    (s.retireStage d).junctionRev = s.junctionRev := by simp [State.retireStage]
@[simp] theorem State.retireStage_counted (s : State) (d : Fin 96) :
    (s.retireStage d).counted = s.counted := by simp [State.retireStage]

@[simp] theorem State.retireSchedule_pending (s : State) (e : Fin 24) :
    (s.retireSchedule e).pending = s.pending := by simp [State.retireSchedule]
@[simp] theorem State.retireSchedule_link (s : State) (e : Fin 24) :
    (s.retireSchedule e).link = s.link := by simp [State.retireSchedule]
@[simp] theorem State.retireSchedule_base (s : State) (e : Fin 24) :
    (s.retireSchedule e).base = s.base := by simp [State.retireSchedule]
@[simp] theorem State.retireSchedule_sched (s : State) (e : Fin 24) :
    (s.retireSchedule e).sched = s.sched := by simp [State.retireSchedule]
@[simp] theorem State.retireSchedule_seq (s : State) (e : Fin 24) :
    (s.retireSchedule e).seq = s.seq := by simp [State.retireSchedule]
@[simp] theorem State.retireSchedule_sampler (s : State) (e : Fin 24) :
    (s.retireSchedule e).sampler = s.sampler := by simp [State.retireSchedule]
@[simp] theorem State.retireSchedule_sup (s : State) (e : Fin 24) :
    (s.retireSchedule e).sup = s.sup := by simp [State.retireSchedule]
@[simp] theorem State.retireSchedule_bridge (s : State) (e : Fin 24) :
    (s.retireSchedule e).bridge = s.bridge := by simp [State.retireSchedule]
@[simp] theorem State.retireSchedule_attn (s : State) (e : Fin 24) :
    (s.retireSchedule e).attn = s.attn := by simp [State.retireSchedule]
@[simp] theorem State.retireSchedule_port (s : State) (e : Fin 24) :
    (s.retireSchedule e).port = s.port := by simp [State.retireSchedule]
@[simp] theorem State.retireSchedule_groups (s : State) (e : Fin 24) :
    (s.retireSchedule e).groups = s.groups := by simp [State.retireSchedule]
@[simp] theorem State.retireSchedule_conflicts (s : State) (e : Fin 24) :
    (s.retireSchedule e).conflicts = s.conflicts := by simp [State.retireSchedule]
@[simp] theorem State.retireSchedule_channels (s : State) (e : Fin 24) :
    (s.retireSchedule e).channels = s.channels := by simp [State.retireSchedule]
@[simp] theorem State.retireSchedule_profiles (s : State) (e : Fin 24) :
    (s.retireSchedule e).profiles = s.profiles := by simp [State.retireSchedule]
@[simp] theorem State.retireSchedule_cables (s : State) (e : Fin 24) :
    (s.retireSchedule e).cables = s.cables := by simp [State.retireSchedule]
@[simp] theorem State.retireSchedule_plans (s : State) (e : Fin 24) :
    (s.retireSchedule e).plans = s.plans := by simp [State.retireSchedule]
@[simp] theorem State.retireSchedule_stages (s : State) (e : Fin 24) :
    (s.retireSchedule e).stages = s.stages := by simp [State.retireSchedule]
@[simp] theorem State.retireSchedule_detectors (s : State) (e : Fin 24) :
    (s.retireSchedule e).detectors = s.detectors := by simp [State.retireSchedule]
@[simp] theorem State.retireSchedule_junctionRev (s : State) (e : Fin 24) :
    (s.retireSchedule e).junctionRev = s.junctionRev := by simp [State.retireSchedule]
@[simp] theorem State.retireSchedule_counted (s : State) (e : Fin 24) :
    (s.retireSchedule e).counted = s.counted := by simp [State.retireSchedule]

@[simp] theorem State.loadChain_pending (s : State) (p : Fin 8) (n : Nat) (l : List (Fin 96)) :
    (s.loadChain p n l).pending = s.pending := by simp only [State.loadChain] <;> (repeat' split) <;> simp
@[simp] theorem State.loadChain_link (s : State) (p : Fin 8) (n : Nat) (l : List (Fin 96)) :
    (s.loadChain p n l).link = s.link := by simp only [State.loadChain] <;> (repeat' split) <;> simp
@[simp] theorem State.loadChain_base (s : State) (p : Fin 8) (n : Nat) (l : List (Fin 96)) :
    (s.loadChain p n l).base = s.base := by simp only [State.loadChain] <;> (repeat' split) <;> simp
@[simp] theorem State.loadChain_sampler (s : State) (p : Fin 8) (n : Nat) (l : List (Fin 96)) :
    (s.loadChain p n l).sampler = s.sampler := by simp only [State.loadChain] <;> (repeat' split) <;> simp
@[simp] theorem State.loadChain_bridge (s : State) (p : Fin 8) (n : Nat) (l : List (Fin 96)) :
    (s.loadChain p n l).bridge = s.bridge := by simp only [State.loadChain] <;> (repeat' split) <;> simp
@[simp] theorem State.loadChain_conflicts (s : State) (p : Fin 8) (n : Nat) (l : List (Fin 96)) :
    (s.loadChain p n l).conflicts = s.conflicts := by simp only [State.loadChain] <;> (repeat' split) <;> simp
@[simp] theorem State.loadChain_channels (s : State) (p : Fin 8) (n : Nat) (l : List (Fin 96)) :
    (s.loadChain p n l).channels = s.channels := by simp only [State.loadChain] <;> (repeat' split) <;> simp
@[simp] theorem State.loadChain_profiles (s : State) (p : Fin 8) (n : Nat) (l : List (Fin 96)) :
    (s.loadChain p n l).profiles = s.profiles := by simp only [State.loadChain] <;> (repeat' split) <;> simp
@[simp] theorem State.loadChain_cables (s : State) (p : Fin 8) (n : Nat) (l : List (Fin 96)) :
    (s.loadChain p n l).cables = s.cables := by simp only [State.loadChain] <;> (repeat' split) <;> simp
@[simp] theorem State.loadChain_schedule (s : State) (p : Fin 8) (n : Nat) (l : List (Fin 96)) :
    (s.loadChain p n l).schedule = s.schedule := by simp only [State.loadChain] <;> (repeat' split) <;> simp
@[simp] theorem State.loadChain_detectors (s : State) (p : Fin 8) (n : Nat) (l : List (Fin 96)) :
    (s.loadChain p n l).detectors = s.detectors := by simp only [State.loadChain] <;> (repeat' split) <;> simp
@[simp] theorem State.loadChain_junctionRev (s : State) (p : Fin 8) (n : Nat) (l : List (Fin 96)) :
    (s.loadChain p n l).junctionRev = s.junctionRev := by simp only [State.loadChain] <;> (repeat' split) <;> simp
@[simp] theorem State.loadChain_counted (s : State) (p : Fin 8) (n : Nat) (l : List (Fin 96)) :
    (s.loadChain p n l).counted = s.counted := by simp only [State.loadChain] <;> (repeat' split) <;> simp

@[simp] theorem State.selectOverride_pending (s : State) (p : Fin 8) :
    (s.selectOverride p).pending = s.pending := by simp [State.selectOverride]
@[simp] theorem State.selectOverride_link (s : State) (p : Fin 8) :
    (s.selectOverride p).link = s.link := by simp [State.selectOverride]
@[simp] theorem State.selectOverride_base (s : State) (p : Fin 8) :
    (s.selectOverride p).base = s.base := by simp [State.selectOverride]
@[simp] theorem State.selectOverride_sampler (s : State) (p : Fin 8) :
    (s.selectOverride p).sampler = s.sampler := by simp [State.selectOverride]
@[simp] theorem State.selectOverride_bridge (s : State) (p : Fin 8) :
    (s.selectOverride p).bridge = s.bridge := by simp [State.selectOverride]
@[simp] theorem State.selectOverride_conflicts (s : State) (p : Fin 8) :
    (s.selectOverride p).conflicts = s.conflicts := by simp [State.selectOverride]
@[simp] theorem State.selectOverride_channels (s : State) (p : Fin 8) :
    (s.selectOverride p).channels = s.channels := by simp [State.selectOverride]
@[simp] theorem State.selectOverride_profiles (s : State) (p : Fin 8) :
    (s.selectOverride p).profiles = s.profiles := by simp [State.selectOverride]
@[simp] theorem State.selectOverride_cables (s : State) (p : Fin 8) :
    (s.selectOverride p).cables = s.cables := by simp [State.selectOverride]
@[simp] theorem State.selectOverride_plans (s : State) (p : Fin 8) :
    (s.selectOverride p).plans = s.plans := by simp [State.selectOverride]
@[simp] theorem State.selectOverride_stages (s : State) (p : Fin 8) :
    (s.selectOverride p).stages = s.stages := by simp [State.selectOverride]
@[simp] theorem State.selectOverride_schedule (s : State) (p : Fin 8) :
    (s.selectOverride p).schedule = s.schedule := by simp [State.selectOverride]
@[simp] theorem State.selectOverride_detectors (s : State) (p : Fin 8) :
    (s.selectOverride p).detectors = s.detectors := by simp [State.selectOverride]
@[simp] theorem State.selectOverride_junctionRev (s : State) (p : Fin 8) :
    (s.selectOverride p).junctionRev = s.junctionRev := by simp [State.selectOverride]
@[simp] theorem State.selectOverride_counted (s : State) (p : Fin 8) :
    (s.selectOverride p).counted = s.counted := by simp [State.selectOverride]

@[simp] theorem State.selectFollow_pending (s : State) :
    (s.selectFollow).pending = s.pending := by simp [State.selectFollow]
@[simp] theorem State.selectFollow_link (s : State) :
    (s.selectFollow).link = s.link := by simp [State.selectFollow]
@[simp] theorem State.selectFollow_base (s : State) :
    (s.selectFollow).base = s.base := by simp [State.selectFollow]
@[simp] theorem State.selectFollow_sampler (s : State) :
    (s.selectFollow).sampler = s.sampler := by simp [State.selectFollow]
@[simp] theorem State.selectFollow_bridge (s : State) :
    (s.selectFollow).bridge = s.bridge := by simp [State.selectFollow]
@[simp] theorem State.selectFollow_conflicts (s : State) :
    (s.selectFollow).conflicts = s.conflicts := by simp [State.selectFollow]
@[simp] theorem State.selectFollow_channels (s : State) :
    (s.selectFollow).channels = s.channels := by simp [State.selectFollow]
@[simp] theorem State.selectFollow_profiles (s : State) :
    (s.selectFollow).profiles = s.profiles := by simp [State.selectFollow]
@[simp] theorem State.selectFollow_cables (s : State) :
    (s.selectFollow).cables = s.cables := by simp [State.selectFollow]
@[simp] theorem State.selectFollow_plans (s : State) :
    (s.selectFollow).plans = s.plans := by simp [State.selectFollow]
@[simp] theorem State.selectFollow_stages (s : State) :
    (s.selectFollow).stages = s.stages := by simp [State.selectFollow]
@[simp] theorem State.selectFollow_schedule (s : State) :
    (s.selectFollow).schedule = s.schedule := by simp [State.selectFollow]
@[simp] theorem State.selectFollow_detectors (s : State) :
    (s.selectFollow).detectors = s.detectors := by simp [State.selectFollow]
@[simp] theorem State.selectFollow_junctionRev (s : State) :
    (s.selectFollow).junctionRev = s.junctionRev := by simp [State.selectFollow]
@[simp] theorem State.selectFollow_counted (s : State) :
    (s.selectFollow).counted = s.counted := by simp [State.selectFollow]

@[simp] theorem State.commission_pending (s : State) :
    (s.commission).pending = s.pending := by simp only [State.commission] <;> (repeat' split) <;> simp
@[simp] theorem State.commission_link (s : State) :
    (s.commission).link = s.link := by simp only [State.commission] <;> (repeat' split) <;> simp
@[simp] theorem State.commission_base (s : State) :
    (s.commission).base = s.base := by simp only [State.commission] <;> (repeat' split) <;> simp
@[simp] theorem State.commission_sched (s : State) :
    (s.commission).sched = s.sched := by simp only [State.commission] <;> (repeat' split) <;> simp
@[simp] theorem State.commission_sampler (s : State) :
    (s.commission).sampler = s.sampler := by simp only [State.commission] <;> (repeat' split) <;> simp
@[simp] theorem State.commission_conflicts (s : State) :
    (s.commission).conflicts = s.conflicts := by simp only [State.commission] <;> (repeat' split) <;> simp
@[simp] theorem State.commission_channels (s : State) :
    (s.commission).channels = s.channels := by simp only [State.commission] <;> (repeat' split) <;> simp
@[simp] theorem State.commission_profiles (s : State) :
    (s.commission).profiles = s.profiles := by simp only [State.commission] <;> (repeat' split) <;> simp
@[simp] theorem State.commission_plans (s : State) :
    (s.commission).plans = s.plans := by simp only [State.commission] <;> (repeat' split) <;> simp
@[simp] theorem State.commission_stages (s : State) :
    (s.commission).stages = s.stages := by simp only [State.commission] <;> (repeat' split) <;> simp
@[simp] theorem State.commission_schedule (s : State) :
    (s.commission).schedule = s.schedule := by simp only [State.commission] <;> (repeat' split) <;> simp
@[simp] theorem State.commission_detectors (s : State) :
    (s.commission).detectors = s.detectors := by simp only [State.commission] <;> (repeat' split) <;> simp
@[simp] theorem State.commission_junctionRev (s : State) :
    (s.commission).junctionRev = s.junctionRev := by simp only [State.commission] <;> (repeat' split) <;> simp
@[simp] theorem State.commission_counted (s : State) :
    (s.commission).counted = s.counted := by simp only [State.commission] <;> (repeat' split) <;> simp

@[simp] theorem State.takeStart_pending (s : State) :
    (s.takeStart).pending = s.pending := by simp [State.takeStart]
@[simp] theorem State.takeStart_link (s : State) :
    (s.takeStart).link = s.link := by simp [State.takeStart]
@[simp] theorem State.takeStart_base (s : State) :
    (s.takeStart).base = s.base := by simp [State.takeStart]
@[simp] theorem State.takeStart_sched (s : State) :
    (s.takeStart).sched = s.sched := by simp [State.takeStart]
@[simp] theorem State.takeStart_sampler (s : State) :
    (s.takeStart).sampler = s.sampler := by simp [State.takeStart]
@[simp] theorem State.takeStart_conflicts (s : State) :
    (s.takeStart).conflicts = s.conflicts := by simp [State.takeStart]
@[simp] theorem State.takeStart_channels (s : State) :
    (s.takeStart).channels = s.channels := by simp [State.takeStart]
@[simp] theorem State.takeStart_profiles (s : State) :
    (s.takeStart).profiles = s.profiles := by simp [State.takeStart]
@[simp] theorem State.takeStart_plans (s : State) :
    (s.takeStart).plans = s.plans := by simp [State.takeStart]
@[simp] theorem State.takeStart_stages (s : State) :
    (s.takeStart).stages = s.stages := by simp [State.takeStart]
@[simp] theorem State.takeStart_schedule (s : State) :
    (s.takeStart).schedule = s.schedule := by simp [State.takeStart]
@[simp] theorem State.takeStart_detectors (s : State) :
    (s.takeStart).detectors = s.detectors := by simp [State.takeStart]
@[simp] theorem State.takeStart_counted (s : State) :
    (s.takeStart).counted = s.counted := by simp [State.takeStart]

@[simp] theorem State.takeStop_pending (s : State) :
    (s.takeStop).pending = s.pending := by simp [State.takeStop]
@[simp] theorem State.takeStop_link (s : State) :
    (s.takeStop).link = s.link := by simp [State.takeStop]
@[simp] theorem State.takeStop_base (s : State) :
    (s.takeStop).base = s.base := by simp [State.takeStop]
@[simp] theorem State.takeStop_sched (s : State) :
    (s.takeStop).sched = s.sched := by simp [State.takeStop]
@[simp] theorem State.takeStop_sampler (s : State) :
    (s.takeStop).sampler = s.sampler := by simp [State.takeStop]
@[simp] theorem State.takeStop_conflicts (s : State) :
    (s.takeStop).conflicts = s.conflicts := by simp [State.takeStop]
@[simp] theorem State.takeStop_channels (s : State) :
    (s.takeStop).channels = s.channels := by simp [State.takeStop]
@[simp] theorem State.takeStop_profiles (s : State) :
    (s.takeStop).profiles = s.profiles := by simp [State.takeStop]
@[simp] theorem State.takeStop_plans (s : State) :
    (s.takeStop).plans = s.plans := by simp [State.takeStop]
@[simp] theorem State.takeStop_stages (s : State) :
    (s.takeStop).stages = s.stages := by simp [State.takeStop]
@[simp] theorem State.takeStop_schedule (s : State) :
    (s.takeStop).schedule = s.schedule := by simp [State.takeStop]
@[simp] theorem State.takeStop_detectors (s : State) :
    (s.takeStop).detectors = s.detectors := by simp [State.takeStop]
@[simp] theorem State.takeStop_junctionRev (s : State) :
    (s.takeStop).junctionRev = s.junctionRev := by simp [State.takeStop]
@[simp] theorem State.takeStop_counted (s : State) :
    (s.takeStop).counted = s.counted := by simp [State.takeStop]

@[simp] theorem State.takeDark_pending (s : State) :
    (s.takeDark).pending = s.pending := by simp [State.takeDark]
@[simp] theorem State.takeDark_link (s : State) :
    (s.takeDark).link = s.link := by simp [State.takeDark]
@[simp] theorem State.takeDark_base (s : State) :
    (s.takeDark).base = s.base := by simp [State.takeDark]
@[simp] theorem State.takeDark_sched (s : State) :
    (s.takeDark).sched = s.sched := by simp [State.takeDark]
@[simp] theorem State.takeDark_sampler (s : State) :
    (s.takeDark).sampler = s.sampler := by simp [State.takeDark]
@[simp] theorem State.takeDark_conflicts (s : State) :
    (s.takeDark).conflicts = s.conflicts := by simp [State.takeDark]
@[simp] theorem State.takeDark_channels (s : State) :
    (s.takeDark).channels = s.channels := by simp [State.takeDark]
@[simp] theorem State.takeDark_profiles (s : State) :
    (s.takeDark).profiles = s.profiles := by simp [State.takeDark]
@[simp] theorem State.takeDark_plans (s : State) :
    (s.takeDark).plans = s.plans := by simp [State.takeDark]
@[simp] theorem State.takeDark_stages (s : State) :
    (s.takeDark).stages = s.stages := by simp [State.takeDark]
@[simp] theorem State.takeDark_schedule (s : State) :
    (s.takeDark).schedule = s.schedule := by simp [State.takeDark]
@[simp] theorem State.takeDark_detectors (s : State) :
    (s.takeDark).detectors = s.detectors := by simp [State.takeDark]
@[simp] theorem State.takeDark_junctionRev (s : State) :
    (s.takeDark).junctionRev = s.junctionRev := by simp [State.takeDark]
@[simp] theorem State.takeDark_counted (s : State) :
    (s.takeDark).counted = s.counted := by simp [State.takeDark]

@[simp] theorem State.setTime_pending (s : State) (t : TimeOfDay) :
    (s.setTime t).pending = s.pending := by simp [State.setTime]
@[simp] theorem State.setTime_link (s : State) (t : TimeOfDay) :
    (s.setTime t).link = s.link := by simp [State.setTime]
@[simp] theorem State.setTime_sampler (s : State) (t : TimeOfDay) :
    (s.setTime t).sampler = s.sampler := by simp [State.setTime]
@[simp] theorem State.setTime_bridge (s : State) (t : TimeOfDay) :
    (s.setTime t).bridge = s.bridge := by simp [State.setTime]
@[simp] theorem State.setTime_conflicts (s : State) (t : TimeOfDay) :
    (s.setTime t).conflicts = s.conflicts := by simp [State.setTime]
@[simp] theorem State.setTime_profiles (s : State) (t : TimeOfDay) :
    (s.setTime t).profiles = s.profiles := by simp [State.setTime]
@[simp] theorem State.setTime_plans (s : State) (t : TimeOfDay) :
    (s.setTime t).plans = s.plans := by simp [State.setTime]
@[simp] theorem State.setTime_stages (s : State) (t : TimeOfDay) :
    (s.setTime t).stages = s.stages := by simp [State.setTime]
@[simp] theorem State.setTime_schedule (s : State) (t : TimeOfDay) :
    (s.setTime t).schedule = s.schedule := by simp [State.setTime]
@[simp] theorem State.setTime_detectors (s : State) (t : TimeOfDay) :
    (s.setTime t).detectors = s.detectors := by simp [State.setTime]
@[simp] theorem State.setTime_counted (s : State) (t : TimeOfDay) :
    (s.setTime t).counted = s.counted := by simp [State.setTime]

@[simp] theorem State.setDim_pending (s : State) (d : DimOverride) :
    (s.setDim d).pending = s.pending := by simp [State.setDim]
@[simp] theorem State.setDim_link (s : State) (d : DimOverride) :
    (s.setDim d).link = s.link := by simp [State.setDim]
@[simp] theorem State.setDim_base (s : State) (d : DimOverride) :
    (s.setDim d).base = s.base := by simp [State.setDim]
@[simp] theorem State.setDim_seq (s : State) (d : DimOverride) :
    (s.setDim d).seq = s.seq := by simp [State.setDim]
@[simp] theorem State.setDim_sampler (s : State) (d : DimOverride) :
    (s.setDim d).sampler = s.sampler := by simp [State.setDim]
@[simp] theorem State.setDim_sup (s : State) (d : DimOverride) :
    (s.setDim d).sup = s.sup := by simp [State.setDim]
@[simp] theorem State.setDim_bridge (s : State) (d : DimOverride) :
    (s.setDim d).bridge = s.bridge := by simp [State.setDim]
@[simp] theorem State.setDim_attn (s : State) (d : DimOverride) :
    (s.setDim d).attn = s.attn := by simp [State.setDim]
@[simp] theorem State.setDim_port (s : State) (d : DimOverride) :
    (s.setDim d).port = s.port := by simp [State.setDim]
@[simp] theorem State.setDim_groups (s : State) (d : DimOverride) :
    (s.setDim d).groups = s.groups := by simp [State.setDim]
@[simp] theorem State.setDim_conflicts (s : State) (d : DimOverride) :
    (s.setDim d).conflicts = s.conflicts := by simp [State.setDim]
@[simp] theorem State.setDim_profiles (s : State) (d : DimOverride) :
    (s.setDim d).profiles = s.profiles := by simp [State.setDim]
@[simp] theorem State.setDim_cables (s : State) (d : DimOverride) :
    (s.setDim d).cables = s.cables := by simp [State.setDim]
@[simp] theorem State.setDim_plans (s : State) (d : DimOverride) :
    (s.setDim d).plans = s.plans := by simp [State.setDim]
@[simp] theorem State.setDim_stages (s : State) (d : DimOverride) :
    (s.setDim d).stages = s.stages := by simp [State.setDim]
@[simp] theorem State.setDim_schedule (s : State) (d : DimOverride) :
    (s.setDim d).schedule = s.schedule := by simp [State.setDim]
@[simp] theorem State.setDim_detectors (s : State) (d : DimOverride) :
    (s.setDim d).detectors = s.detectors := by simp [State.setDim]
@[simp] theorem State.setDim_junctionRev (s : State) (d : DimOverride) :
    (s.setDim d).junctionRev = s.junctionRev := by simp [State.setDim]
@[simp] theorem State.setDim_counted (s : State) (d : DimOverride) :
    (s.setDim d).counted = s.counted := by simp [State.setDim]

@[simp] theorem State.requestAll_pending (s : State) (l : List TestRequest) :
    (s.requestAll l).pending = s.pending := foldl_keeps State.pending _ (by intros; simp) _ _
@[simp] theorem State.requestAll_link (s : State) (l : List TestRequest) :
    (s.requestAll l).link = s.link := foldl_keeps State.link _ (by intros; simp) _ _
@[simp] theorem State.requestAll_base (s : State) (l : List TestRequest) :
    (s.requestAll l).base = s.base := foldl_keeps State.base _ (by intros; simp) _ _
@[simp] theorem State.requestAll_sched (s : State) (l : List TestRequest) :
    (s.requestAll l).sched = s.sched := foldl_keeps State.sched _ (by intros; simp) _ _
@[simp] theorem State.requestAll_seq (s : State) (l : List TestRequest) :
    (s.requestAll l).seq = s.seq := foldl_keeps State.seq _ (by intros; simp) _ _
@[simp] theorem State.requestAll_sampler (s : State) (l : List TestRequest) :
    (s.requestAll l).sampler = s.sampler := foldl_keeps State.sampler _ (by intros; simp) _ _
@[simp] theorem State.requestAll_sup (s : State) (l : List TestRequest) :
    (s.requestAll l).sup = s.sup := foldl_keeps State.sup _ (by intros; simp) _ _
@[simp] theorem State.requestAll_attn (s : State) (l : List TestRequest) :
    (s.requestAll l).attn = s.attn := foldl_keeps State.attn _ (by intros; simp) _ _
@[simp] theorem State.requestAll_port (s : State) (l : List TestRequest) :
    (s.requestAll l).port = s.port := foldl_keeps State.port _ (by intros; simp) _ _
@[simp] theorem State.requestAll_groups (s : State) (l : List TestRequest) :
    (s.requestAll l).groups = s.groups := foldl_keeps State.groups _ (by intros; simp) _ _
@[simp] theorem State.requestAll_conflicts (s : State) (l : List TestRequest) :
    (s.requestAll l).conflicts = s.conflicts := foldl_keeps State.conflicts _ (by intros; simp) _ _
@[simp] theorem State.requestAll_channels (s : State) (l : List TestRequest) :
    (s.requestAll l).channels = s.channels := foldl_keeps State.channels _ (by intros; simp) _ _
@[simp] theorem State.requestAll_profiles (s : State) (l : List TestRequest) :
    (s.requestAll l).profiles = s.profiles := foldl_keeps State.profiles _ (by intros; simp) _ _
@[simp] theorem State.requestAll_plans (s : State) (l : List TestRequest) :
    (s.requestAll l).plans = s.plans := foldl_keeps State.plans _ (by intros; simp) _ _
@[simp] theorem State.requestAll_stages (s : State) (l : List TestRequest) :
    (s.requestAll l).stages = s.stages := foldl_keeps State.stages _ (by intros; simp) _ _
@[simp] theorem State.requestAll_schedule (s : State) (l : List TestRequest) :
    (s.requestAll l).schedule = s.schedule := foldl_keeps State.schedule _ (by intros; simp) _ _
@[simp] theorem State.requestAll_detectors (s : State) (l : List TestRequest) :
    (s.requestAll l).detectors = s.detectors := foldl_keeps State.detectors _ (by intros; simp) _ _
@[simp] theorem State.requestAll_junctionRev (s : State) (l : List TestRequest) :
    (s.requestAll l).junctionRev = s.junctionRev := foldl_keeps State.junctionRev _ (by intros; simp) _ _
@[simp] theorem State.requestAll_counted (s : State) (l : List TestRequest) :
    (s.requestAll l).counted = s.counted := foldl_keeps State.counted _ (by intros; simp) _ _

@[simp] theorem State.clearChannel_pending (s : State) (c : Fin 64) :
    (s.clearChannel c).pending = s.pending := by simp only [State.clearChannel] <;> (repeat' split) <;> simp
@[simp] theorem State.clearChannel_link (s : State) (c : Fin 64) :
    (s.clearChannel c).link = s.link := by simp only [State.clearChannel] <;> (repeat' split) <;> simp
@[simp] theorem State.clearChannel_base (s : State) (c : Fin 64) :
    (s.clearChannel c).base = s.base := by simp only [State.clearChannel] <;> (repeat' split) <;> simp
@[simp] theorem State.clearChannel_sched (s : State) (c : Fin 64) :
    (s.clearChannel c).sched = s.sched := by simp only [State.clearChannel] <;> (repeat' split) <;> simp
@[simp] theorem State.clearChannel_sampler (s : State) (c : Fin 64) :
    (s.clearChannel c).sampler = s.sampler := by simp only [State.clearChannel] <;> (repeat' split) <;> simp
@[simp] theorem State.clearChannel_bridge (s : State) (c : Fin 64) :
    (s.clearChannel c).bridge = s.bridge := by simp only [State.clearChannel] <;> (repeat' split) <;> simp
@[simp] theorem State.clearChannel_conflicts (s : State) (c : Fin 64) :
    (s.clearChannel c).conflicts = s.conflicts := by simp only [State.clearChannel] <;> (repeat' split) <;> simp
@[simp] theorem State.clearChannel_profiles (s : State) (c : Fin 64) :
    (s.clearChannel c).profiles = s.profiles := by simp only [State.clearChannel] <;> (repeat' split) <;> simp
@[simp] theorem State.clearChannel_cables (s : State) (c : Fin 64) :
    (s.clearChannel c).cables = s.cables := by simp only [State.clearChannel] <;> (repeat' split) <;> simp
@[simp] theorem State.clearChannel_plans (s : State) (c : Fin 64) :
    (s.clearChannel c).plans = s.plans := by simp only [State.clearChannel] <;> (repeat' split) <;> simp
@[simp] theorem State.clearChannel_stages (s : State) (c : Fin 64) :
    (s.clearChannel c).stages = s.stages := by simp only [State.clearChannel] <;> (repeat' split) <;> simp
@[simp] theorem State.clearChannel_schedule (s : State) (c : Fin 64) :
    (s.clearChannel c).schedule = s.schedule := by simp only [State.clearChannel] <;> (repeat' split) <;> simp
@[simp] theorem State.clearChannel_detectors (s : State) (c : Fin 64) :
    (s.clearChannel c).detectors = s.detectors := by simp only [State.clearChannel] <;> (repeat' split) <;> simp
@[simp] theorem State.clearChannel_junctionRev (s : State) (c : Fin 64) :
    (s.clearChannel c).junctionRev = s.junctionRev := by simp only [State.clearChannel] <;> (repeat' split) <;> simp
@[simp] theorem State.clearChannel_counted (s : State) (c : Fin 64) :
    (s.clearChannel c).counted = s.counted := by simp only [State.clearChannel] <;> (repeat' split) <;> simp

@[simp] theorem State.clearCable_pending (s : State) (k : Fin 16) :
    (s.clearCable k).pending = s.pending := by simp only [State.clearCable] <;> (repeat' split) <;> simp
@[simp] theorem State.clearCable_link (s : State) (k : Fin 16) :
    (s.clearCable k).link = s.link := by simp only [State.clearCable] <;> (repeat' split) <;> simp
@[simp] theorem State.clearCable_base (s : State) (k : Fin 16) :
    (s.clearCable k).base = s.base := by simp only [State.clearCable] <;> (repeat' split) <;> simp
@[simp] theorem State.clearCable_sched (s : State) (k : Fin 16) :
    (s.clearCable k).sched = s.sched := by simp only [State.clearCable] <;> (repeat' split) <;> simp
@[simp] theorem State.clearCable_seq (s : State) (k : Fin 16) :
    (s.clearCable k).seq = s.seq := by simp only [State.clearCable] <;> (repeat' split) <;> simp
@[simp] theorem State.clearCable_sampler (s : State) (k : Fin 16) :
    (s.clearCable k).sampler = s.sampler := by simp only [State.clearCable] <;> (repeat' split) <;> simp
@[simp] theorem State.clearCable_sup (s : State) (k : Fin 16) :
    (s.clearCable k).sup = s.sup := by simp only [State.clearCable] <;> (repeat' split) <;> simp
@[simp] theorem State.clearCable_attn (s : State) (k : Fin 16) :
    (s.clearCable k).attn = s.attn := by simp only [State.clearCable] <;> (repeat' split) <;> simp
@[simp] theorem State.clearCable_port (s : State) (k : Fin 16) :
    (s.clearCable k).port = s.port := by simp only [State.clearCable] <;> (repeat' split) <;> simp
@[simp] theorem State.clearCable_conflicts (s : State) (k : Fin 16) :
    (s.clearCable k).conflicts = s.conflicts := by simp only [State.clearCable] <;> (repeat' split) <;> simp
@[simp] theorem State.clearCable_channels (s : State) (k : Fin 16) :
    (s.clearCable k).channels = s.channels := by simp only [State.clearCable] <;> (repeat' split) <;> simp
@[simp] theorem State.clearCable_profiles (s : State) (k : Fin 16) :
    (s.clearCable k).profiles = s.profiles := by simp only [State.clearCable] <;> (repeat' split) <;> simp
@[simp] theorem State.clearCable_plans (s : State) (k : Fin 16) :
    (s.clearCable k).plans = s.plans := by simp only [State.clearCable] <;> (repeat' split) <;> simp
@[simp] theorem State.clearCable_stages (s : State) (k : Fin 16) :
    (s.clearCable k).stages = s.stages := by simp only [State.clearCable] <;> (repeat' split) <;> simp
@[simp] theorem State.clearCable_schedule (s : State) (k : Fin 16) :
    (s.clearCable k).schedule = s.schedule := by simp only [State.clearCable] <;> (repeat' split) <;> simp
@[simp] theorem State.clearCable_detectors (s : State) (k : Fin 16) :
    (s.clearCable k).detectors = s.detectors := by simp only [State.clearCable] <;> (repeat' split) <;> simp
@[simp] theorem State.clearCable_junctionRev (s : State) (k : Fin 16) :
    (s.clearCable k).junctionRev = s.junctionRev := by simp only [State.clearCable] <;> (repeat' split) <;> simp
@[simp] theorem State.clearCable_counted (s : State) (k : Fin 16) :
    (s.clearCable k).counted = s.counted := by simp only [State.clearCable] <;> (repeat' split) <;> simp

@[simp] theorem State.clearJunction_pending (s : State) :
    (s.clearJunction).pending = s.pending := by simp [State.clearJunction]
@[simp] theorem State.clearJunction_link (s : State) :
    (s.clearJunction).link = s.link := by simp [State.clearJunction]
@[simp] theorem State.clearJunction_base (s : State) :
    (s.clearJunction).base = s.base := by simp [State.clearJunction]
@[simp] theorem State.clearJunction_sched (s : State) :
    (s.clearJunction).sched = s.sched := by simp [State.clearJunction]
@[simp] theorem State.clearJunction_seq (s : State) :
    (s.clearJunction).seq = s.seq := by simp [State.clearJunction]
@[simp] theorem State.clearJunction_sampler (s : State) :
    (s.clearJunction).sampler = s.sampler := by simp [State.clearJunction]
@[simp] theorem State.clearJunction_attn (s : State) :
    (s.clearJunction).attn = s.attn := by simp [State.clearJunction]
@[simp] theorem State.clearJunction_port (s : State) :
    (s.clearJunction).port = s.port := by simp [State.clearJunction]
@[simp] theorem State.clearJunction_groups (s : State) :
    (s.clearJunction).groups = s.groups := by simp [State.clearJunction]
@[simp] theorem State.clearJunction_conflicts (s : State) :
    (s.clearJunction).conflicts = s.conflicts := by simp [State.clearJunction]
@[simp] theorem State.clearJunction_channels (s : State) :
    (s.clearJunction).channels = s.channels := by simp [State.clearJunction]
@[simp] theorem State.clearJunction_profiles (s : State) :
    (s.clearJunction).profiles = s.profiles := by simp [State.clearJunction]
@[simp] theorem State.clearJunction_cables (s : State) :
    (s.clearJunction).cables = s.cables := by simp [State.clearJunction]
@[simp] theorem State.clearJunction_plans (s : State) :
    (s.clearJunction).plans = s.plans := by simp [State.clearJunction]
@[simp] theorem State.clearJunction_stages (s : State) :
    (s.clearJunction).stages = s.stages := by simp [State.clearJunction]
@[simp] theorem State.clearJunction_schedule (s : State) :
    (s.clearJunction).schedule = s.schedule := by simp [State.clearJunction]
@[simp] theorem State.clearJunction_detectors (s : State) :
    (s.clearJunction).detectors = s.detectors := by simp [State.clearJunction]
@[simp] theorem State.clearJunction_junctionRev (s : State) :
    (s.clearJunction).junctionRev = s.junctionRev := by simp [State.clearJunction]
@[simp] theorem State.clearJunction_counted (s : State) :
    (s.clearJunction).counted = s.counted := by simp [State.clearJunction]

@[simp] theorem State.stepOne_pending (s : State) (g : Fin 16) :
    (s.stepOne g).pending = s.pending := by simp only [State.stepOne] <;> (repeat' split) <;> simp
@[simp] theorem State.stepOne_link (s : State) (g : Fin 16) :
    (s.stepOne g).link = s.link := by simp only [State.stepOne] <;> (repeat' split) <;> simp
@[simp] theorem State.stepOne_base (s : State) (g : Fin 16) :
    (s.stepOne g).base = s.base := by simp only [State.stepOne] <;> (repeat' split) <;> simp
@[simp] theorem State.stepOne_sched (s : State) (g : Fin 16) :
    (s.stepOne g).sched = s.sched := by simp only [State.stepOne] <;> (repeat' split) <;> simp
@[simp] theorem State.stepOne_sampler (s : State) (g : Fin 16) :
    (s.stepOne g).sampler = s.sampler := by simp only [State.stepOne] <;> (repeat' split) <;> simp
@[simp] theorem State.stepOne_sup (s : State) (g : Fin 16) :
    (s.stepOne g).sup = s.sup := by simp only [State.stepOne] <;> (repeat' split) <;> simp
@[simp] theorem State.stepOne_bridge (s : State) (g : Fin 16) :
    (s.stepOne g).bridge = s.bridge := by simp only [State.stepOne] <;> (repeat' split) <;> simp
@[simp] theorem State.stepOne_attn (s : State) (g : Fin 16) :
    (s.stepOne g).attn = s.attn := by simp only [State.stepOne] <;> (repeat' split) <;> simp
@[simp] theorem State.stepOne_port (s : State) (g : Fin 16) :
    (s.stepOne g).port = s.port := by simp only [State.stepOne] <;> (repeat' split) <;> simp
@[simp] theorem State.stepOne_conflicts (s : State) (g : Fin 16) :
    (s.stepOne g).conflicts = s.conflicts := by simp only [State.stepOne] <;> (repeat' split) <;> simp
@[simp] theorem State.stepOne_channels (s : State) (g : Fin 16) :
    (s.stepOne g).channels = s.channels := by simp only [State.stepOne] <;> (repeat' split) <;> simp
@[simp] theorem State.stepOne_profiles (s : State) (g : Fin 16) :
    (s.stepOne g).profiles = s.profiles := by simp only [State.stepOne] <;> (repeat' split) <;> simp
@[simp] theorem State.stepOne_cables (s : State) (g : Fin 16) :
    (s.stepOne g).cables = s.cables := by simp only [State.stepOne] <;> (repeat' split) <;> simp
@[simp] theorem State.stepOne_plans (s : State) (g : Fin 16) :
    (s.stepOne g).plans = s.plans := by simp only [State.stepOne] <;> (repeat' split) <;> simp
@[simp] theorem State.stepOne_stages (s : State) (g : Fin 16) :
    (s.stepOne g).stages = s.stages := by simp only [State.stepOne] <;> (repeat' split) <;> simp
@[simp] theorem State.stepOne_schedule (s : State) (g : Fin 16) :
    (s.stepOne g).schedule = s.schedule := by simp only [State.stepOne] <;> (repeat' split) <;> simp
@[simp] theorem State.stepOne_junctionRev (s : State) (g : Fin 16) :
    (s.stepOne g).junctionRev = s.junctionRev := by simp only [State.stepOne] <;> (repeat' split) <;> simp
@[simp] theorem State.stepOne_counted (s : State) (g : Fin 16) :
    (s.stepOne g).counted = s.counted := by simp only [State.stepOne] <;> (repeat' split) <;> simp

end Sys2Proof.Machine
end

