-- ==== Sys2Proof/Laws/Link.lean ====
section
/-! SUPPORT. The command link's shared steps, said once: what a frame does when it is taken, and what each refusal
leaves (R181 to R185). -/

namespace Sys2Proof.Machine

/-! ## What a change of the link alone leaves -/

@[simp] theorem State.recordRev_mapLink (s : State) (f : Link → Link) (r : RecordName) :
    (s.mapLink f).recordRev r = s.recordRev r := by
  cases r with
  | mk t i => cases t <;> rfl

@[simp] theorem State.layout_mapLink (s : State) (f : Link → Link) (r : RecordName) :
    (s.mapLink f).layout r = s.layout r := by
  cases r with
  | mk t i => cases t <;> rfl

@[simp] theorem State.recordRev_shiftOut (s : State) (n : Nat) (r : RecordName) :
    (s.shiftOut n).recordRev r = s.recordRev r := State.recordRev_mapLink ..

@[simp] theorem State.layout_shiftOut (s : State) (n : Nat) (r : RecordName) :
    (s.shiftOut n).layout r = s.layout r := State.layout_mapLink ..

@[simp] theorem State.junctionLayout_shiftOut (s : State) (n : Nat) :
    (s.shiftOut n).junctionLayout = s.junctionLayout := rfl

@[simp] theorem State.probeLayout_shiftOut (s : State) (n : Nat) (c : Fin 64) :
    (s.shiftOut n).probeLayout c = s.probeLayout c := rfl

/-- A frame shifts the slot out and then replaces it: together, the answered link. -/
theorem State.shiftOut_setSlot (s : State) (h : Header) (r : Response) :
    (s.shiftOut h.clocked).setSlot r = { s with link := s.link.answered h r } := rfl

/-! ## Indexes and names -/

theorem finOf_toNat {n : Nat} (b : Byte) (i : Fin n) (h : b.toNat = i.val) : finOf n b = some i := by
  have hi : b.toNat < n := h ▸ i.isLt
  unfold finOf
  rw [dif_pos hi]
  exact congrArg some (Fin.ext h)

theorem indexOf_val {n : Nat} (i : Fin n) : indexOf n i.val = some i := by
  unfold indexOf
  rw [dif_pos i.isLt]

/-! ## Taken commands -/

/-- A frame whose command is executed: its reply, answered. -/
theorem State.runFrame_ready (s : State) (c : Call) (named : Option RecordName) (work : State → Reply)
    (hr : s.ready) :
    s.runFrame c named work =
      (work (s.shiftOut c.header.clocked)).state.setSlot (work (s.shiftOut c.header.clocked)).response := by
  have h2 : s.link.inFlight = none := hr.2
  simp [State.runFrame, State.whenPowered, hr.1, h2]

/-- A frame that comes while a command is in flight is refused BUSY (R183). -/
theorem State.runFrame_busy (s : State) (c : Call) (named : Option RecordName) (work : State → Reply)
    (hp : s.base.mainPower = true) (hf : s.link.inFlight ≠ none) :
    s.runFrame c named work =
      { s with link := s.link.answered c.header (c.answer .busy (s.namedRev named) []) } := by
  have h2 : s.link.inFlight.isSome = true := by
    cases h : s.link.inFlight with
    | none => exact absurd h hf
    | some x => simp [h]
  cases named with
  | none => simp [State.runFrame, State.whenPowered, hp, h2, State.refuse, State.namedRev]; rfl
  | some r => simp [State.runFrame, State.whenPowered, hp, h2, State.refuse, State.namedRev]; rfl

/-- A frame that comes while main power is absent does nothing. -/
theorem State.runFrame_unpowered (s : State) (c : Call) (named : Option RecordName) (work : State → Reply)
    (hp : s.base.mainPower = false) : s.runFrame c named work = s := by
  simp [State.runFrame, State.whenPowered, hp]

theorem State.forRecord_named {n : Nat} (s : State) (c : Call) (t : Table) (i : Fin n) (work : Fin n → Reply)
    (hn : c.header.names t i.val) : s.forRecord c t n work = work i := by
  simp [State.forRecord, hn.1, finOf_toNat _ i hn.2]

theorem State.gated_open (s : State) (c : Call) (named : Option RecordName) (maintenance : Bool)
    (modes : Mode → Bool) (work : Reply) (hk : maintenance = true → s.link.mkey = true)
    (hm : modes s.sup.mode = true) : s.gated c named maintenance modes work = work := by
  cases maintenance <;> cases hkey : s.link.mkey <;> simp_all [State.gated]

theorem State.unlessStale_fresh (s : State) (c : Call) (r : RecordName) (work : Reply)
    (hf : s.revisionMatches c.header r) : s.unlessStale c r work = work := by
  unfold State.unlessStale
  split
  · rfl
  · next e he => rw [if_pos (hf e he)]

/-- A WRITE that is decided by its own rule (R182 steps 1 to 6 passed). -/
theorem State.write_taken {n : Nat} (s : State) (h : Header) (t : Table) (i : Fin n) (maintenance : Bool)
    (modes : Mode → Bool) (work : State → Fin n → Call → Reply) (hr : s.ready) (hn : h.names t i.val)
    (hk : maintenance = true → s.link.mkey = true) (hm : modes s.sup.mode = true)
    (hf : s.revisionMatches h (nameOf t i.val)) :
    s.write h t n maintenance modes work =
      (work (s.shiftOut h.clocked) i { code := 2, header := h }).state.setSlot
        (work (s.shiftOut h.clocked) i { code := 2, header := h }).response := by
  have hf' : (s.shiftOut h.clocked).revisionMatches ({ code := 2, header := h } : Call).header (nameOf t i.val) :=
    fun e he => by rw [State.recordRev_shiftOut]; exact hf e he
  rw [State.write, State.runFrame_ready _ _ _ _ hr]
  simp only [State.forRecord_named _ { code := 2, header := h } t i _ hn]
  rw [State.gated_open (s.shiftOut h.clocked) _ _ maintenance modes _ hk hm, State.unlessStale_fresh _ _ _ _ hf']

/-- A command on a record that is decided by its own rule. -/
theorem State.onRecord_taken {n : Nat} (s : State) (code : Byte) (h : Header) (t : Table) (i : Fin n)
    (maintenance : Bool) (work : State → Fin n → Call → Reply) (hr : s.ready) (hn : h.names t i.val)
    (hk : maintenance = true → s.link.mkey = true) :
    s.onRecord code h [] t n maintenance work =
      (work (s.shiftOut h.clocked) i { code := code, header := h }).state.setSlot
        (work (s.shiftOut h.clocked) i { code := code, header := h }).response := by
  rw [State.onRecord, State.runFrame_ready _ _ _ _ hr]
  simp only [State.forRecord_named _ { code := code, header := h } t i _ hn]
  rw [State.gated_open (s.shiftOut h.clocked) _ _ maintenance Mode.every _ hk rfl]
  simp [State.noPayload]

/-- A command that names no record, decided by its own rule. -/
theorem State.onJunction_taken (s : State) (code : Byte) (h : Header) (maintenance : Bool) (modes : Mode → Bool)
    (work : State → Call → Reply) (hr : s.ready) (hk : maintenance = true → s.link.mkey = true)
    (hm : modes s.sup.mode = true) :
    s.onJunction code h maintenance modes work =
      (work (s.shiftOut h.clocked) { code := code, header := h }).state.setSlot
        (work (s.shiftOut h.clocked) { code := code, header := h }).response := by
  rw [State.onJunction, State.runFrame_ready _ _ _ _ hr]
  rw [State.gated_open (s.shiftOut h.clocked) _ _ maintenance modes _ hk hm]

/-! ## Refusals -/

/-- A reply that changes nothing but, at most, makes a response. -/
@[simp] theorem State.refuse_state (s : State) (c : Call) (named : Option RecordName) (st : Status) :
    (s.refuse c named st).state = s := rfl

@[simp] theorem State.refuse_status (s : State) (c : Call) (named : Option RecordName) (st : Status) :
    (s.refuse c named st).response.status = st := rfl

@[simp] theorem State.invalid_state (s : State) (c : Call) (r : RecordName) (k : Check) (e : Nat) :
    (s.invalid c r k e).state = s := rfl

@[simp] theorem State.returns_state (s : State) (c : Call) (st : Status) (r : RecordName) :
    (s.returns c st r).state = s := rfl

@[simp] theorem State.returnsJunction_state (s : State) (c : Call) : (s.returnsJunction c).state = s := rfl

end Sys2Proof.Machine
end

