-- ==== Sys2Proof/Laws/PerInstr.lean ====
section
/-! SUPPORT. What every command is as syntax, one lemma a constructor: a well-formed command that is a frame is the
command its own frame is read as, and that frame fits (R180, R186). -/

namespace Sys2Proof.Laws.FrameRoundTrip

/-- The frame of a well-formed command is read as that command, and it fits its length field and the bytes clocked. -/
def Statement (i : Instr) : Prop :=
  i.wf = true → ∀ f, frameOf i = some f → commandOf f = i ∧ f.fits = true

/-- It follows from the well-formedness alone. -/
theorem of_wf (i : Instr) : Statement i := by
  intro h f hf
  unfold Instr.wf at h
  simp only [hf, Bool.and_eq_true, decide_eq_true_eq] at h
  exact ⟨h.2, h.1⟩

theorem read (h : Header) (payload : List Byte) : Statement (.read h payload) := of_wf _
theorem writeGroup (h : Header) (payload : List Byte) : Statement (.writeGroup h payload) := of_wf _
theorem writeConflict (h : Header) (payload : List Byte) : Statement (.writeConflict h payload) := of_wf _
theorem writeChannel (h : Header) (payload : List Byte) : Statement (.writeChannel h payload) := of_wf _
theorem writeProfile (h : Header) (payload : List Byte) : Statement (.writeProfile h payload) := of_wf _
theorem writeCable (h : Header) (payload : List Byte) : Statement (.writeCable h payload) := of_wf _
theorem writePlan (h : Header) (payload : List Byte) : Statement (.writePlan h payload) := of_wf _
theorem writeStage (h : Header) (payload : List Byte) : Statement (.writeStage h payload) := of_wf _
theorem writeSchedule (h : Header) (payload : List Byte) : Statement (.writeSchedule h payload) := of_wf _
theorem writeDetector (h : Header) (payload : List Byte) : Statement (.writeDetector h payload) := of_wf _
theorem writeJunction (h : Header) (payload : List Byte) : Statement (.writeJunction h payload) := of_wf _
theorem retirePlan (h : Header) (payload : List Byte) : Statement (.retirePlan h payload) := of_wf _
theorem retireStage (h : Header) (payload : List Byte) : Statement (.retireStage h payload) := of_wf _
theorem retireSchedule (h : Header) (payload : List Byte) : Statement (.retireSchedule h payload) := of_wf _
theorem poll (h : Header) (payload : List Byte) : Statement (.poll h payload) := of_wf _
theorem linkError (received : List Byte) : Statement (.linkError received) := of_wf _
theorem unknown (code : Byte) (h : Header) (payload : List Byte) : Statement (.unknown code h payload) := of_wf _
theorem commit (h : Header) (payload : List Byte) : Statement (.commit h payload) := of_wf _
theorem commitComplete : Statement .commitComplete := of_wf _
theorem loadPlan (h : Header) (payload : List Byte) : Statement (.loadPlan h payload) := of_wf _
theorem loadPlanComplete : Statement .loadPlanComplete := of_wf _
theorem start (h : Header) (payload : List Byte) : Statement (.start h payload) := of_wf _
theorem stop (h : Header) (payload : List Byte) : Statement (.stop h payload) := of_wf _
theorem dark (h : Header) (payload : List Byte) : Statement (.dark h payload) := of_wf _
theorem restart (h : Header) (payload : List Byte) : Statement (.restart h payload) := of_wf _
theorem forceFailsafe (h : Header) (payload : List Byte) : Statement (.forceFailsafe h payload) := of_wf _
theorem selectPlanOverride (h : Header) (payload : List Byte) : Statement (.selectPlanOverride h payload) := of_wf _
theorem selectPlanFollow (h : Header) (payload : List Byte) : Statement (.selectPlanFollow h payload) := of_wf _
theorem setTime (h : Header) (payload : List Byte) : Statement (.setTime h payload) := of_wf _
theorem setDimFollow (h : Header) (payload : List Byte) : Statement (.setDimFollow h payload) := of_wf _
theorem setDimBright (h : Header) (payload : List Byte) : Statement (.setDimBright h payload) := of_wf _
theorem setDimDim (h : Header) (payload : List Byte) : Statement (.setDimDim h payload) := of_wf _
theorem testCables (h : Header) (payload : List Byte) : Statement (.testCables h payload) := of_wf _
theorem relearn (h : Header) (payload : List Byte) : Statement (.relearn h payload) := of_wf _
theorem clearFaultChannel (h : Header) (payload : List Byte) : Statement (.clearFaultChannel h payload) := of_wf _
theorem clearFaultCable (h : Header) (payload : List Byte) : Statement (.clearFaultCable h payload) := of_wf _
theorem clearFaultJunction (h : Header) (payload : List Byte) : Statement (.clearFaultJunction h payload) := of_wf _
theorem probe (h : Header) (payload : List Byte) : Statement (.probe h payload) := of_wf _
theorem attend (h : Header) (payload : List Byte) : Statement (.attend h payload) := of_wf _
theorem ack (h : Header) (payload : List Byte) : Statement (.ack h payload) := of_wf _
theorem release (h : Header) (payload : List Byte) : Statement (.release h payload) := of_wf _
theorem maskSet (h : Header) (payload : List Byte) : Statement (.maskSet h payload) := of_wf _
theorem maskClear (h : Header) (payload : List Byte) : Statement (.maskClear h payload) := of_wf _
theorem mkeyChange (active : Bool) : Statement (.mkeyChange active) := of_wf _
theorem mainReset : Statement .mainReset := of_wf _
theorem retentionLoss : Statement .retentionLoss := of_wf _
theorem mainPowerLoss : Statement .mainPowerLoss := of_wf _
theorem retentionTenth : Statement .retentionTenth := of_wf _
theorem zeroCrossing (x : CrossingInput) : Statement (.zeroCrossing x) := of_wf _
theorem lockAcquired (x : CrossingInput) : Statement (.lockAcquired x) := of_wf _
theorem firstWindowExpiry (i : TickInput) : Statement (.firstWindowExpiry i) := of_wf _
theorem secondWindowExpiry : Statement .secondWindowExpiry := of_wf _
theorem learnComplete (c : Fin 64) : Statement (.learnComplete c) := of_wf _
theorem streakConfirm (c : Fin 64) : Statement (.streakConfirm c) := of_wf _
theorem surgeEnd (c : Fin 64) : Statement (.surgeEnd c) := of_wf _
theorem settleEnd (c : Fin 64) : Statement (.settleEnd c) := of_wf _
theorem releaseEnd (c : Fin 64) : Statement (.releaseEnd c) := of_wf _
theorem dimSettleEnd : Statement .dimSettleEnd := of_wf _
theorem openReturnConfirm (k : Fin 16) : Statement (.openReturnConfirm k) := of_wf _
theorem balanceConfirm (k : Fin 16) : Statement (.balanceConfirm k) := of_wf _
theorem provenConflict (i j : Fin 16) : Statement (.provenConflict i j) := of_wf _
theorem tenthTick (source : TenthSource) (i : TenthInput) : Statement (.tenthTick source i) := of_wf _
theorem leavingEnd (g : Fin 16) : Statement (.leavingEnd g) := of_wf _
theorem prepStart (g : Fin 16) : Statement (.prepStart g) := of_wf _
theorem greenStart (g : Fin 16) : Statement (.greenStart g) := of_wf _
theorem minGreenEnd : Statement .minGreenEnd := of_wf _
theorem maxOut : Statement .maxOut := of_wf _
theorem gapOut : Statement .gapOut := of_wf _
theorem detectorFaulty (d : Fin 16) : Statement (.detectorFaulty d) := of_wf _
theorem testStart (bref : Microamps) : Statement (.testStart bref) := of_wf _
theorem chargeEnd : Statement .chargeEnd := of_wf _
theorem testComplete (bmeas : Microamps) : Statement (.testComplete bmeas) := of_wf _
theorem testTimeout (k : Fin 16) : Statement (.testTimeout k) := of_wf _
theorem darkTestEnd : Statement .darkTestEnd := of_wf _
theorem darkTestLimit : Statement .darkTestLimit := of_wf _
theorem allRedEnd : Statement .allRedEnd := of_wf _
theorem samplePosition (frame : Vector Sample 80) : Statement (.samplePosition frame) := of_wf _

end Sys2Proof.Laws.FrameRoundTrip
end

