-- ==== Sys2Proof/Tests/Slice0.lean ====
section
/-! SUPPORT. Tests: ill-formed commands, frames written out by hand, worked examples of the manual, and for each
obligation with hypotheses a concrete state and operands that meet them. -/

namespace Sys2Proof.Tests

open Sys2Proof.Machine

-- Each test waits for the kernel; one after the other, they need one thread.
set_option Elab.async false

/-! ## Helpers -/

/-- A header without an expected revision, with 300 bytes clocked. -/
def hd (table index : Nat) : Header := { table := b8 table, index := b8 index, expected := none, clocked := 300 }

/-- The state a command leaves. -/
def after (i : Instr) (s : State) : State :=
  match exec i s with
  | .next t => t
  | .fault _ => s
  | .refused _ => s

/-- The machine after reset, in another mode. -/
def inMode (m : Mode) : State := { State.reset with sup := { Supervisor.reset with mode := m } }

/-- The same with the maintenance key turned. -/
def keyed (m : Mode) : State := { inMode m with link := { State.reset.link with mkey := true } }

/-- The same with the mains tracker in a state, its reference at instant 0. -/
def tracked (m : Mode) (t : MainsState) : State :=
  { keyed m with base := { TimeBase.reset with tracker := t, reference := some 0 } }

def withSeq (s : State) (f : Sequencer → Sequencer) : State := { s with seq := f s.seq }
def withGroup (s : State) (g : Fin 16) (x : Group) : State := { s with groups := s.groups.set g x }
def withChannel (s : State) (c : Fin 64) (x : Channel) : State := { s with channels := s.channels.set c x }
def withCable (s : State) (k : Fin 16) (x : Cable) : State := { s with cables := s.cables.set k x }
def withQueue (s : State) (q : List QueueEntry) : State := { s with bridge := { s.bridge with queue := q } }

/-- A header without an expected revision finds the revision in order. -/
theorem fresh (s : State) (t i : Nat) (r : RecordName) : s.revisionMatches (hd t i) r :=
  fun _ h => nomatch h

/-! ## Frames written out by hand (R180, R186)

CRC-16 values worked out by hand-written division outside the model; 0x29B1 over the digits 1 to 9 is the published
check value of this polynomial and initial value. -/

theorem test_crc_check_value :
    crc16 [0x31, 0x32, 0x33, 0x34, 0x35, 0x36, 0x37, 0x38, 0x39] = 0x29B1 := by decide +kernel

/-- READ of JUNCTION 0 -/
theorem test_decode_read :
    decodeFrame [1, 10, 0, 0, 0, 0, 0, 0xCF, 0xAD] =
      .read { table := 10, index := 0, expected := none, clocked := 9 } [] := by decide +kernel

/-- WRITE of PLAN 7 with entry 95, change point 0 and expected revision 9, one fill byte clocked -/
theorem test_decode_write_plan :
    decodeFrame [2, 6, 7, 1, 9, 0, 2, 95, 0, 0xDA, 0xA7, 0x55] =
      .writePlan { table := 6, index := 7, expected := some 9, clocked := 12 } [95, 0] := by decide +kernel

theorem test_decode_commit :
    decodeFrame [16, 0, 0, 0, 0, 0, 0, 0xC6, 0xB5] =
      .commit { table := 0, index := 0, expected := none, clocked := 9 } [] := by decide +kernel

theorem test_decode_clear_fault_cable :
    decodeFrame [28, 5, 15, 0, 0, 0, 0, 0xB2, 0x26] =
      .clearFaultCable { table := 5, index := 15, expected := none, clocked := 9 } [] := by decide +kernel

theorem test_decode_ack :
    decodeFrame [33, 3, 63, 0, 0, 0, 1, 3, 0x3C, 0xDA] =
      .ack { table := 3, index := 63, expected := none, clocked := 10 } [3] := by decide +kernel

theorem test_decode_set_dim :
    decodeFrame [25, 0, 0, 0, 0, 0, 1, 2, 0x46, 0xF0] =
      .setDimDim { table := 0, index := 0, expected := none, clocked := 10 } [2] := by decide +kernel

theorem test_decode_retire_stage :
    decodeFrame [3, 7, 95, 0, 0, 0, 0, 0x91, 0xC6] =
      .retireStage { table := 7, index := 95, expected := none, clocked := 9 } [] := by decide +kernel

theorem test_decode_poll :
    decodeFrame [4, 0, 0, 0, 0, 0, 0, 0x30, 0x08] =
      .poll { table := 0, index := 0, expected := none, clocked := 9 } [] := by decide +kernel

theorem test_decode_select_plan :
    decodeFrame [23, 0, 0, 0, 0, 0, 2, 1, 7, 0xD7, 0x91] =
      .selectPlanOverride { table := 0, index := 0, expected := none, clocked := 11 } [1, 7] := by decide +kernel

theorem test_decode_mask_clear :
    decodeFrame [35, 0, 0, 0, 0, 0, 2, 1, 31, 0x2C, 0x45] =
      .maskClear { table := 0, index := 0, expected := none, clocked := 11 } [1, 31] := by decide +kernel

theorem test_decode_unknown :
    decodeFrame [64, 0, 0, 0, 0, 0, 0, 0x2C, 0x22] =
      .unknown 64 { table := 0, index := 0, expected := none, clocked := 9 } [] := by decide +kernel

/-- One flipped CRC bit, a flags byte of 2, and a frame of 6 bytes are LINK_ERROR. -/
theorem test_decode_link_error :
    decodeFrame [1, 10, 0, 0, 0, 0, 0, 0xCF, 0xAC] = .linkError [1, 10, 0, 0, 0, 0, 0, 0xCF, 0xAC] ∧
    checkFrame ([1, 10, 0, 2, 0, 0, 0] ++ crcBytes [1, 10, 0, 2, 0, 0, 0]) = none ∧
    decodeFrame [1, 10, 0, 0, 0, 0] = .linkError [1, 10, 0, 0, 0, 0] := by decide +kernel

/-- The bits of an incomplete last byte are discarded. -/
theorem test_frame_bytes : frameBytes (byteBits 0x41 ++ byteBits 0x80 ++ [true, false, true]) = [0x41, 0x80] := by
  decide +kernel

/-- No row of the table has bits: no table word spells a command. -/
theorem test_table_word : decodeTableWord 32 0x12345678 = none := rfl

/-! ## Ill-formed commands (WellFormed) -/

theorem test_wf_accepts :
    (Instr.writeGroup (hd 1 0) [1, 0, 1, 20, 30]).wf = true ∧ (Instr.provenConflict 14 15).wf = true ∧
    (Instr.linkError [1, 2]).wf = true ∧ Instr.mainReset.wf = true := by decide +kernel

theorem test_wf_refuses_long_payload : (Instr.unknown 64 (hd 0 0) (List.replicate 257 0)).wf = false := by
  decide +kernel

theorem test_wf_refuses_short_clocking : (Instr.read { hd 1 0 with clocked := 8 } []).wf = false := by decide +kernel

theorem test_wf_refuses_wrong_row :
    (Instr.writeGroup (hd 3 0) []).wf = false ∧ (Instr.maskSet (hd 0 0) [1, 0]).wf = false ∧
    (Instr.unknown 1 (hd 0 0) []).wf = false := by decide +kernel

theorem test_wf_refuses_passing_link_error :
    (Instr.linkError [1, 10, 0, 0, 0, 0, 0, 0xCF, 0xAD]).wf = false := by decide +kernel

theorem test_wf_refuses_unordered_pair :
    (Instr.provenConflict 3 3).wf = false ∧ (Instr.provenConflict 4 2).wf = false := by decide +kernel

/-! ## Worked examples of the manual -/

/-- Chapter 6: S = 541,000 reads 260 mA, and the table of R106. -/
theorem test_readings :
    (Accumulator.reading { sum := 541000, saturated := false }).mA = 260 ∧
    ([31, 512, 799, 3200, 3871, 61952, 64799, 16773632].map
      fun n => (Accumulator.reading { sum := n, saturated := false }).mA) = [0, 8, 8, 20, 20, 88, 88, 1448] := by
  decide +kernel

/-- Chapter 6, "Classification, tracking and a PARTIAL verdict": reading 2 at the lower edge, its step of −4; then
42 mA is PARTIAL and 30 mA OUT against the new baseline. -/
theorem test_tracking_example :
    (Part.classify { learned := true, learnSum := 0, learnCount := 0, reference := 1408, baseline := 1408 }
      ProfileConfig.led { mA := 70, saturated := false }).baseline = 1404 ∧
    classResult ProfileConfig.led
      { learned := true, learnSum := 0, learnCount := 0, reference := 1408, baseline := 1404 }
      { mA := 42, saturated := false } = .bad .partialLoss ∧
    classResult ProfileConfig.led
      { learned := true, learnSum := 0, learnCount := 0, reference := 1408, baseline := 1404 }
      { mA := 30, saturated := false } = .bad .out := by decide +kernel

/-- Chapter 6, "A baseline at its clamp": 1754 tracks to 1761, clamped to 1760. -/
theorem test_clamp_example :
    (Part.classify { learned := true, learnSum := 0, learnCount := 0, reference := 1408, baseline := 1754 }
      ProfileConfig.led { mA := 140, saturated := false }).baseline = 1760 := by decide +kernel

/-- The groups and conflicts of chapter 4, "An interstage". -/
def interstage : State :=
  let row (l : List (Nat × Nat)) : ConflictRow :=
    { entry := Vector.ofFn fun (j : Fin 16) => (l.find? fun x => x.1 == j.val).map Prod.snd, rev := 0 }
  let group (kind : Kind) (prep leaving : Nat) (a : Aspect) (n : Nat) : Group :=
    { Group.reset with
      cfg := { kind := kind, secondRed := false, redsRequired := 1, prepTime := prep, leavingTime := leaving }
      aspect := a, sinceGreen := n }
  { inMode .running with
    conflicts := ((State.reset.conflicts.set 0 (row [(1, 50), (3, 40)])).set 2 (row [(1, 60), (3, 55)])).set 5
      (row [(3, 80)])
    groups := ((((State.reset.groups.set 0 (group .vehicle 20 30 .green 0)).set 1
      (group .vehicle 20 30 .red 250)).set 2 (group .vehicle 20 40 .green 0)).set 3
      (group .pedestrian 0 80 .red 250)).set 5 (group .pedestrian 0 80 .dark 10) }

/-- Chapter 4: G1 waits 60 with its prep start at 40; G3 waits 70 for the dark G5. -/
theorem test_interstage_waits :
    interstage.gainerOf 1 = { group := 1, prepStart := 40, greenStart := 60 } ∧
    interstage.gainerOf 3 = { group := 3, prepStart := 70, greenStart := 70 } := by decide +kernel

/-- Chapter 10, "A nested service": ATTEND names LAMP, (CHANNEL, 11) with the counts, and releases ATTNn. -/
theorem test_attend_example :
    let s : State := { State.reset with
      attn := (Attention.post State.reset.attn .lamp (nameOf .channel 11)).post .notice (nameOf .cable 9) }
    let t := after (.attend (hd 0 0) []) s
    s.attn.line = true ∧ t.attn.line = false ∧ t.attn.chain = [.lamp] ∧
    (t.link.slot.table, t.link.slot.index) = (3, 11) ∧ t.link.slot.payload = [3, 0, 0, 1, 1, 0] := by decide +kernel

/-- R38: minimum 20, maximum 1500 and step 150 are stored as 30, 1200 and 100. -/
theorem test_stage_clamp :
    StageTiming.clamp { minGreen := 20, maxGreen := 1500, step := 150 } =
      { minGreen := 30, maxGreen := 1200, step := 100 } := by decide +kernel

/-- A WRITE of GROUP 15 without the key is refused AUTHORITY, and with it is taken. -/
theorem test_write_group :
    (after (.writeGroup (hd 1 15) [1, 0, 1, 20, 30]) (inMode .unconfigured)).link.slot.status = .authority ∧
    (let t := after (.writeGroup (hd 1 15) [1, 0, 1, 20, 30]) (keyed .unconfigured)
     t.link.slot.status = .ok ∧ (t.groups[15]).cfg.kind = .vehicle ∧ (t.groups[15]).rev = 1) := by decide +kernel

/-- A leaving time of 250 is refused RANGE at the write (chapter 1, "A group error found first"). -/
theorem test_write_group_range :
    (after (.writeGroup (hd 1 2) [2, 0, 1, 0, 250]) (keyed .unconfigured)).link.slot.status = .range := by
  decide +kernel

/-- A crossing in LOCKED, 20 ms after the reference, ends a measured cycle. -/
def noTick : TickInput where
  det := 0
  tenth := { bmeas := 0, bref := 2000, clock := .beforeAll, queueFirst := true }
  order :=
    { sequencerTurn := 0, cablesFirst := true, verdictTurn := 0, settleFirst := true, returnFirst := true
      scheduleFirst := true }

theorem test_crossing :
    let t := after (.zeroCrossing { instant := 20000000, tick := noTick }) (tracked .unconfigured .locked)
    t.base.reference = some 20000000 ∧ t.base.tracker = .locked ∧ t.sampler.position = some 0 := by decide +kernel

/-! ## Witnesses: states and operands that meet the hypotheses of each obligation

Each theorem shows the hypotheses of one obligation met, its clauses at boundary values. -/

theorem ready_inMode (m : Mode) : (inMode m).ready := ⟨rfl, rfl⟩
theorem ready_keyed (m : Mode) : (keyed m).ready := ⟨rfl, rfl⟩

/-- A command in flight, made with the key turned. -/
def flying (m : Mode) (w : Work) : State :=
  { keyed m with link := { (keyed m).link with inFlight := some { work := w, table := 6, index := 0 } } }

/-- One VEHICLE group, and plan 0 with the chain STAGE 0, STAGE 1; the plan LOADED or not. -/
def planned (s : State) (loaded : Bool) : State :=
  let stage (next : Fin 96) : Stage :=
    { Stage.reset with
      isDefined := true, owner := if loaded then some 0 else none
      shape := { groups := 1, calls := 0, holders := 0, demand := false, next := next } }
  { s with
    groups := s.groups.set 0 { Group.reset with cfg := { Group.reset.cfg with kind := .vehicle } }
    stages := (s.stages.set 0 (stage 1)).set 1 (stage 0)
    plans := s.plans.set 0 { loaded := loaded, entry := 0, changePoint := 1, length := if loaded then 2 else 0, rev := 0 } }

/-- Plan 0 LOADED as well as plan p. -/
def alsoLoaded (s : State) (p : Fin 8) : State :=
  { s with plans := s.plans.set p { Plan.reset with loaded := true } }

theorem test_witness_FramesReadBack :
    (Instr.unknown 64 (hd 0 0) (List.replicate 256 7)).wf = true ∧
    frameOf (.unknown 64 (hd 0 0) (List.replicate 256 7)) = some ⟨64, hd 0 0, List.replicate 256 7⟩ ∧
    (Instr.start { hd 0 0 with clocked := 9 } []).wf = true ∧ (hd 10 0).table = 10 ∧
    (30 : Byte).toNat ∉
      [1, 2, 3, 4, 16, 17, 18, 19, 20, 21, 22, 23, 24, 25, 26, 27, 28, 29, 32, 33, 34, 35] := by decide +kernel

theorem test_witness_FrameCheck :
    [true, true, true, true, true, true, true].length < 8 ∧ ([1, 2, 3, 4, 5, 6] : List Byte).length < 7 ∧
    (checkFrame (encodeFrame ⟨64, { hd 0 0 with clocked := 9 }, []⟩)).isSome = true ∧
    (checkFrame (encodeFrame ⟨64, { hd 0 0 with clocked := 12 }, [7, 8]⟩)).isSome = true ∧
    checkFrame ([64, 0, 0, 0, 0, 1, 1] ++ List.replicate 259 0) = none := by decide +kernel

theorem test_witness_LinkFrames :
    (flying .running .commit).base.mainPower = true ∧ ([1] : List Byte) ≠ [] ∧ (inMode .running).ready :=
  ⟨rfl, by decide, ready_inMode _⟩

theorem test_witness_BusyRefusals :
    frameOf (.start (hd 0 0) []) = some ⟨18, hd 0 0, []⟩ ∧ (∀ h p, Instr.start (hd 0 0) [] ≠ .poll h p) ∧
    (flying .running .commit).base.mainPower = true ∧ (flying .running .commit).link.inFlight ≠ none ∧
    frameOf (.relearn (hd 10 0) []) = some ⟨27, hd 10 0, []⟩ ∧ (hd 10 0).names .junction 0 ∧
    (hd 3 64).names .channel 64 ∧
    (after (.relearn (hd 10 0) []) { flying .running .commit with junctionRev := 9 }).link.slot.revision = 9 ∧
    (after (.relearn (hd 3 64) []) { flying .running .commit with junctionRev := 9 }).link.slot.revision = 0 :=
  ⟨rfl, (fun _ _ h => by cases h), rfl, by decide, rfl, ⟨rfl, rfl⟩, ⟨rfl, rfl⟩, by decide +kernel, by decide +kernel⟩

theorem test_witness_AuthorityGuard :
    (Instr.commit (hd 0 0) []).maintenance = true ∧ frameOf (.commit (hd 0 0) []) = some ⟨16, hd 0 0, []⟩ ∧
    (inMode .running).ready ∧ (inMode .running).link.mkey = false ∧
    (hd 1 15).names .group 15 ∧ (hd 2 15).names .conflict 15 ∧ (hd 3 63).names .channel 63 ∧
    (hd 4 7).names .profile 7 ∧ (hd 5 15).names .cable 15 ∧ (hd 10 0).names .junction 0 ∧
    (keyed .dark).ready ∧ (keyed .dark).link.mkey = true ∧
    (after (.writeGroup (hd 1 15) []) (keyed .dark)).link.slot.status = .mode ∧
    (after (.writeChannel (hd 3 63) []) (keyed .running)).link.slot.status = .mode :=
  ⟨rfl, rfl, ready_inMode _, rfl, ⟨rfl, rfl⟩, ⟨rfl, rfl⟩, ⟨rfl, rfl⟩, ⟨rfl, rfl⟩, ⟨rfl, rfl⟩, ⟨rfl, rfl⟩,
    ready_keyed _, rfl, by decide +kernel, by decide +kernel⟩

theorem test_witness_RefusedCommandsChangeNothing :
    ∃ t, frameOf (.stop (hd 0 0) []) = some ⟨19, hd 0 0, []⟩ ∧ exec (.stop (hd 0 0) []) (inMode .running) = .next t ∧
      t.link.slot.status.refusal = true :=
  ⟨_, rfl, rfl, by decide +kernel⟩

/-- A table number 0 or 11, an index at the capacity, and a conditional WRITE with another revision expected. -/
theorem test_witness_refusal_order :
    let stale (t i : Nat) : Header := { hd t i with expected := some 1 }
    (after (.read (hd 0 0) []) (inMode .running)).link.slot.status = .noTable ∧
    (after (.read (hd 11 0) []) (inMode .running)).link.slot.status = .noTable ∧
    (after (.read (hd 8 24) []) (inMode .running)).link.slot.status = .noRecord ∧
    (after (.relearn (hd 2 0) [1]) (inMode .running)).link.slot.status = .noTable ∧
    (after (.relearn (hd 3 64) [1]) (inMode .running)).link.slot.status = .noRecord ∧
    (stale 6 7).names .plan 7 ∧ (inMode .running).recordRev (nameOf .plan 7) = 0 ∧
    (after (.writePlan (stale 6 7) []) (inMode .running)).link.slot.status = .stale ∧
    (after (.writeGroup (stale 1 15) []) (keyed .standby)).link.slot.status = .stale ∧
    (after (.writeChannel (stale 3 63) []) (keyed .dark)).link.slot.status = .stale := by
  refine ⟨?_, ?_, ?_, ?_, ?_, ⟨rfl, rfl⟩, ?_, ?_, ?_, ?_⟩ <;> decide +kernel

theorem test_witness_ReadAndProbeReturnRecords :
    (inMode .running).ready ∧ (hd 6 7).names .plan 7 ∧ (hd 7 95).names .stage 95 ∧ (hd 8 23).names .schedule 23 ∧
    (hd 9 15).names .detector 15 ∧ (hd 10 0).names .junction 0 ∧ (hd 3 63).names .channel 63 ∧
    ((withCable (inMode .running) 15
      { Cable.reset with result := some { kOhm := 500000, mark := .aboveRange } }).cables[15]).result =
      some { kOhm := 500000, mark := .aboveRange } :=
  ⟨ready_inMode _, ⟨rfl, rfl⟩, ⟨rfl, rfl⟩, ⟨rfl, rfl⟩, ⟨rfl, rfl⟩, ⟨rfl, rfl⟩, ⟨rfl, rfl⟩, by decide +kernel⟩

theorem test_witness_WrittenPartsReadBack :
    GroupConfig.inRange { kind := .vehicle, secondRed := true, redsRequired := 2, prepTime := 30, leavingTime := 200 } ∧
    rowInRange ((Vector.replicate 16 (some 250)).set 0 (some 1)) = true ∧
    ProfileConfig.inRange
      { surgeCode := 15, settleCode := 15, releaseCode := 15, bandLow := 9, bandHigh := 100, out := 90, offLimit := 200
        confirmCount := 15, tracking := false } = true ∧
    CableConfig.inRange { state := .monitored, action := .isolate, route := .urgent, tolerance := 500, limit := 100000 } ∧
    ScheduleConfig.inRange
      { state := .enabled, days := 127, hour := 23, minute := 59, plan := 7, dimming := .dim } = true ∧
    DetectorConfig.inRange { enabled := true, invert := true, stuckLimit := 60 } = true ∧
    TimeOfDay.inRange { day := 7, hour := 23, minute := 59, second := 59, tenth := 9 } = true := by decide +kernel

theorem test_witness_WritePlanReplacesEmptyPlan :
    (inMode .running).ready ∧ (hd 6 7).names .plan 7 ∧ (inMode .running).revisionMatches (hd 6 7) (nameOf .plan 7) ∧
    ((inMode .running).plans[7]).loaded = false ∧ ((alsoLoaded (inMode .running) 7).plans[7]).loaded = true ∧
    (after (.writePlan (hd 6 7) [95, 95]) (inMode .running)).link.slot.status = .ok ∧
    (after (.writePlan (hd 6 7) [95, 96]) (inMode .running)).link.slot.status = .range ∧
    (after (.writePlan (hd 6 7) [0]) (inMode .running)).link.slot.status = .range ∧
    (after (.writePlan (hd 6 7) [0]) (alsoLoaded (inMode .running) 7)).link.slot.status = .inUse :=
  ⟨ready_inMode _, ⟨rfl, rfl⟩, fresh _ _ _ _, by decide +kernel, by decide +kernel, by decide +kernel,
    by decide +kernel, by decide +kernel, by decide +kernel⟩

/-- A structure that names G15. -/
def shape15 : StageShape := { groups := 0x8000, calls := 0, holders := 0, demand := false, next := 95 }

/-- STAGE 95 owned by plan 7 with that structure. -/
def ownedStage : State :=
  { inMode .running with
    stages := State.reset.stages.set 95 { Stage.reset with isDefined := true, owner := some 7, shape := shape15 } }

theorem test_witness_WriteAndRetireStage :
    (inMode .running).ready ∧ (hd 7 95).names .stage 95 ∧
    (inMode .running).revisionMatches (hd 7 95) (nameOf .stage 95) ∧ shape15.groups ≠ 0 ∧
    ((inMode .running).stages[95]).owner = none ∧
    (ownedStage.stages[95]).shape = shape15 ∧ (ownedStage.stages[95]).owner ≠ none ∧
    (ownedStage.stages[95]).shape ≠ { shape15 with demand := true } ∧
    (let write (b : List Byte) : Status := (after (.writeStage (hd 7 95) b) (inMode .running)).link.slot.status
     write [0x80, 0, 0, 0, 0, 0, 1, 95, 0, 30, 0, 30, 100] = .ok ∧
     write [0, 0, 0, 0, 0, 0, 1, 95, 0, 30, 0, 30, 100] = .range ∧
     write [0x80, 0, 0, 0, 0, 0, 2, 95, 0, 30, 0, 30, 100] = .range ∧
     write [0x80, 0, 0, 0, 0, 0, 1, 96, 0, 30, 0, 30, 100] = .range ∧ write [0x80, 0] = .range) :=
  ⟨ready_inMode _, ⟨rfl, rfl⟩, fresh _ _ _ _, by decide, by decide +kernel, by decide +kernel, by decide +kernel,
    by decide +kernel, by decide +kernel⟩

theorem test_witness_WriteScheduleAndDetector :
    (inMode .running).ready ∧ (hd 8 23).names .schedule 23 ∧ (hd 9 15).names .detector 15 ∧
    (inMode .running).revisionMatches (hd 8 23) (nameOf .schedule 23) ∧
    (inMode .running).revisionMatches (hd 9 15) (nameOf .detector 15) ∧
    ((inMode .running).detectors[15]).cfg.enabled = false ∧
    (after (.writeSchedule (hd 8 23) [1, 127, 23, 59, 7, 1]) (inMode .running)).link.slot.status = .ok ∧
    (after (.writeSchedule (hd 8 23) [1, 127, 24, 59, 7, 1]) (inMode .running)).link.slot.status = .range ∧
    (after (.writeDetector (hd 9 15) [0, 0, 60]) (inMode .running)).link.slot.status = .ok ∧
    (after (.writeDetector (hd 9 15) [0, 0, 61]) (inMode .running)).link.slot.status = .range ∧
    (after (.writeSchedule (hd 8 23) [3, 127, 23, 59, 7, 1]) (inMode .running)).link.slot.status = .range ∧
    (after (.writeSchedule (hd 8 23) [1, 128, 23, 59, 7, 1]) (inMode .running)).link.slot.status = .range ∧
    (after (.writeSchedule (hd 8 23) [1]) (inMode .running)).link.slot.status = .range ∧
    (after (.writeDetector (hd 9 15) [2, 0, 60]) (inMode .running)).link.slot.status = .range :=
  ⟨ready_inMode _, ⟨rfl, rfl⟩, ⟨rfl, rfl⟩, fresh _ _ _ _, fresh _ _ _ _, by decide +kernel, by decide +kernel,
    by decide +kernel, by decide +kernel, by decide +kernel, by decide +kernel, by decide +kernel, by decide +kernel,
    by decide +kernel⟩

theorem test_witness_WriteGroupReplacesFields :
    (keyed .standby).ready ∧ (keyed .unconfigured).ready ∧ (hd 1 15).names .group 15 ∧
    (keyed .standby).link.mkey = true ∧ (keyed .standby).sup.mode = .standby ∧
    (keyed .unconfigured).sup.mode = .unconfigured ∧
    (keyed .standby).revisionMatches (hd 1 15) (nameOf .group 15) ∧
    (let write (b : List Byte) : Status := (after (.writeGroup (hd 1 15) b) (keyed .standby)).link.slot.status
     write [2, 1, 1, 0, 20] = .ok ∧ write [2, 1, 2, 30, 200] = .ok ∧ write [3, 1, 1, 0, 20] = .range ∧
     write [2, 2, 1, 0, 20] = .range ∧ write [2, 1, 0, 0, 20] = .range ∧ write [2, 1, 3, 0, 20] = .range ∧
     write [2, 1, 1, 31, 20] = .range ∧ write [2, 1, 1, 0, 19] = .range ∧ write [2, 1, 1, 0, 201] = .range ∧
     write [2, 1] = .range) :=
  ⟨ready_keyed _, ready_keyed _, ⟨rfl, rfl⟩, rfl, rfl, rfl, fresh _ _ _ _, by decide +kernel⟩

theorem test_witness_WriteConflictAndProfile :
    (keyed .standby).ready ∧ (keyed .standby).link.mkey = true ∧ (hd 2 15).names .conflict 15 ∧
    (hd 4 7).names .profile 7 ∧ (keyed .standby).revisionMatches (hd 2 15) (nameOf .conflict 15) ∧
    (keyed .standby).revisionMatches (hd 4 7) (nameOf .profile 7) ∧
    (let row (b : Byte) : Status :=
      (after (.writeConflict (hd 2 15) (b :: List.replicate 15 0)) (keyed .standby)).link.slot.status
     row 0 = .ok ∧ row 1 = .ok ∧ row 250 = .ok ∧ row 251 = .range) ∧
    (let write (b : List Byte) : Status := (after (.writeProfile (hd 4 7) b) (keyed .standby)).link.slot.status
     write [15, 15, 15, 9, 100, 90, 200, 15, 1] = .ok ∧ write [0, 0, 0, 5, 5, 5, 2, 1, 0] = .ok ∧
     write [15, 15, 15, 10, 100, 90, 200, 15, 1] = .range ∧ write [16, 15, 15, 9, 100, 90, 200, 15, 1] = .range ∧
     write [0, 0, 0, 4, 5, 5, 2, 1, 0] = .range ∧ write [0, 0, 0, 5, 5, 5, 1, 1, 0] = .range ∧ write [0] = .range) :=
  ⟨ready_keyed _, rfl, ⟨rfl, rfl⟩, ⟨rfl, rfl⟩, fresh _ _ _ _, fresh _ _ _ _, by decide +kernel, by decide +kernel⟩

theorem test_witness_WriteChannelReplacesFields :
    (keyed .dark).ready ∧ (hd 3 63).names .channel 63 ∧ (keyed .dark).link.mkey = true ∧
    (keyed .dark).sup.mode = .dark ∧ (keyed .dark).revisionMatches (hd 3 63) (nameOf .channel 63) ∧
    (keyed .unconfigured).sup.mode = .unconfigured ∧ ((keyed .dark).cables[15]).state = .unused ∧
    ((withCable (keyed .dark) 15 { Cable.reset with state := .monitored }).cables[15]).state ≠ .unused ∧
    (let write (b : List Byte) : Status := (after (.writeChannel (hd 3 63) b) (keyed .dark)).link.slot.status
     write [7, 255, 1] = .ok ∧ write [7, 15, 1] = .invalid ∧ write [7, 16, 1] = .range ∧ write [8, 255, 1] = .range ∧
     write [7, 255, 2] = .range ∧ write [7] = .range) :=
  ⟨ready_keyed _, ⟨rfl, rfl⟩, rfl, rfl, fresh _ _ _ _, rfl, by decide +kernel, by decide +kernel, by decide +kernel⟩

/-- An entry of the test queue. -/
def entryFor (k : Fin 16) (cls : TestClass) (waiting : Nat) (underTest : Bool) : QueueEntry :=
  { cable := k, cls := cls, origins := { startup := false, retest := true, host := true }, override := none
    waiting := waiting, notBefore := 0, underTest := underTest }

/-- Cable 15 MONITORED, with an entry in the queue. -/
def queued (s : State) (cls : TestClass) (waiting : Nat) : State :=
  withQueue (withCable s 15 { Cable.reset with state := .monitored, status := .pending })
    [entryFor 15 cls waiting false]

theorem test_witness_WriteCableActsByState :
    (queued (keyed .standby) .host 5).ready ∧ (hd 5 15).names .cable 15 ∧
    (queued (keyed .standby) .host 5).link.mkey = true ∧ (queued (keyed .standby) .host 5).sup.mode = .standby ∧
    (queued (keyed .standby) .host 5).revisionMatches (hd 5 15) (nameOf .cable 15) ∧
    ((queued (keyed .standby) .host 5).cables[15]).state = .monitored ∧
    ((keyed .standby).cables[15]).state = .unused ∧
    (let t := after (.writeCable (hd 5 15) [0, 0, 0, 0, 5, 0, 0, 0, 100]) (queued (keyed .standby) .host 5)
     t.link.slot.status = .ok ∧ (t.cables[15]).status = .abandoned ∧
     nameOf .cable 15 ∈ t.attn.sets[AClass.notice.rank]) ∧
    (let write (b : List Byte) : Status := (after (.writeCable (hd 5 15) b) (keyed .standby)).link.slot.status
     write [1, 1, 1, 1, 0xF4, 0, 1, 0x86, 0xA0] = .ok ∧ write [2, 0, 0, 0, 5, 0, 0, 0, 100] = .range ∧
     write [1, 0, 0, 0, 4, 0, 0, 0, 100] = .range ∧ write [1, 0, 0, 1, 0xF5, 0, 0, 0, 100] = .range ∧
     write [1, 0, 0, 0, 5, 0, 0, 0, 99] = .range ∧ write [1, 0, 0, 0, 5, 0, 1, 0x86, 0xA1] = .range) :=
  ⟨⟨rfl, rfl⟩, ⟨rfl, rfl⟩, rfl, rfl, fresh _ _ _ _, by decide +kernel, by decide +kernel, by decide +kernel,
    by decide +kernel⟩

theorem test_witness_WriteJunctionSettings :
    (tracked .standby .locked).ready ∧ (hd 10 0).names .junction 0 ∧ (tracked .standby .locked).link.mkey = true ∧
    (tracked .standby .locked).sup.mode = .standby ∧
    (tracked .standby .locked).revisionMatches (hd 10 0) (nameOf .junction 0) ∧
    (tracked .standby .locked).base.frequency ≠ .hz60 ∧ (tracked .standby .locked).base.tracker ≠ .mainsLost ∧
    (tracked .standby .mainsLost).base.tracker = .mainsLost ∧
    (after (.writeJunction (hd 10 0) [30, 1, 60]) (tracked .standby .locked)).link.slot.status = .ok ∧
    (after (.writeJunction (hd 10 0) [29, 1, 60]) (tracked .standby .locked)).link.slot.status = .clamped ∧
    (after (.writeJunction (hd 10 0) [30, 2, 60]) (tracked .standby .locked)).link.slot.status = .range ∧
    (after (.writeJunction (hd 10 0) [30, 1, 55]) (tracked .standby .locked)).link.slot.status = .range :=
  ⟨⟨rfl, rfl⟩, ⟨rfl, rfl⟩, rfl, rfl, fresh _ _ _ _, by decide, by decide, rfl, by decide +kernel, by decide +kernel,
    by decide +kernel, by decide +kernel⟩

theorem test_witness_RetirePlanReleasesStages :
    (inMode .standby).ready ∧ (hd 6 0).names .plan 0 ∧
    (withSeq (inMode .running) fun q => { q with running := some 0 }).seq.running = some 0 ∧
    (withSeq (inMode .running) fun q => { q with pending := some 0 }).seq.pending = some 0 ∧
    (planned (inMode .standby) true).seq.running ≠ some 0 ∧ (planned (inMode .standby) true).seq.pending ≠ some 0 ∧
    ((planned (inMode .standby) true).plans[0]).loaded = true ∧ ((inMode .standby).plans[0]).loaded = false ∧
    (∀ q : Fin 8, q ≠ 0 → ((planned (inMode .standby) true).plans[q]).loaded = false) ∧
    ((alsoLoaded (planned (inMode .standby) true) 7).plans[7]).loaded = true :=
  ⟨ready_inMode _, ⟨rfl, rfl⟩, rfl, rfl, by decide, by decide, by decide +kernel, by decide +kernel, by decide +kernel,
    by decide +kernel⟩

theorem test_witness_LoadAndCommitGoInFlight :
    (keyed .unconfigured).ready ∧ (keyed .standby).ready ∧ (hd 6 7).names .plan 7 ∧
    ((keyed .standby).plans[7]).loaded = false ∧ (keyed .unconfigured).link.mkey = true ∧
    ((alsoLoaded (inMode .running) 7).plans[7]).loaded = true ∧
    (withSeq (alsoLoaded (inMode .running) 7) fun q => { q with running := some 7 }).seq.running = some 7 :=
  ⟨ready_keyed _, ready_keyed _, ⟨rfl, rfl⟩, by decide +kernel, rfl, by decide +kernel, rfl⟩

theorem test_witness_LoadPlanOutcome :
    (flying .standby (.loadPlan 0)).base.mainPower = true ∧
    (flying .standby (.loadPlan 0)).link.inFlight = some { work := .loadPlan 0, table := 6, index := 0 } ∧
    (flying .standby (.loadPlan 0)).chainCheck 0 = .failed 0 .notDefined ∧
    (planned (flying .standby (.loadPlan 0)) false).chainCheck 0 = .closed 2 [0, 1] ∧
    (inMode .standby).link.inFlight = none := by decide +kernel

theorem test_witness_CommitOutcome :
    (flying .unconfigured .commit).base.mainPower = true ∧ (flying .unconfigured .commit).sup.mode = .unconfigured ∧
    (flying .unconfigured .commit).commitFailure =
      some { record := nameOf .plan 0, check := .noPlanLoaded, extra := 0 } ∧
    (planned (flying .unconfigured .commit) true).commitFailure = none ∧
    (planned (flying .unconfigured .commit) true).link.inFlight =
      some { work := .commit, table := 6, index := 0 } := by decide +kernel

theorem test_witness_ChecksAreSound :
    (planned State.reset true).chainCheck 0 = .closed 2 [0, 1] ∧ (planned State.reset true).commitFailure = none ∧
    State.reset.chainCheck 0 = .failed 0 .notDefined ∧
    (withGroup State.reset 15
      { Group.reset with cfg := { Group.reset.cfg with kind := .vehicle, leavingTime := 61 } }).commitFailure =
      some { record := nameOf .group 15, check := .leavingForKind, extra := 0 } := by
  decide +kernel

/-- STANDBY with the mains LOCKED, the requested plan 0, and cable 15 MONITORED. -/
def startable : State :=
  withCable { planned (tracked .standby .locked) true with
    sched := { ScheduleUnit.reset with requested := some 0 } } 15 { Cable.reset with state := .monitored }

theorem test_witness_StartAndRestart :
    startable.ready ∧ startable.sup.mode = .standby ∧ startable.link.mkey = true ∧
    (tracked .failsafe .slip1).sup.mode = .failsafe ∧
    startable.base.tracker = .locked ∧ startable.sup.presentCauses = 0 ∧ startable.vehicleShort = false ∧
    startable.vehicleDark = false ∧ (∀ p, startable.sched.requested = some p → startable.allStagesBarred p = false) ∧
    startable.sup.sweep = true ∧ (startable.cables[15]).state ≠ .unused ∧
    (∀ e ∈ startable.bridge.queue, e.cable ≠ 15) ∧ (tracked .standby .acquiring).base.tracker = .acquiring :=
  ⟨⟨rfl, rfl⟩, rfl, rfl, rfl, rfl, rfl, by decide +kernel, by decide +kernel, by decide +kernel, rfl, by decide +kernel,
    by decide +kernel, rfl⟩

/-- The one group a PEDESTRIAN and DARK: every stage of the requested plan is barred. -/
def startBarred : State :=
  withGroup startable 0 { Group.reset with cfg := { Group.reset.cfg with kind := .pedestrian }, aspect := .dark }

theorem test_witness_StartAndRestart_barred :
    startBarred.ready ∧ startBarred.sup.mode = .standby ∧ startBarred.base.tracker = .locked ∧
    startBarred.sup.presentCauses = 0 ∧ startBarred.vehicleShort = false ∧ startBarred.vehicleDark = false ∧
    startBarred.sched.requested = some 0 ∧ startBarred.allStagesBarred 0 = true ∧
    (after (.start (hd 0 0) []) startBarred).sup.firstCause = some .allBarred :=
  ⟨⟨rfl, rfl⟩, rfl, rfl, rfl, by decide +kernel, by decide +kernel, rfl, by decide +kernel, by decide +kernel⟩

theorem test_witness_StopAndDark (m : Mode) :
    (keyed m).ready ∧ (keyed m).link.mkey = true ∧ (keyed m).sup.mode = m :=
  ⟨ready_keyed _, rfl, rfl⟩

theorem test_witness_ForceFailsafe :
    (inMode .running).ready ∧ (inMode .failsafe).sup.mode = .failsafe ∧ (inMode .running).sup.mode ≠ .failsafe ∧
    (inMode .unconfigured).sup.mode = .unconfigured :=
  ⟨ready_inMode _, rfl, by decide, rfl⟩

theorem test_witness_SelectPlan :
    (inMode .running).ready ∧ ((alsoLoaded (inMode .running) 7).plans[7]).loaded = true ∧
    ((inMode .running).plans[7]).loaded = false ∧ (inMode .running).sched.source = .schedule ∧
    (withSeq (inMode .running) fun q => { q with running := some 1 }).seq.running ≠ none ∧
    (alsoLoaded (inMode .running) 7).requestedPlan = some 7 ∧ (inMode .running).requestedPlan = none :=
  ⟨ready_inMode _, by decide +kernel, by decide +kernel, rfl, by decide, by decide +kernel, by decide +kernel⟩

/-- Chapter 3, "The entry in force": entry 2 has the smallest age at day 6, 08:10. -/
def scheduled : State :=
  let entry (days : BitVec 7) (hour minute : Nat) (plan : Fin 8) (st : EntryState) : ScheduleEntry :=
    { cfg := { state := st, days := days, hour := hour, minute := minute, plan := plan, dimming := .bright }, rev := 0 }
  { alsoLoaded (alsoLoaded (alsoLoaded (inMode .running) 1) 2) 3 with
    schedule := (((((State.reset.schedule.set 0 (entry 0x1F 7 0 1 .enabled)).set 1
      (entry 0x1F 19 30 2 .enabled)).set 2 (entry 0x7F 23 0 3 .enabled)).set 3
      (entry 0x60 9 0 2 .enabled)).set 4 (entry 0x7F 12 0 1 .disabled)).set 5 (entry 0x7F 23 30 5 .enabled)
    base := { TimeBase.reset with
      time := { day := 6, hour := 8, minute := 10, second := 0, tenth := 0 }, timeValid := true } }

theorem test_witness_SetTime :
    (inMode .running).ready ∧
    (after (.setTime (hd 0 0) [7, 23, 59, 59, 9]) (inMode .running)).link.slot.status = .ok ∧
    ([[0, 0, 0, 0, 0], [8, 0, 0, 0, 0], [1, 24, 0, 0, 0], [1, 0, 60, 0, 0], [1, 0, 0, 60, 0], [1, 0, 0, 0, 10], [1]].map
      fun (b : List Byte) => (after (.setTime (hd 0 0) b) (inMode .running)).link.slot.status) =
      List.replicate 7 Status.range ∧
    scheduled.entryInForce = some 2 ∧ State.reset.base.timeValid = false ∧ (scheduled.schedule[0]).cfg.hour ≤ 23 ∧
    (scheduled.schedule[2]).cfg.age scheduled.base.time = some ((9 * 60 + 10) * 600) ∧
    (State.reset.schedule[0]).cfg.age scheduled.base.time = none ∧
    ((inMode .running).setScheduled 7 .dim).sched.dimSettle = 50 ∧
    ((inMode .running).setScheduled 7 .bright).sched.dimState = .bright :=
  ⟨ready_inMode _, by decide +kernel, by decide +kernel, by decide +kernel, rfl, by decide +kernel, by decide +kernel,
    by decide +kernel, by decide +kernel, by decide +kernel⟩

theorem test_witness_SetDim :
    (inMode .running).ready ∧ (inMode .running).sched.dimState = .bright ∧
    (after (.setDimDim (hd 0 0) [2]) (inMode .running)).sched.dimSettle = 50 ∧
    (after (.setDimBright (hd 0 0) [1]) (inMode .running)).sched.dimOverride = .bright ∧
    (after (.setDimFollow (hd 0 0) [0]) (inMode .running)).link.slot.status = .ok :=
  ⟨ready_inMode _, rfl, by decide +kernel, by decide +kernel, by decide +kernel⟩

theorem test_witness_TestCables :
    (queued (inMode .running) .host 5).ready ∧ ((queued (inMode .running) .host 5).cables[15]).state ≠ .unused ∧
    (∃ e ∈ (queued (inMode .running) .host 5).bridge.queue, e.cable = 15) ∧
    (∀ e ∈ (inMode .running).bridge.queue, e.cable ≠ 15) ∧
    (after (.testCables (hd 0 0) ([15, 0, 1, 0x86, 0xA0])) (queued (inMode .running) .host 5)).link.slot.status = .ok ∧
    (after (.testCables (hd 0 0) ([15, 0, 1, 0x86, 0xA1])) (queued (inMode .running) .host 5)).link.slot.status =
      .range ∧
    ([1, 2, 3, 4] : List Byte).length % 5 ≠ 0 ∧
    (∀ item ∈ [(15, 99), (16, 0), (14, 0)],
      (after (.testCables (hd 0 0) (b8 item.1 :: be32 item.2)) (queued (inMode .running) .host 5)).link.slot.status =
        .range) ∧
    (after (.testCables (hd 0 0) [15, 0, 0, 0, 0, 15, 0, 0, 0, 0]) (queued (inMode .running) .host 5)).link.slot.status =
      .range :=
  ⟨⟨rfl, rfl⟩, by decide +kernel, by decide +kernel, by decide +kernel, by decide +kernel, by decide +kernel, by decide,
    by decide +kernel, by decide +kernel⟩

theorem test_witness_RelearnAndClearChannel :
    (keyed .running).ready ∧ (hd 3 63).names .channel 63 ∧ (keyed .running).link.mkey = true ∧
    ((keyed .running).channels[63]).verdict = none ∧
    ((withChannel (keyed .running) 63 { Channel.reset with verdict := some .out }).channels[63]).verdict ≠ none :=
  ⟨ready_keyed _, ⟨rfl, rfl⟩, rfl, by decide +kernel, by decide +kernel⟩

theorem test_witness_ClearFaultCableAndJunction :
    (keyed .failsafe).ready ∧ (keyed .failsafe).link.mkey = true ∧ (hd 5 15).names .cable 15 ∧
    (hd 10 0).names .junction 0 ∧ ((keyed .failsafe).cables[15]).state = .unused ∧
    ((withCable (keyed .failsafe) 15 { Cable.reset with state := .monitored }).cables[15]).state = .monitored ∧
    ((withCable (keyed .failsafe) 15 { Cable.reset with state := .isolated }).cables[15]).state = .isolated :=
  ⟨ready_keyed _, rfl, ⟨rfl, rfl⟩, ⟨rfl, rfl⟩, by decide +kernel, by decide +kernel, by decide +kernel⟩

/-- (CHANNEL, 11) pending in LAMP. -/
def lampPending : State := { State.reset with attn := Attention.post State.reset.attn .lamp (nameOf .channel 11) }

theorem test_witness_PostsAndAttend :
    State.reset.ready ∧ lampPending.ready ∧ (∀ c : AClass, State.reset.attn.qualifies c = false) ∧
    lampPending.attn.qualifies .lamp = true ∧
    (∀ d : AClass, lampPending.attn.qualifies d = true → AClass.lamp.rank ≤ d.rank) ∧
    lampPending.attn.sets[AClass.lamp.rank] = nameOf .channel 11 :: [] :=
  ⟨⟨rfl, rfl⟩, ⟨rfl, rfl⟩, fun c => by cases c <;> decide +kernel, by decide +kernel,
    fun d => by cases d <;> decide +kernel, by decide +kernel⟩

theorem test_witness_AckReleaseAndMask :
    lampPending.ready ∧ (hd 3 11).names .channel 11 ∧ nameOf .channel 11 ∈ lampPending.attn.sets[AClass.lamp.rank] ∧
    nameOf .channel 11 ∉ lampPending.attn.sets[AClass.safety.rank] ∧ State.reset.attn.chain = [] ∧
    (after (.attend (hd 0 0) []) lampPending).attn.chain = [] ++ [.lamp] ∧ (31 : Byte).toNat < 32 :=
  ⟨⟨rfl, rfl⟩, ⟨rfl, rfl⟩, by decide +kernel, by decide +kernel, rfl, by decide +kernel, by decide⟩

theorem test_witness_KeyAndSupplies :
    State.reset.base.mainPower = true ∧ State.reset.base.source = .crystal ∧
    (after .mainPowerLoss State.reset).base.mainPower = false ∧
    ((after .retentionTenth (after .mainPowerLoss State.reset)).base.time).tenth = 1 ∧
    (after .retentionLoss (after .mainPowerLoss State.reset)).base.retentionValid = false ∧
    State.reset.base.time.inRange = true := by decide +kernel

theorem test_witness_MainResetValues :
    State.reset.base.retentionValid = true ∧
    (after .retentionLoss (after .mainPowerLoss State.reset)).base.retentionValid = false ∧
    (after .mainReset (after .retentionLoss (after .mainPowerLoss (inMode .failsafe)))).sup.mode = .unconfigured := by
  decide +kernel

/-! ### The mains: at 50 Hz, 0.9 P is 18 ms, 1.1 P 22 ms, 1.5 P 30 ms and 2.5 P 50 ms -/

/-- An edge at an instant in nanoseconds. -/
def edge (n : Nat) : CrossingInput := { instant := n, tick := noTick }

theorem test_witness_CrossingsWhileLocked :
    (tracked .running .locked).base.mainPower = true ∧ (tracked .running .locked).base.reference = some 0 ∧
    (17999999 - 0) * 50 * 10 < 9000000000 ∧ (18000000 - 0) * 50 * 10 = 9000000000 ∧
    (30000000 - 0) * 50 * 10 = 15000000000 ∧ 15000000000 < (30000001 - 0) * 50 * 10 ∧
    (50000000 - 0) * 50 * 10 = 25000000000 ∧
    (after (.zeroCrossing (edge 17999999)) (tracked .running .locked)).base.reference = some 0 ∧
    (after (.zeroCrossing (edge 18000000)) (tracked .running .locked)).base.reference = some 18000000 ∧
    (after (.zeroCrossing (edge 50000000)) (tracked .running .slip1)).base.tracker = .locked ∧
    (after (.zeroCrossing (edge 50000000)) (tracked .running .locked)).base.tracker = .locked ∧
    (after (.zeroCrossing (edge 50000001)) (tracked .running .locked)).base.tracker = .acquiring := by decide +kernel

/-- ACQUIRING with seven good crossings. -/
def sevenGood : State :=
  { tracked .mainsOut .acquiring with base := { (tracked .mainsOut .acquiring).base with goodCount := 7 } }

theorem test_witness_CrossingsRegainTheMains :
    (tracked .running .mainsLost).base.mainPower = true ∧ (tracked .running .mainsLost).base.tracker = .mainsLost ∧
    State.reset.base.tracker = .acquiring ∧ State.reset.base.reference = none ∧
    sevenGood.base.reference = some 0 ∧ sevenGood.base.goodCount = 7 ∧ sevenGood.base.tracker = .acquiring ∧
    (after (.zeroCrossing (edge 22000000)) sevenGood).base.tracker = .locked ∧
    (after (.zeroCrossing (edge 22000001)) sevenGood).base.goodCount = 0 ∧
    (after (.zeroCrossing (edge 17999999)) sevenGood).base.reference = some 0 ∧
    (after (.zeroCrossing (edge 30000001)) sevenGood).base.reference = some 30000001 := by decide +kernel

theorem test_witness_WindowExpiries :
    (tracked .running .locked).base.mainPower = true ∧ (tracked .running .locked).base.reference = some 0 ∧
    (after (.firstWindowExpiry noTick) (tracked .running .locked)).base.tracker = .slip1 ∧
    (after (.firstWindowExpiry noTick) sevenGood).base.goodCount = 0 ∧
    (after .secondWindowExpiry (tracked .running .slip1)).sup.mode = .mainsOut ∧
    (after .secondWindowExpiry (tracked .running .acquiring)).base.tracker = .mainsLost := by decide +kernel

/-- Cable 15 under test. -/
def testing (s : State) (b : BridgeState) (n : Nat) : State :=
  { withCable s 15 { Cable.reset with state := .monitored, status := .testing } with
    bridge :=
      { state := b, underTest := some 15, timer := some n, selection := .cable 15
        queue := [entryFor 15 .host 20 true] } }

theorem test_witness_MainsLostAndReturn :
    (testing (inMode .running) .charging 3).sup.mode = .running ∧
    (testing (inMode .running) .charging 3).bridge.underTest = some 15 ∧
    (testing (inMode .running) .charging 3).bridge.entryOf 15 = some (entryFor 15 .host 20 true) ∧
    (inMode .running).bridge.underTest = none ∧ (inMode .mainsOut).sup.mode = .mainsOut ∧
    (inMode .mainsOut).sup.origin = .other ∧ (inMode .mainsOut).sup.presentCauses = 0 ∧
    (inMode .mainsOut).vehicleShort = false ∧ (inMode .mainsOut).vehicleDark = false ∧
    (inMode .mainsOut).sched.requested = none := by decide +kernel

/-- A mains-return to STARTING with every stage of the requested plan barred: FAILSAFE with ALL_BARRED alone. -/
theorem test_witness_MainsLostAndReturn_barred :
    let dark : Group := { Group.reset with aspect := .dark }
    let s : State := { planned (inMode .mainsOut) true with
      sched := { ScheduleUnit.reset with requested := some 0 }, groups := Vector.replicate 16 dark }
    s.sup.mode = .mainsOut ∧ s.sup.origin = .other ∧ s.sup.presentCauses = 0 ∧ s.vehicleShort = false ∧
    s.vehicleDark = false ∧ s.allStagesBarred 0 = true ∧ s.mainsReturn.sup.mode = .failsafe ∧
    s.mainsReturn.sup.firstCause = some .allBarred ∧ s.mainsReturn.sup.furtherCauses = 0 ∧
    ((event State.mainsLost (testing (inMode .running) .charging 3)).cables[15]).status = .abandoned ∧
    nameOf .cable 15 ∈ (event State.mainsLost (testing (inMode .running) .charging 3)).attn.sets[AClass.notice.rank] :=
  by decide +kernel

theorem test_witness_TenthTick :
    State.reset.base.source = .crystal ∧ State.reset.base.mainPower = true ∧ State.reset.base.time.inRange = true ∧
    State.reset.seq.state = .stopped ∧ State.reset.sup.mode = .unconfigured ∧ State.reset.sup.phase = none ∧
    State.reset.bridge.underTest = none ∧
    (after (.zeroCrossing (edge 20000000)) (tracked .running .locked)).base.source = .cycles ∧
    ((after (.tenthTick .crystal noTick.tenth) State.reset).groups[0]).sinceGreen = 1 := by decide +kernel

/-- One tenth before 23:00 the SCHEDULE entry 2 of that example is due, its plan LOADED; entry 5, half an hour later,
names an EMPTY plan and is posted. -/
theorem test_witness_TenthTick_firing :
    let at_ (minute : Nat) : State := { scheduled with
      base := { scheduled.base with
        time := { day := 6, hour := if minute = 59 then 22 else 23, minute := minute, second := 59, tenth := 9 } } }
    (at_ 59).clockTenth.sched.scheduledPlan = 3 ∧ (at_ 29).clockTenth.sched.scheduledPlan = 0 ∧
    nameOf .schedule 5 ∈ (at_ 29).clockTenth.attn.sets[AClass.notice.rank] ∧
    scheduled.clockTenth.base.time.tenth = 1 := by decide +kernel

/-- A detector ACTIVE for 601 tenths with a stuck limit of one minute is found faulty at the tenth, at 600 not. -/
theorem test_witness_TenthTick_stuck :
    let held (n : Nat) : State := { inMode .running with
      detectors := State.reset.detectors.set 15
        { Detector.reset with cfg := { enabled := true, invert := false, stuckLimit := 1 }, level := true, activeRun := n } }
    ((held 600).sequencerTenth.detectors[15]).faulty = true ∧
    ((held 599).sequencerTenth.detectors[15]).faulty = false := by decide +kernel

/-- A sampler at a position. -/
def sampling (n : Fin 32) : State := { State.reset with sampler := { Sampler.reset with position := some n } }

theorem test_witness_SamplePosition :
    State.reset.sampler.position = none ∧ (sampling 31).sampler.position = some 31 ∧
    ((sampling 31).sampler.inputs[79]).saturated = false ∧
    (let t := after (.samplePosition ((Vector.replicate 80 0).set 79 (-2048))) (sampling 31)
     (t.sampler.inputs[79]).sum = 4194304 ∧ (t.sampler.residuals[15]).sum = 4194304 ∧ t.sampler.position = none) ∧
    (Accumulator.add { sum := 16777215, saturated := false } 1).saturated = true := by decide +kernel

theorem test_witness_ReadingIsTwiceTheRoot :
    (Accumulator.zero).sum ≤ 16777215 ∧ (Accumulator.zero.saturated = true → Accumulator.zero.sum = 16777215) ∧
    (Accumulator.add Accumulator.zero 16777216).saturated = true ∧
    (Accumulator.add Accumulator.zero 16777215).saturated = false := by decide +kernel

/-- A used STEADY channel of G0 in RUNNING, on profile 0, learned at 260 mA. -/
def steady : State :=
  withChannel (withGroup (inMode .running) 0 { Group.reset with cfg := { Group.reset.cfg with kind := .vehicle } }) 0
    { Channel.reset with
      phase := .steady
      bright := { learned := true, learnSum := 0, learnCount := 0, reference := 4160, baseline := 4160 } }

/-- B is 260, so O is 130, L is 221 and U is 299. -/
theorem test_witness_Judgements :
    ([129, 130, 220, 221, 299, 300].map fun n =>
      classResult ProfileConfig.filament (steady.channels[0]).bright { mA := n, saturated := false }) =
      [.bad .out, .bad .partialLoss, .bad .partialLoss, .good, .good, .bad .over] ∧
    steady.used 0 = true ∧ steady.onIsolated 0 = false ∧ steady.used 1 = false ∧
    (inMode .failsafe).sup.mode ≠ .running := by decide +kernel

/-- Readings that are judged: STEADY and LEARNED, STEADY and UNLEARNED at its sixteenth, OFF, and a third bad one. -/
theorem test_witness_Judgements_judged :
    let with_ (f : Channel → Channel) : State := withChannel steady 0 (f (steady.channels[0]))
    let judged (f : Channel → Channel) (mA : Nat) : Judged :=
      (with_ f).judgeChannel 0 { mA := mA, saturated := false }
    steady.sched.dimSettle = 0 ∧ (steady.channels[0]).phase = .steady ∧
    (judged id 129).channel.worst = some .out ∧
    (judged (fun c => { c with bright := { Part.empty with learnSum := 3900, learnCount := 15 } }) 260).channel.bright =
      { learned := true, learnSum := 0, learnCount := 0, reference := 4160, baseline := 4160 } ∧
    (judged (fun c => { c with bright := { Part.empty with learnSum := 300, learnCount := 15 } }) 30).failed = true ∧
    (judged (fun c => { c with phase := .off }) 21).channel.worst = some .stuckOn ∧
    (judged (fun c => { c with badStreak := 2, worst := some .over }) 129).raised = true ∧
    (judged (fun c => { c with badStreak := 1, worst := some .over }) 129).raised = false := by decide +kernel

theorem test_witness_LearnCompleteAndStreakConfirm :
    let learning : State := withChannel (inMode .running) 63
      { Channel.reset with bright := { Part.empty with learnSum := 480, learnCount := 16 } }
    let bad (worst verdict : Option BadKind) : State := withChannel (inMode .running) 63
      { Channel.reset with badStreak := 3, worst := worst, verdict := verdict }
    ((learning.channels[63]).active learning.sched.dimState).learned = false ∧
    ((learning.channels[63]).active learning.sched.dimState).learnCount = 16 ∧
    480 / 16 < 2 * (learning.profileOf 63).offLimit ∧
    ((after (.learnComplete 63) learning).channels[63]).learnFailed = true ∧
    ((bad (some .out) none).profileOf 63).confirmCount = 3 ∧
    severity none < severity (some BadKind.out) ∧
    ((after (.streakConfirm 63) (bad (some .out) none)).channels[63]).verdict = some .out ∧
    ((after (.streakConfirm 63) (bad (some .over) (some .out))).channels[63]).verdict = some .out := by decide +kernel

theorem test_witness_PhaseEnds :
    let phased (p : Phase) : State := withChannel (inMode .running) 63 { Channel.reset with phase := p, remaining := 1 }
    ((after (.surgeEnd 63) (phased .surge)).channels[63]).phase = .settle ∧
    ((after (.surgeEnd 63) (phased .surge)).channels[63]).remaining = 6 ∧
    ((after (.settleEnd 63) (phased .settle)).channels[63]).phase = .steady ∧
    ((after (.releaseEnd 63) (phased .release)).channels[63]).phase = .off ∧
    (after .dimSettleEnd { inMode .running with sched := { ScheduleUnit.reset with dimSettle := 1 } }).sched.dimSettle = 0 ∧
    (Channel.reset.advance ProfileConfig.filament true).remaining = 8 ∧
    (({ Channel.reset with command := true } : Channel).advance ProfileConfig.filament false).phase = .release ∧
    (({ Channel.reset with phase := .release, remaining := 2 } : Channel).advance ProfileConfig.filament false).remaining =
      1 := by
  decide +kernel

theorem test_witness_CableConfirmations :
    let streak (n : Nat) : State := withCable (inMode .running) 15
      { Cable.reset with state := .monitored, action := .isolate, openStreak := n, balanceStreak := n }
    ((streak 10).cables[15]).openStreak = 10 ∧ ((streak 9).cables[15]).balanceStreak < 10 ∧
    ((after (.openReturnConfirm 15) (streak 10)).cables[15]).state = .isolated ∧
    ((after (.balanceConfirm 15) (streak 10)).cables[15]).faults.balance = true ∧
    ((streak 10).cables[15]).faults.has .openReturn = false := by decide +kernel

/-- Open return: a channel counted on cable 15, seen lit at 50 mA, with a return of 9 mA, and not with one of 10 mA. -/
theorem test_witness_CableConfirmations_indicated :
    let lit (mA back streak : Nat) : State :=
      { withChannel (withCable (inMode .running) 15
          { Cable.reset with
            state := .monitored, openStreak := streak, balanceStreak := streak
            lastReturn := { mA := back, saturated := false }, lastResidual := { mA := 51, saturated := false } }) 63
          { Channel.reset with seenLit := true, lastReading := { mA := mA, saturated := false } } with
        counted := State.reset.counted.set 63 (some 15) }
    (((lit 50 9 8).evaluateCable 15).cables[15]).openStreak = 9 ∧
    (((lit 50 9 9).evaluateCable 15).cables[15]).faults.openReturn = true ∧
    (((lit 50 10 8).evaluateCable 15).cables[15]).balanceStreak = 9 ∧
    (((lit 49 9 9).evaluateCable 15).cables[15]).faults.balance = true := by decide +kernel

theorem test_witness_BridgeSteps :
    (queued (inMode .running) .host 5).nextEntry = some (entryFor 15 .host 5 false) ∧
    (queued (inMode .running) .host 5).bridge.state = .idle ∧
    (after (.testStart 1900) (queued (inMode .running) .host 5)).bridge.state = .charging ∧
    (after (.testStart 2100) (queued (inMode .running) .host 5)).bridge.state = .charging ∧
    (after (.testStart 1899) (queued (inMode .running) .host 5)).bridge.state = .bridgeFault ∧
    (after (.testStart 2101) (queued (inMode .running) .host 5)).bridge.state = .bridgeFault ∧
    (after .chargeEnd (testing (inMode .running) .charging 20)).bridge.state = .measuring ∧
    (testing (inMode .running) .measuring 30).bridge.entryOf 15 = some (entryFor 15 .host 20 true) ∧
    ([0, 1, 500, 501, 4094, 4095].map fun n =>
      ((after (.testComplete n) (testing (inMode .running) .measuring 30)).cables[15]).status) =
      [.passed, .passed, .passed, .pending, .pending, .pending] ∧
    ((after (.testTimeout 15) (queued (inMode .running) .host 6001)).cables[15]).status = .timedOut ∧
    ((after (.testTimeout 15) (queued (inMode .running) .host 6000)).cables[15]).status = .pending ∧
    (Selection.cable 15).bsel.toNat = 31 := by decide +kernel

/-- A failed RETEST of a suspect MONITORED cable with the action ISOLATE confirms INSULATION and isolates it; a queue at
its tenth: the test timer reaches 20, and an entry that has waited 6001 tenths goes. -/
theorem test_witness_BridgeSteps_confirmed :
    let suspect : State := withCable (testing (inMode .running) .measuring 30) 15
      { Cable.reset with state := .monitored, status := .testing, suspect := true, action := .isolate }
    ((after (.testComplete 501) suspect).cables[15]).faults.insulation = true ∧
    ((after (.testComplete 501) suspect).cables[15]).state = .isolated ∧
    ((testing (inMode .running) .charging 19).queueTenth noTick.tenth).bridge.state = .measuring ∧
    ((queued (inMode .mainsOut) .host 6000).queueTenth noTick.tenth).bridge.queue = [] ∧
    ((testing (inMode .running) .charging 3).removeEntry 15 .abandoned).bridge.state = .idle ∧
    (inMode .running).bridge.timer = none ∧ (inMode .running).bridge.underTest = none := by decide +kernel

/-- Chapter 4, "An interstage", as a record: losers G0 and G2, gainers G1 and G3. -/
def crossing (timer : Nat) : State :=
  withSeq interstage fun q =>
    { q with
      state := .interstage, running := some 0, current := some 41
      interstage := some
        { leaving := some 40, entering := 41, timer := timer, losers := [0, 2]
          gainers := [{ group := 1, prepStart := 40, greenStart := 60 }, { group := 3, prepStart := 70, greenStart := 70 }] } }

theorem test_witness_InterstageSteps :
    (crossing 40).seq.state = .interstage ∧ ((after (.prepStart 1) (crossing 40)).groups[1]).aspect = .prep ∧
    ((after (.greenStart 1) (crossing 60)).groups[1]).aspect = .green ∧
    ((after (.greenStart 3) (crossing 70)).groups[3]).aspect = .green ∧
    (let leaving : State := withGroup (crossing 30) 0
      { (interstage.groups[0]) with aspect := .leaving, stateTimer := 30 }
     ((after (.leavingEnd 0) leaving).groups[0]).aspect = .red) ∧
    (crossing 0).conflict 0 1 = true ∧ (crossing 0).intergreen 0 1 = some 50 ∧
    ((crossing 40).interstageStep.groups[1]).aspect = .prep ∧
    ((after (.prepStart 1) (crossing 39)).groups[1]).aspect ≠ .prep ∧
    ((after (.greenStart 1) (crossing 59)).groups[1]).aspect ≠ .green ∧
    ((after (.prepStart 3) (crossing 70)).groups[3]).aspect ≠ .prep := by decide +kernel

/-- The last gainer turns GREEN with every loser RED: the green of STAGE 41 begins. -/
theorem test_witness_InterstageSteps_over :
    let last : State := { crossing 70 with
      groups := (((crossing 70).groups.set 0 Group.reset).set 2 Group.reset).set 1
        { (interstage.groups[1]) with aspect := .green } }
    (after (.greenStart 3) last).seq.state = .minGreen ∧ last.interstageStep.seq.state = .minGreen ∧
    ((after (.greenStart 3) last).seq.context.map Context.descriptor) = some 41 := by decide +kernel

/-- A green of STAGE 0 of the LOADED plan 0. -/
def greening (st : SeqState) (green ext : Nat) (maxTimer : Option Nat) : State :=
  withSeq (planned (inMode .running) true) fun q =>
    { q with
      state := st, running := some 0, current := some 0
      context := some
        { descriptor := 0, timing := { minGreen := 30, maxGreen := 60, step := 5 }, calls := 0, holders := 0
          greenTimer := green, extTimer := ext, maxTimer := maxTimer } }

theorem test_witness_EndsOfAGreen :
    (after .minGreenEnd (greening .minGreen 30 5 none)).seq.state = .resting ∧
    (after .minGreenEnd (greening .minGreen 30 5 (some 59))).seq.state = .extending ∧
    (after .minGreenEnd (greening .minGreen 29 5 none)).seq.state = .minGreen ∧
    (after .maxOut (greening .extending 40 5 (some 60))).seq.current = some 1 ∧
    (after .gapOut (greening .extending 40 0 (some 59))).seq.current = some 1 ∧
    (after .gapOut (greening .extending 40 1 (some 59))).seq.state = .extending ∧
    ((greening .extending 40 0 (some 59)).others 0).find? (greening .extending 40 0 (some 59)).eligible = some 1 := by
  decide +kernel

/-- The chain of two stages, and a pending plan: the change is due at the change point STAGE 1 alone. -/
theorem test_witness_EndsOfAGreen_change :
    let s : State := withSeq (greening .extending 40 0 (some 59)) fun q => { q with pending := some 7 }
    s.others 0 = [1] ∧ (s.stages[0]).shape.next = 1 ∧ (s.stages[1]).shape.next = 0 ∧ s.changeDue 0 1 = true ∧
    s.changeDue 0 0 = false ∧ s.leaveStage.seq.running = some 0 ∧
    (s.changePlan 1 7).seq.running = some 7 ∧
    ((withGroup s 0 { Group.reset with aspect := .dark }).entryChoice 0) = none ∧
    ((greening .minGreen 30 5 none).greenStep).seq.state = .extending ∧
    (withSeq s fun q => { q with running := none }).leaveStage = withSeq s (fun q => { q with running := none }) ∧
    (inMode .running).seq.context = none := by decide +kernel

/-- A transition away from a green group that the stage entered does not name. -/
theorem test_witness_EndsOfAGreen_transition :
    let s : State := { interstage with
      stages := State.reset.stages.set 41 { Stage.reset with isDefined := true, shape := { shape15 with groups := 0x000A } } }
    (s.groups[0]).aspect = .green ∧ s.names 41 0 = false ∧ 0 < (s.groups[0]).cfg.leavingTime ∧
    (((s.startTransition (some 40) 41).groups[0])).aspect = .leaving ∧
    (s.startTransition (some 40) 41).seq.state = .interstage := by decide +kernel

theorem test_witness_detectorFaulty :
    let held (n : Nat) : State := { inMode .running with
      detectors := State.reset.detectors.set 15
        { Detector.reset with cfg := { enabled := true, invert := false, stuckLimit := 1 }, activeRun := n } }
    ((after (.detectorFaulty 15) (held 601)).detectors[15]).faulty = true ∧
    ((after (.detectorFaulty 15) (held 600)).detectors[15]).faulty = false := by decide +kernel

theorem test_witness_EntryChoice :
    (planned State.reset true).chainCheck 0 = .closed 2 [0, 1] ∧ (planned State.reset true).entryChoice 0 = some 0 := by
  decide +kernel

/-- G0 and G1 conflict in one direction, with an intergreen of 50. -/
def pair : State :=
  { withGroup (inMode .running) 0 { Group.reset with sinceGreen := 49 } with
    conflicts := State.reset.conflicts.set 0 { entry := (Vector.replicate 16 none).set 1 (some 50), rev := 0 } }

theorem test_witness_ExaminationAndProvenConflict :
    let evident (n : Nat) : State := { pair with
      sup := { pair.sup with evidence := noEvidence.set 14 ((Vector.replicate 16 0).set 15 n) } }
    pair.conflict 0 1 = true ∧ (pair.intergreen 0 1).getD 0 = 50 ∧ (pair.groups[0]).sinceGreen < 50 ∧
    (pair.examine (allOff.set 7 true)).sup.mode = .failsafe ∧
    (∀ x h : Fin 16, pair.conflict x h = true → allOff[greenOf h] = false) ∧
    (after (.provenConflict 14 15) (evident 2)).sup.firstCause = some .provenConflict ∧
    (after (.provenConflict 14 15) (evident 1)).sup.mode = .running := by decide +kernel

/-- A set with a channel on whose cable is under test: the test is abandoned, and in FAILSAFE, where every channel is
handed on off, it runs on. A set withheld in FAILSAFE makes COMMAND_CONFLICT a further cause. -/
theorem test_witness_ExaminationAndProvenConflict_abandoned :
    let on15 : Channel := { Channel.reset with cfg := { Channel.reset.cfg with cable := some 15 } }
    let wired (m : Mode) : State := withChannel (testing (inMode m) .charging 3) 63 on15
    let green : Vector Bool 64 := allOff.set 63 true
    let conflicting : State := { pair with sup := { pair.sup with mode := .failsafe } }
    (wired .running).bridge.entryOf 15 = some (entryFor 15 .host 20 true) ∧
    (∀ x h : Fin 16, (wired .running).conflict x h = false) ∧
    (((wired .running).examine green).cables[15]).status = .abandoned ∧
    ((wired .running).examine green).bridge.state = .idle ∧ ((wired .running).examine green).port = green ∧
    ((wired .failsafe).examine green).bridge.state = .charging ∧
    holds (conflicting.examine (allOff.set 7 true)).sup.furtherCauses .commandConflict = true := by decide +kernel

/-- Evidence found by the supervisor of the tick: counted in RUNNING, and, where another raise of the tick took the
junction to FAILSAFE first, a further cause. -/
theorem test_witness_ExaminationAndProvenConflict_evidence :
    let lit : State := withChannel (withChannel pair 3 { Channel.reset with seenLit := true }) 7
      { Channel.reset with seenLit := true }
    let once : Supervisor := { lit.sup with evidence := noEvidence.set 0 ((Vector.replicate 16 0).set 1 1) }
    lit.conflict 0 1 = true ∧ once.mode = .running ∧
    ((lit.evidenceTick lit.sup true allOff).sup.evidence[0])[1] = 1 ∧
    (lit.evidenceTick once true allOff).sup.firstCause = some .provenConflict ∧
    holds ((lit.raise Cause.redOut.only).evidenceTick once true allOff).sup.furtherCauses .provenConflict = true ∧
    (withGroup pair 0 { Group.reset with redOut := true }).darkStep.groups[0].aspect = .dark := by decide +kernel

/-- STARTING in a phase, with plan 0 LOADED and requested. -/
def phased (p : StartPhase) (n : Nat) : State :=
  { planned (inMode .starting) true with
    sched := { ScheduleUnit.reset with requested := some 0 }
    sup := { Supervisor.reset with mode := .starting, phase := some p, phaseTimer := some n, redInUse := some 60 } }

theorem test_witness_StartPhases :
    (after .darkTestEnd (phased .darkTest 20)).sup.phase = some .allRed ∧
    (after .darkTestEnd (phased .darkTest 19)).sup.phase = some .darkTest ∧
    (after .darkTestLimit (queued (phased .darkTest 1200) .startup 5)).sup.phase = some .allRed ∧
    (after .darkTestLimit (queued (phased .darkTest 1199) .startup 5)).sup.phase = some .darkTest ∧
    (queued (phased .darkTest 1200) .startup 5).bridge.queue.map QueueEntry.cable = [15] ∧
    (after .allRedEnd (phased .allRed 60)).sup.mode = .running ∧
    (after .allRedEnd (phased .allRed 59)).sup.mode = .starting ∧
    (phased .allRed 60).sup.presentCauses = 0 ∧ (phased .allRed 60).vehicleShort = false ∧
    (phased .allRed 60).vehicleDark = false ∧ (phased .darkTest 19).supervisorTenth.sup.phase = some .allRed ∧
    (phased .allRed 59).supervisorTenth.sup.mode = .running ∧
    (withGroup (phased .allRed 60) 0 { Group.reset with aspect := .dark }).entryChoice 0 = none ∧
    ({ phased .allRed 60 with sched := ScheduleUnit.reset } : State).sched.requested = none ∧
    (after .allRedEnd ({ phased .allRed 60 with sched := ScheduleUnit.reset } : State)).sup.mode = .starting ∧
    (inMode .running).sup.phaseTimer = none ∧ (inMode .running).sup.redInUse = none := by decide +kernel

/-- A VEHICLE group whose one red is OUT: RED_OUT holds. -/
def shortOf (m : Mode) : State :=
  withChannel (withGroup (inMode m) 0 { Group.reset with cfg := { Group.reset.cfg with kind := .vehicle } }) 0
    { Channel.reset with verdict := some .out }

theorem test_witness_CausesRaised :
    (shortOf .running).conditions &&& ~~~(shortOf .running).sup.presentCauses ≠ 0 ∧
    (State.refresh (shortOf .running)).sup.mode = .failsafe ∧
    (State.refresh (shortOf .failsafe)).sup.furtherCauses = 8 ∧
    (State.refresh (shortOf .running)).sup.furtherCauses = 0 ∧
    (after (.forceFailsafe (hd 0 0) []) (shortOf .failsafe)).sup.furtherCauses = 12 ∧
    (State.refresh (shortOf .standby)).sup.mode = .standby ∧
    (inMode .running).conditions = 0 := by decide +kernel

/-- START at the front of the queue: it engages FSR and queues a STARTUP test. -/
def startNext : State := startable.withPending [.start (hd 0 0) []]

theorem test_witness_SafetyOutputsKept :
    startNext.fsrSafe ∧ startNext.portSafe ∧ startNext.greensApart ∧ startNext.phaseRight ∧
    step startNext = .next (after (.start (hd 0 0) []) (startNext.withPending [])) ∧
    (after (.start (hd 0 0) []) (startNext.withPending [])).sup.fsr = true :=
  ⟨by unfold State.fsrSafe; decide +kernel, by unfold State.portSafe; decide +kernel,
    by unfold State.greensApart; decide +kernel, by unfold State.phaseRight; decide +kernel, rfl, by decide +kernel⟩

theorem test_witness_AttentionKept :
    let s := lampPending.withPending [.attend (hd 0 0) []]
    s.attn.lineRight ∧ s.attn.chainRight ∧ step s = .next (after (.attend (hd 0 0) []) lampPending) ∧
    (after (.attend (hd 0 0) []) lampPending).attn.chain = [.lamp] :=
  ⟨by unfold Attention.lineRight; decide +kernel, List.Pairwise.nil, rfl, by decide +kernel⟩

theorem test_witness_RecordsKept :
    startNext.queueRight ∧ startNext.dimRight ∧ startNext.streaksRight ∧ startNext.dimPartsRight ∧
    startNext.detectorsRight ∧ startNext.bridgeRight ∧
    step startNext = .next (after (.start (hd 0 0) []) (startNext.withPending [])) ∧
    (after (.start (hd 0 0) []) (startNext.withPending [])).bridge.queue.length = 1 :=
  ⟨List.nodup_nil, rfl, by unfold State.streaksRight; decide +kernel, by unfold State.dimPartsRight; decide +kernel,
    by unfold State.detectorsRight; decide +kernel, by unfold State.bridgeRight; decide +kernel, rfl,
    by decide +kernel⟩

/-- The end of ALL_RED at the front of the queue: the plan runs, and the transition to STAGE 0 starts. -/
def allRedNext : State :=
  { phased .allRed 60 with pending := [.allRedEnd], seq := { Sequencer.reset with state := .allRed } }

theorem test_witness_RecordsKept_sequencer :
    allRedNext.sequencerRight ∧ allRedNext.plansRight ∧
    step allRedNext = .next (after .allRedEnd (allRedNext.withPending [])) ∧
    (after .allRedEnd (allRedNext.withPending [])).seq.running = some 0 :=
  ⟨⟨rfl, by decide +kernel, (fun _ h => nomatch h), (fun _ h => nomatch h), (fun _ => ⟨rfl, rfl⟩), (fun _ => rfl), rfl⟩,
    by unfold State.plansRight; decide +kernel, rfl, by decide +kernel⟩

theorem test_witness_SafetyRecordsFrozen :
    Instr.writeGroup (hd 1 0) [1, 0, 1, 20, 30] ≠ .mainReset ∧ (inMode .unconfigured).link.mkey = false ∧
    ((keyed .running).sup.mode ≠ .unconfigured ∧ (keyed .running).sup.mode ≠ .standby) ∧
    ∃ t, exec (.writeGroup (hd 1 0) [1, 0, 1, 20, 30]) (inMode .unconfigured) = .next t :=
  ⟨(fun h => by cases h), rfl, by decide, ⟨_, rfl⟩⟩

end Sys2Proof.Tests
end

section
/-! The values of a main reset, and what an event does to the revisions (the section "Records and revisions"). -/

namespace Sys2Proof.Machine

/-! ## Main reset -/

/-- Only the retained fields of the time base depend on what a main reset finds (R32). -/
theorem TimeBase.afterReset_eq (b : TimeBase) :
    b.afterReset = { TimeBase.reset with
      time := b.afterReset.time, timeValid := b.afterReset.timeValid, crystalTenth := b.afterReset.crystalTenth
      crystalCount := b.afterReset.crystalCount } := by
  unfold TimeBase.afterReset
  split <;> rfl

theorem TimeBase.afterReset_retained (b : TimeBase) (h : b.retentionValid = true) :
    b.afterReset.time = b.time ∧ b.afterReset.timeValid = b.timeValid ∧
      b.afterReset.crystalTenth = b.crystalTenth := by
  rw [TimeBase.afterReset, if_pos h]
  exact ⟨rfl, rfl, rfl⟩

theorem TimeBase.afterReset_restarted (b : TimeBase) (h : b.retentionValid = false) :
    b.afterReset = TimeBase.reset := by
  rw [TimeBase.afterReset, h, if_neg Bool.false_ne_true]

/-- The working fields of the time base after a main reset (R32). -/
theorem TimeBase.afterReset_working (b : TimeBase) :
    b.afterReset.tracker = .acquiring ∧ b.afterReset.reference = none ∧ b.afterReset.goodCount = 0 ∧
      b.afterReset.opening = .crossing ∧ b.afterReset.frequency = .hz50 ∧ b.afterReset.source = .crystal ∧
      b.afterReset.divider = 0 ∧ b.afterReset.mainPower = true ∧ b.afterReset.retentionValid = true := by
  rw [TimeBase.afterReset_eq]
  exact ⟨rfl, rfl, rfl, rfl, rfl, rfl, rfl, rfl, rfl⟩

theorem Profile.reset_cfg (f : Fin 8) :
    (Profile.reset f).cfg = if f.val ≤ 3 then ProfileConfig.filament else ProfileConfig.led := by
  simp only [Profile.reset, Nat.lt_succ_iff]

theorem State.mainReset_profiles (s : State) (f : Fin 8) : s.mainReset.profiles[f] = Profile.reset f :=
  Vector.getElem_ofFn _

theorem State.mainReset_intergreen (s : State) (i j : Fin 16) : s.mainReset.intergreen i j = none := by
  simp [State.intergreen, State.mainReset, State.reset, ConflictRow.reset]

theorem State.mainReset_attention (s : State) (c : AClass) :
    s.mainReset.attn.sets[c.rank] = [] ∧ s.mainReset.attn.masked[c.rank] = false := by
  simp [State.mainReset, State.reset, Attention.reset]

theorem State.mainReset_evidence (s : State) (i j : Fin 16) : s.mainReset.sup.evidence[i][j] = 0 := by
  simp [State.mainReset, State.reset, Supervisor.reset, noEvidence]

/-- Settles O36. Each table is a vector of copies of its reset record; the time base is the only part whose values depend
on the state found. -/
theorem mainResetValues : Obligations.MainResetValues := by
  unfold Obligations.MainResetValues
  intro s
  have copies {α : Type} {n : Nat} (a : α) (i : Fin n) : (Vector.replicate n a)[i] = a := Vector.getElem_replicate _
  refine ⟨s.mainReset, rfl, s.mainReset_intergreen, fun i => congrArg ConflictRow.rev (copies _ i), fun f => ?profile,
    copies _, copies _, copies _, copies _, copies _, copies _, copies _, copies _,
    rfl, rfl, rfl, rfl, rfl, rfl, rfl, rfl, rfl, rfl, rfl, rfl, rfl, rfl, rfl, rfl, rfl, rfl, rfl, rfl, rfl, rfl, rfl,
    rfl, rfl, rfl, rfl, rfl, s.mainReset_attention, rfl, rfl, rfl, copies _, copies _, s.mainReset_evidence,
    rfl, rfl, rfl, rfl, ?base⟩
  case profile =>
    rw [s.mainReset_profiles]
    exact ⟨rfl, Profile.reset_cfg f⟩
  case base =>
    obtain ⟨htr, hre, hgo, hop, hfr, hso, hdi, hmp, hrv⟩ := s.base.afterReset_working
    refine ⟨htr, hre, hgo, hop, hfr, hso, hdi, hmp, hrv, s.base.afterReset_retained, fun h => ?_⟩
    have hb : s.mainReset.base = TimeBase.reset := s.base.afterReset_restarted h
    rw [hb]
    exact ⟨rfl, rfl, rfl⟩

end Sys2Proof.Machine
end

section
/-! What one event does to the revisions, and which fields are settled ("Records and revisions"; R1, R82, R123, R146). -/

namespace Sys2Proof.Machine

/-! ## The revisions an event moves -/

theorem Group.moved_eq (old new : Group) :
    Group.moved old new = if old.settled = new.settled then new else { new with rev := new.rev + 1 } := rfl

theorem Cable.moved_eq (old new : Cable) :
    Cable.moved old new = if old.settled = new.settled then new else { new with rev := new.rev + 1 } := rfl

/-- A group record after an event. -/
theorem event_group (f : State → State) (s : State) (g : Fin 16) :
    (event f s).groups[g] = Group.moved s.groups[g] (f s).groups[g] := Vector.getElem_zipWith _

/-- A cable record after an event. -/
theorem event_cable (f : State → State) (s : State) (k : Fin 16) :
    (event f s).cables[k] = Cable.moved s.cables[k] (f s).cables[k] := Vector.getElem_zipWith _

/-! ## The settled fields -/

theorem Group.settled_eq_iff (a b : Group) : a.settled = b.settled ↔
    a.cfg.kind = b.cfg.kind ∧ a.cfg.secondRed = b.cfg.secondRed ∧ a.cfg.redsRequired = b.cfg.redsRequired ∧
    a.cfg.prepTime = b.cfg.prepTime ∧ a.cfg.leavingTime = b.cfg.leavingTime ∧ a.aspect = b.aspect ∧
    a.isolatedCable = b.isolatedCable ∧ a.redOut = b.redOut := by
  obtain ⟨⟨_, _, _, _, _⟩, _, _, _, _, _, _⟩ := a
  obtain ⟨⟨_, _, _, _, _⟩, _, _, _, _, _, _⟩ := b
  simp only [Group.settled, GroupSettled.mk.injEq, GroupConfig.mk.injEq, and_assoc]

theorem Cable.settled_eq_iff (a b : Cable) : a.settled = b.settled ↔
    a.state = b.state ∧ a.action = b.action ∧ a.route = b.route ∧ a.tolerance = b.tolerance ∧ a.limit = b.limit ∧
    a.faults = b.faults ∧ a.suspect = b.suspect ∧ a.result = b.result ∧ a.status = b.status := by
  simp only [Cable.settled, CableSettled.mk.injEq]

theorem State.junctionSettled_eq_iff (a b : State) : a.junctionSettled = b.junctionSettled ↔
    a.sup.mode = b.sup.mode ∧ a.sup.origin = b.sup.origin ∧ a.sup.firstCause = b.sup.firstCause ∧
    a.sup.furtherCauses = b.sup.furtherCauses ∧ a.sup.presentCauses = b.sup.presentCauses ∧
    a.base.tracker = b.base.tracker ∧ a.base.frequency = b.base.frequency ∧ a.base.timeValid = b.base.timeValid ∧
    a.sched.source = b.sched.source ∧ a.sched.overridePlan = b.sched.overridePlan ∧
    a.seq.running = b.seq.running ∧ a.seq.pending = b.seq.pending ∧ a.sched.dimOverride = b.sched.dimOverride ∧
    a.sched.dimState = b.sched.dimState ∧ a.sup.startRed = b.sup.startRed ∧ a.sup.sweep = b.sup.sweep ∧
    (a.bridge.state = .bridgeFault ↔ b.bridge.state = .bridgeFault) := by
  have hfault : ((a.bridge.state == .bridgeFault) = (b.bridge.state == .bridgeFault)) ↔
      (a.bridge.state = .bridgeFault ↔ b.bridge.state = .bridgeFault) := by
    rw [Bool.eq_iff_iff, beq_iff_eq, beq_iff_eq]
  simp only [State.junctionSettled, JunctionSettled.mk.injEq, hfault]

/-- A dim part's learn state and reference are settled together exactly where each of them is. -/
theorem dim_settled_eq_iff (a b : Option Part) :
    ((a.map fun p => (p.learned, p.reference)) = b.map fun p => (p.learned, p.reference)) ↔
      a.map Part.learned = b.map Part.learned ∧ a.map Part.reference = b.map Part.reference := by
  cases a <;> cases b <;> simp

theorem Channel.settled_eq_iff (a b : Channel) : a.settled = b.settled ↔
    a.cfg.profile = b.cfg.profile ∧ a.cfg.cable = b.cfg.cable ∧ a.cfg.dimmable = b.cfg.dimmable ∧
    a.verdict = b.verdict ∧ a.learnFailed = b.learnFailed ∧ a.bright.learned = b.bright.learned ∧
    a.bright.reference = b.bright.reference ∧ a.dim.map Part.learned = b.dim.map Part.learned ∧
    a.dim.map Part.reference = b.dim.map Part.reference := by
  have hcfg : a.cfg = b.cfg ↔
      a.cfg.profile = b.cfg.profile ∧ a.cfg.cable = b.cfg.cable ∧ a.cfg.dimmable = b.cfg.dimmable := by
    obtain ⟨_, _, _⟩ := a.cfg
    obtain ⟨_, _, _⟩ := b.cfg
    simp only [ChannelConfig.mk.injEq]
  simp only [Channel.settled, ChannelSettled.mk.injEq, Prod.mk.injEq, dim_settled_eq_iff, hcfg, and_assoc]

/-- Settles O55: an event is its work and then the revisions of `closeEvent`. -/
theorem eventsMoveRevisions : Obligations.EventsMoveRevisions := by
  unfold Obligations.EventsMoveRevisions
  exact ⟨fun f s => ⟨event f s, rfl, event_group f s, event_cable f s, rfl, rfl⟩, Group.settled_eq_iff,
    Cable.settled_eq_iff, State.junctionSettled_eq_iff, Channel.settled_eq_iff⟩

end Sys2Proof.Machine
end

section
/-! The bytes of a written part are read as the values they stand for (R188). -/

namespace Sys2Proof.Machine

/-! ## Numbers -/

theorem b8_toNat {n : Nat} (h : n < 256) : (b8 n).toNat = n := by
  rw [b8, BitVec.toNat_ofNat, Nat.mod_eq_of_lt h]

theorem num16_be16 {n : Nat} (h : n < 65536) : num16 (b8 (n / 256)) (b8 n) = n := by
  simp only [num16, b8, BitVec.toNat_ofNat]
  omega

theorem num32_be32 {n : Nat} (h : n < 4294967296) :
    num32 (b8 (n / 16777216)) (b8 (n / 65536)) (b8 (n / 256)) (b8 n) = n := by
  simp only [num32, b8, BitVec.toNat_ofNat]
  omega

theorem setOf_setBytes (x : Set16) : setOf (b8 (x.toNat / 256)) (b8 x.toNat) = x := by
  rw [setOf, num16_be16 x.isLt, BitVec.ofNat_toNat, BitVec.setWidth_eq]

/-! ## Named values -/

theorem ofYesNo_yesNo (b : Bool) : ofYesNo (yesNo b) = some b := by cases b <;> rfl
theorem ofFirst_firstOf (b : Bool) : ofFirst (firstOf b) = some b := by cases b <;> rfl
theorem Kind.ofByte_byte (k : Kind) : Kind.ofByte k.byte = some k := by cases k <;> rfl
theorem CableState.ofByte_byte (c : CableState) : CableState.ofByte c.byte = some c := by cases c <;> rfl
theorem CableAction.ofByte_byte (a : CableAction) : CableAction.ofByte a.byte = some a := by cases a <;> rfl
theorem Route.ofByte_byte (r : Route) : Route.ofByte r.byte = some r := by cases r <;> rfl
theorem EntryState.ofByte_byte (e : EntryState) : EntryState.ofByte e.byte = some e := by cases e <;> rfl
theorem Dimming.ofByte_byte (d : Dimming) : Dimming.ofByte d.byte = some d := by cases d <;> rfl
theorem Frequency.ofByte_byte (f : Frequency) : Frequency.ofByte f.byte = some f := by cases f <;> rfl

theorem finOf_b8 {n : Nat} (hn : n ≤ 256) (i : Fin n) : finOf n (b8 i.val) = some i :=
  finOf_toNat _ i (b8_toNat (Nat.lt_of_lt_of_le i.isLt hn))

/-- A cable number is below 16, so its byte is not the 255 of "none". -/
theorem cableOf_optByte (x : Option (Fin 16)) : cableOf (optByte 16 x) = some x := by
  cases x with
  | none => rfl
  | some k =>
    have hk : b8 k.val ≠ 255 := fun h => by
      have hval : k.val = 255 := (b8_toNat (by omega)).symm.trans (congrArg BitVec.toNat h)
      omega
    rw [optByte, cableOf, if_neg hk, finOf_b8 (by decide)]
    rfl

/-! ## The ranges -/

theorem GroupConfig.inRange_iff (g : GroupConfig) : g.inRange = true ↔
    1 ≤ g.redsRequired ∧ g.redsRequired ≤ 2 ∧ g.prepTime ≤ 30 ∧ 20 ≤ g.leavingTime ∧ g.leavingTime ≤ 200 := by
  simp only [GroupConfig.inRange, Bool.and_eq_true, decide_eq_true_eq, and_assoc]

theorem ProfileConfig.inRange_iff (f : ProfileConfig) : f.inRange = true ↔
    f.surgeCode ≤ 15 ∧ f.settleCode ≤ 15 ∧ f.releaseCode ≤ 15 ∧ 5 ≤ f.bandLow ∧ f.bandLow ≤ 50 ∧ 5 ≤ f.bandHigh ∧
    f.bandHigh ≤ 100 ∧ 5 ≤ f.out ∧ f.out ≤ 90 ∧ f.out < 100 - f.bandLow ∧ 2 ≤ f.offLimit ∧ f.offLimit ≤ 200 ∧
    1 ≤ f.confirmCount ∧ f.confirmCount ≤ 15 := by
  simp only [ProfileConfig.inRange, Bool.and_eq_true, decide_eq_true_eq, and_assoc]

theorem CableConfig.inRange_iff (c : CableConfig) : c.inRange = true ↔
    c.state ≠ .isolated ∧ 5 ≤ c.tolerance ∧ c.tolerance ≤ 500 ∧ 100 ≤ c.limit ∧ c.limit ≤ 100000 := by
  simp only [CableConfig.inRange, Bool.and_eq_true, bne_iff_ne, decide_eq_true_eq, and_assoc]

theorem ScheduleConfig.inRange_iff (e : ScheduleConfig) : e.inRange = true ↔ e.hour ≤ 23 ∧ e.minute ≤ 59 := by
  simp only [ScheduleConfig.inRange, Bool.and_eq_true, decide_eq_true_eq]

theorem DetectorConfig.inRange_iff (d : DetectorConfig) : d.inRange = true ↔ d.stuckLimit ≤ 60 := by
  simp only [DetectorConfig.inRange, decide_eq_true_eq]

theorem TimeOfDay.inRange_iff (t : TimeOfDay) : t.inRange = true ↔
    1 ≤ t.day ∧ t.day ≤ 7 ∧ t.hour ≤ 23 ∧ t.minute ≤ 59 ∧ t.second ≤ 59 ∧ t.tenth ≤ 9 := by
  simp only [TimeOfDay.inRange, Bool.and_eq_true, decide_eq_true_eq, and_assoc]

theorem rowInRange_iff (row : Vector (Option Nat) 16) :
    rowInRange row = true ↔ ∀ (j : Fin 16) (n : Nat), row[j] = some n → 1 ≤ n ∧ n ≤ 250 := by
  simp only [rowInRange, allGroups, List.all_eq_true, List.mem_finRange, true_implies]
  refine forall_congr' fun j => ?_
  cases row[j] <;> simp

/-! ## The written parts, read back -/

theorem GroupConfig.parse_bytes (g : GroupConfig) (h : g.inRange = true) : GroupConfig.parse g.bytes = some g := by
  obtain ⟨_, hreds, hprep, _, hleaving⟩ := g.inRange_iff.1 h
  simp only [GroupConfig.bytes, GroupConfig.parse, Kind.ofByte_byte, ofYesNo_yesNo,
    b8_toNat (show g.redsRequired < 256 by omega), b8_toNat (show g.prepTime < 256 by omega),
    b8_toNat (show g.leavingTime < 256 by omega), h, if_true]

/-- The byte of an entry in range is read as the entry. -/
theorem entryOfByte_entryByte (x : Option Nat) (h : ∀ n, x = some n → 1 ≤ n ∧ n ≤ 250) :
    entryOfByte (entryByte x) = x ∧ (entryByte x).toNat ≤ 250 := by
  cases x with
  | none => exact ⟨rfl, by decide⟩
  | some n =>
    obtain ⟨hlo, hhi⟩ := h n rfl
    have hn : (b8 n).toNat = n := b8_toNat (by omega)
    have h0 : b8 n ≠ 0 := fun h0 => by
      have hzero : n = 0 := hn.symm.trans (congrArg BitVec.toNat h0)
      omega
    exact ⟨by rw [entryByte, entryOfByte, if_neg h0, hn], by rw [entryByte, hn]; exact hhi⟩

theorem rowBytes_length (row : Vector (Option Nat) 16) : (rowBytes row).length = 16 := by
  simp only [rowBytes, List.length_map, Vector.length_toList]

theorem rowBytes_getElem (row : Vector (Option Nat) 16) (j : Fin 16) :
    (rowBytes row)[j.val]? = some (entryByte row[j]) := by
  simp [rowBytes]

theorem parseRow_rowBytes (row : Vector (Option Nat) 16) (h : rowInRange row = true) :
    parseRow (rowBytes row) = some row := by
  have hentry (j : Fin 16) := entryOfByte_entryByte row[j] (fun n => (rowInRange_iff row).1 h j n)
  have hbytes : ((rowBytes row).all fun b => b.toNat ≤ 250) = true := by
    rw [List.all_eq_true]
    intro b hb
    obtain ⟨j, hj, rfl⟩ := List.getElem_of_mem hb
    rw [rowBytes_length] at hj
    have := rowBytes_getElem row ⟨j, hj⟩
    rw [List.getElem?_eq_some_iff] at this
    rw [this.2]
    exact decide_eq_true (hentry ⟨j, hj⟩).2
  rw [parseRow, rowBytes_length, hbytes, if_pos (show (decide (16 = 16) && true) = true by decide)]
  refine congrArg some (Vector.ext fun j hj => ?_)
  rw [Vector.getElem_ofFn, List.getD_eq_getElem?_getD, rowBytes_getElem row ⟨j, hj⟩]
  exact (hentry ⟨j, hj⟩).1

theorem ChannelConfig.parse_bytes (c : ChannelConfig) : ChannelConfig.parse c.bytes = some c := by
  simp only [ChannelConfig.bytes, ChannelConfig.parse, finOf_b8 (show 8 ≤ 256 by decide), cableOf_optByte,
    ofYesNo_yesNo]

theorem ProfileConfig.parse_bytes (f : ProfileConfig) (h : f.inRange = true) :
    ProfileConfig.parse f.bytes = some f := by
  obtain ⟨hsurge, hsettle, hrelease, _, hlow, _, hhigh, _, hout, _, _, hoff, _, hconfirm⟩ := f.inRange_iff.1 h
  simp only [ProfileConfig.bytes, ProfileConfig.parse, ofFirst_firstOf,
    b8_toNat (show f.surgeCode < 256 by omega), b8_toNat (show f.settleCode < 256 by omega),
    b8_toNat (show f.releaseCode < 256 by omega), b8_toNat (show f.bandLow < 256 by omega),
    b8_toNat (show f.bandHigh < 256 by omega), b8_toNat (show f.out < 256 by omega),
    b8_toNat (show f.offLimit < 256 by omega), b8_toNat (show f.confirmCount < 256 by omega), h, if_true]

theorem CableConfig.parse_bytes (c : CableConfig) (h : c.inRange = true) : CableConfig.parse c.bytes = some c := by
  obtain ⟨_, _, htolerance, _, hlimit⟩ := c.inRange_iff.1 h
  simp only [CableConfig.bytes, be16, be32, List.cons_append, List.nil_append, CableConfig.parse,
    CableState.ofByte_byte, CableAction.ofByte_byte, Route.ofByte_byte,
    num16_be16 (show c.tolerance < 65536 by omega), num32_be32 (show c.limit < 4294967296 by omega), h, if_true]

theorem PlanConfig.parse_bytes (p : PlanConfig) : PlanConfig.parse p.bytes = some p := by
  simp only [PlanConfig.bytes, PlanConfig.parse, finOf_b8 (show 96 ≤ 256 by decide)]

theorem StageConfig.parse_bytes (d : StageConfig) (hg : d.shape.groups ≠ 0) (hmin : d.timing.minGreen < 65536)
    (hmax : d.timing.maxGreen < 65536) (hstep : d.timing.step < 256) : StageConfig.parse d.bytes = some d := by
  simp only [StageConfig.bytes, setBytes, be16, List.cons_append, List.nil_append, StageConfig.parse, ofYesNo_yesNo,
    finOf_b8 (show 96 ≤ 256 by decide), setOf_setBytes, num16_be16 hmin, num16_be16 hmax, b8_toNat hstep, if_neg hg]

theorem ScheduleConfig.parse_bytes (e : ScheduleConfig) (h : e.inRange = true) :
    ScheduleConfig.parse e.bytes = some e := by
  obtain ⟨hhour, hminute⟩ := e.inRange_iff.1 h
  have hdays : e.days.toNat < 128 := e.days.isLt
  simp only [ScheduleConfig.bytes, ScheduleConfig.parse, EntryState.ofByte_byte, finOf_b8 (show 8 ≤ 256 by decide),
    Dimming.ofByte_byte, b8_toNat (show e.days.toNat < 256 by omega), b8_toNat (show e.hour < 256 by omega),
    b8_toNat (show e.minute < 256 by omega), BitVec.ofNat_toNat, BitVec.setWidth_eq, h, hdays, decide_true,
    Bool.and_self, if_true]

theorem DetectorConfig.parse_bytes (d : DetectorConfig) (h : d.inRange = true) :
    DetectorConfig.parse d.bytes = some d := by
  have hlimit := d.inRange_iff.1 h
  simp only [DetectorConfig.bytes, DetectorConfig.parse, ofYesNo_yesNo, b8_toNat (show d.stuckLimit < 256 by omega), h,
    if_true]

theorem JunctionConfig.parse_bytes (j : JunctionConfig) (h : j.startRed < 256) :
    JunctionConfig.parse j.bytes = some j := by
  simp only [JunctionConfig.bytes, JunctionConfig.parse, ofFirst_firstOf, Frequency.ofByte_byte, b8_toNat h]

theorem TimeOfDay.parse_bytes (t : TimeOfDay) (h : t.inRange = true) : TimeOfDay.parse t.bytes = some t := by
  obtain ⟨_, hday, hhour, hminute, hsecond, htenth⟩ := t.inRange_iff.1 h
  simp only [TimeOfDay.bytes, TimeOfDay.parse, b8_toNat (show t.day < 256 by omega),
    b8_toNat (show t.hour < 256 by omega), b8_toNat (show t.minute < 256 by omega),
    b8_toNat (show t.second < 256 by omega), b8_toNat (show t.tenth < 256 by omega), h, if_true]

/-- The byte of a CONFLICT entry is its intergreen, 0 standing for NONE (R188). -/
theorem entryByte_eq (x : Option Nat) : entryByte x = BitVec.ofNat 8 (x.getD 0) := by cases x <;> rfl

/-- Settles O10: each written part is read back by its own lemma, and stands byte by byte as its definition has it. -/
theorem writtenPartsReadBack : Obligations.WrittenPartsReadBack := by
  unfold Obligations.WrittenPartsReadBack
  refine ⟨⟨GroupConfig.parse_bytes, parseRow_rowBytes, ChannelConfig.parse_bytes, ProfileConfig.parse_bytes,
      CableConfig.parse_bytes, PlanConfig.parse_bytes, StageConfig.parse_bytes, ScheduleConfig.parse_bytes,
      DetectorConfig.parse_bytes, JunctionConfig.parse_bytes, TimeOfDay.parse_bytes⟩,
    ⟨fun _ => ⟨rfl, rfl⟩, rfl, rfl, rfl, rfl, rfl, rfl, rfl, rfl, rfl, fun _ _ => ⟨rfl, rfl⟩⟩,
    fun _ => rfl, fun row j => ⟨rowBytes_length row, ?_⟩, fun _ => rfl, fun _ => rfl, fun _ => rfl, fun _ => rfl,
    fun _ => rfl, fun _ => rfl, fun _ => rfl, fun _ => rfl, fun _ => rfl⟩
  rw [rowBytes_getElem, entryByte_eq]

end Sys2Proof.Machine
end

section
/-! What READ and PROBE answer, and the layouts of the records (R98, R188). -/

namespace Sys2Proof.Machine

/-! ## A record by its name -/

theorem Table.ofCode_code (t : Table) : Table.ofCode t.code = some t := by cases t <;> rfl

theorem State.recordRev_group (s : State) (g : Fin 16) : s.recordRev (nameOf .group g.val) = s.groups[g].rev := by
  simp only [State.recordRev, nameOf, indexOf_val]; rfl

theorem State.recordRev_conflict (s : State) (i : Fin 16) :
    s.recordRev (nameOf .conflict i.val) = s.conflicts[i].rev := by
  simp only [State.recordRev, nameOf, indexOf_val]; rfl

theorem State.recordRev_channel (s : State) (c : Fin 64) :
    s.recordRev (nameOf .channel c.val) = s.channels[c].rev := by
  simp only [State.recordRev, nameOf, indexOf_val]; rfl

theorem State.recordRev_profile (s : State) (f : Fin 8) :
    s.recordRev (nameOf .profile f.val) = s.profiles[f].rev := by
  simp only [State.recordRev, nameOf, indexOf_val]; rfl

theorem State.layout_group (s : State) (g : Fin 16) : s.layout (nameOf .group g.val) = s.groups[g].layout := by
  simp only [State.layout, nameOf, indexOf_val]; rfl

theorem State.layout_conflict (s : State) (i : Fin 16) :
    s.layout (nameOf .conflict i.val) = s.conflicts[i].layout := by
  simp only [State.layout, nameOf, indexOf_val]; rfl

theorem State.layout_channel (s : State) (c : Fin 64) :
    s.layout (nameOf .channel c.val) = s.channels[c].layout := by
  simp only [State.layout, nameOf, indexOf_val]; rfl

theorem State.layout_profile (s : State) (f : Fin 8) :
    s.layout (nameOf .profile f.val) = s.profiles[f].layout := by
  simp only [State.layout, nameOf, indexOf_val]; rfl

theorem State.layout_cable (s : State) (k : Fin 16) :
    s.layout (nameOf .cable k.val) = Cable.layout k s.cables[k] (s.bridge.entryOf k) := by
  simp only [State.layout, nameOf, indexOf_val]; rfl

theorem State.layout_plan (s : State) (p : Fin 8) : s.layout (nameOf .plan p.val) = s.plans[p].layout := by
  simp only [State.layout, nameOf, indexOf_val]; rfl

theorem State.layout_stage (s : State) (d : Fin 96) : s.layout (nameOf .stage d.val) = s.stages[d].layout := by
  simp only [State.layout, nameOf, indexOf_val]; rfl

theorem State.layout_schedule (s : State) (e : Fin 24) :
    s.layout (nameOf .schedule e.val) = s.schedule[e].layout := by
  simp only [State.layout, nameOf, indexOf_val]; rfl

theorem State.layout_detector (s : State) (d : Fin 16) :
    s.layout (nameOf .detector d.val) = s.detectors[d].layout := by
  simp only [State.layout, nameOf, indexOf_val]; rfl

/-! ## READ and PROBE -/

theorem State.readReply_named (s : State) (c : Call) (t : Table) (i : Nat) (hi : i < t.capacity)
    (hn : c.header.names t i) : s.readReply c [] = s.returns c .ok (nameOf t i) := by
  obtain ⟨ht, rfl⟩ := hn
  simp only [State.readReply, ht, Table.ofCode_code, if_pos hi, State.noPayload, if_true]

theorem exec_read_ready (s : State) (h : Header) (hr : s.ready) (t : Table) (i : Nat) (hi : i < t.capacity)
    (hn : h.names t i) : exec (.read h []) s = .next ((s.shiftOut h.clocked).returning h 1 .ok (nameOf t i)) := by
  change Host.Outcome.next (s.runFrame _ _ _) = _
  rw [State.runFrame_ready _ _ _ _ hr, State.readReply_named _ _ t i hi hn]
  rfl

theorem exec_probe_ready (s : State) (h : Header) (hr : s.ready) (c : Fin 64) (hn : h.names .channel c.val) :
    exec (.probe h []) s =
      .next ((s.shiftOut h.clocked).answering h 29 .ok s.channels[c].rev (s.probeLayout c)) := by
  change Host.Outcome.next (s.onRecord _ _ _ _ _ _ _) = _
  rw [State.onRecord_taken s 29 h .channel c false _ hr hn (fun hf => nomatch hf), State.recordRev_channel,
    State.probeLayout_shiftOut]
  rfl

/-! ## The layouts, byte by byte -/

theorem Group.layout_eq (g : Group) : g.layout =
    g.cfg.bytes ++ [g.aspect.byte, BitVec.ofNat 8 (g.isolatedCable.toNat + 2 * g.redOut.toNat)] ++
      be16 g.stateTimer ++ [BitVec.ofNat 8 g.sinceGreen] := rfl

theorem Channel.layout_eq (c : Channel) : c.layout =
    c.cfg.bytes ++
      [kindByte c.verdict, yesNo c.learnFailed, firstOf c.command, c.phase.byte, BitVec.ofNat 8 c.remaining] ++
      be16 c.lastReading.mA ++
      [yesNo c.lastReading.saturated, yesNo c.seenLit, BitVec.ofNat 8 c.badStreak, kindByte c.worst] ++
      c.bright.bytes ++ (match c.dim with
        | none => [0]
        | some p => 1 :: p.bytes) := rfl

/-- The four resistance bytes of a READ of CABLE k (log entry 9). -/
def resistanceBytes (k : Fin 16) : Option InsulationResult → List Byte
  | none => be32 (Config.absentResistance k.val).toNat
  | some r => be32 r.kOhm

theorem Cable.layout_eq (k : Fin 16) (c : Cable) (e : Option QueueEntry) : Cable.layout k c e =
    c.config.bytes ++
      [BitVec.ofNat 8 (c.faults.balance.toNat + 2 * c.faults.openReturn.toNat + 4 * c.faults.insulation.toNat),
        yesNo c.suspect, c.status.byte,
        (match c.result with
          | none => 0
          | some r => r.mark.byte)] ++
      resistanceBytes k c.result ++ be16 c.lastResidual.mA ++ [yesNo c.lastResidual.saturated] ++
      be16 c.lastReturn.mA ++ [yesNo c.lastReturn.saturated] ++
      [BitVec.ofNat 8 c.balanceStreak, BitVec.ofNat 8 c.openStreak] ++
      (match e with
        | none => [0]
        | some e =>
          [1, e.cls.byte,
            BitVec.ofNat 8 (e.origins.startup.toNat + 2 * e.origins.retest.toNat + 4 * e.origins.host.toNat)] ++
          be32 (e.override.getD 0) ++ be16 e.waiting ++ be16 e.notBefore ++ [yesNo e.underTest]) := by
  cases hr : c.result <;> cases e <;> simp only [Cable.layout, hr] <;> rfl

theorem Channel.dimActive_eq (c : Channel) (d : Dimming) :
    c.dimActive d = decide (d = .dim ∧ c.cfg.dimmable = true ∧ c.dim.isSome = true) := by
  rw [Bool.eq_iff_iff, decide_eq_true_eq, Channel.dimActive, Bool.and_eq_true, Bool.and_eq_true, beq_iff_eq, and_assoc]

theorem probePart_eq (f : ProfileConfig) (p : Part) (b : Nat) (hb : b = p.baseline / 16) : probePart f p =
    if p.learned = true then
      be16 b ++ be16 (b * f.out / 100) ++ be16 (b * (100 - f.bandLow) / 100) ++ be16 (b * (100 + f.bandHigh) / 100)
    else [BitVec.ofNat 8 p.learnCount] := by
  subst hb
  rfl

/-- The probe payload of a channel whose active part is `p` (R83, R98). -/
theorem State.probeLayout_eq (s : State) (c : Fin 64) (isDim : Bool) (p : Part)
    (hdim : isDim = s.channels[c].dimActive s.sched.dimState)
    (hp : p = if isDim = true then s.channels[c].dim.getD s.channels[c].bright else s.channels[c].bright) :
    s.probeLayout c =
      [firstOf s.channels[c].command, s.channels[c].phase.byte, BitVec.ofNat 8 s.channels[c].remaining] ++
        be16 s.channels[c].lastReading.mA ++
        [yesNo s.channels[c].lastReading.saturated, yesNo s.channels[c].seenLit,
          BitVec.ofNat 8 s.channels[c].badStreak, kindByte s.channels[c].worst,
          (if isDim = true then 1 else 0), yesNo p.learned] ++
        probePart (s.profileOf c) p := by
  subst hdim
  subst hp
  rfl

/-- Settles O9: the two answers, the byte of each named value, and each layout by its own lemma. -/
theorem readAndProbeReturnRecords : Obligations.ReadAndProbeReturnRecords := by
  unfold Obligations.ReadAndProbeReturnRecords
  refine ⟨fun s h hr => ⟨exec_read_ready s h hr, exec_probe_ready s h hr⟩,
    ⟨rfl, rfl, rfl, rfl, rfl, rfl, rfl, rfl, rfl, rfl, rfl, rfl, rfl, rfl, rfl⟩, fun s => ⟨fun g => ?_,
      s.layout_conflict, fun c => ⟨Part.bytes, fun _ => rfl, ?_⟩, s.layout_profile, fun k => ?_, s.layout_plan,
      s.layout_stage, s.layout_schedule, s.layout_detector, rfl, fun c isDim p f b hdim hp hf hb => ?_⟩⟩
  case refine_1 => rw [s.layout_group, Group.layout_eq]
  case refine_2 => exact (s.layout_channel c).trans (Channel.layout_eq _)
  case refine_3 =>
    refine ⟨resistanceBytes k s.cables[k].result, ?_, fun r hr => by rw [hr]; rfl,
      (s.layout_cable k).trans (Cable.layout_eq k _ _)⟩
    cases s.cables[k].result <;> rfl
  case refine_4 =>
    rw [s.probeLayout_eq c isDim p (by rw [hdim, Channel.dimActive_eq]) hp, probePart_eq _ p b hb, hf]
    rfl

end Sys2Proof.Machine
end

section
/-! Maintenance authority and the junction mode (R182 steps 4 and 5, R184). -/

namespace Sys2Proof.Machine

/-- The statuses a command that needs maintenance authority can answer with MKEY not active (R182, R184). -/
def Status.lockedOut (st : Status) : Prop := st = .busy ∨ st = .noTable ∨ st = .noRecord ∨ st = .authority

/-! ## The gate -/

theorem State.gated_locked (s : State) (c : Call) (named : Option RecordName) (modes : Mode → Bool) (work : Reply)
    (hk : s.link.mkey = false) : s.gated c named true modes work = s.refuse c named .authority := by
  simp only [State.gated, hk, Bool.not_false, Bool.and_self, if_true]

theorem State.gated_wrongMode (s : State) (c : Call) (named : Option RecordName) (maintenance : Bool)
    (modes : Mode → Bool) (work : Reply) (hk : s.link.mkey = true) (hm : modes s.sup.mode = false) :
    s.gated c named maintenance modes work = s.refuse c named .mode := by
  simp only [State.gated, hk, Bool.not_true, Bool.and_false, Bool.false_eq_true, if_false, hm]

/-- With the key turned back, a gated command on a record is refused at step 3 or at step 4 (R182). -/
theorem State.forRecord_locked (s : State) (c : Call) (t : Table) (n : Nat) (modes : Mode → Bool)
    (work : Fin n → Reply) (hk : s.link.mkey = false) :
    ∃ st named, s.forRecord c t n (fun i => s.gated c (some (nameOf t i.val)) true modes (work i)) =
      s.refuse c named st ∧ st.lockedOut := by
  unfold State.forRecord
  split
  · split
    · exact ⟨_, _, rfl, .inr (.inr (.inl rfl))⟩
    · exact ⟨_, _, s.gated_locked _ _ _ _ hk, .inr (.inr (.inr rfl))⟩
  · exact ⟨_, _, rfl, .inr (.inl rfl)⟩

/-! ## Refused frames -/

theorem State.namedRev_shiftOut (s : State) (n : Nat) (named : Option RecordName) :
    (s.shiftOut n).namedRev named = s.namedRev named := by
  cases named with
  | none => rfl
  | some r => exact s.recordRev_shiftOut n r

/-- A frame whose work refuses leaves the refusal in the slot. -/
theorem State.runFrame_refused (s : State) (c : Call) (named refused : Option RecordName) (work : State → Reply)
    (st : Status) (hr : s.ready)
    (hw : work (s.shiftOut c.header.clocked) = (s.shiftOut c.header.clocked).refuse c refused st) :
    s.runFrame c named work = s.refusing c.header c.code st (s.namedRev refused) := by
  rw [State.runFrame_ready _ _ _ _ hr, hw, ← s.namedRev_shiftOut c.header.clocked refused]
  rfl

/-- A frame whose work can only refuse with the key turned back: with a command in flight it is refused BUSY. -/
theorem State.runFrame_locked (s : State) (c : Call) (named : Option RecordName) (work : State → Reply)
    (hp : s.base.mainPower = true) (hk : s.link.mkey = false)
    (hw : ∀ u : State, u.link.mkey = false → ∃ st refused, work u = u.refuse c refused st ∧ st.lockedOut) :
    ∃ st rev, s.runFrame c named work = s.refusing c.header c.code st rev ∧ st.lockedOut := by
  by_cases hf : s.link.inFlight = none
  · obtain ⟨st, refused, hwork, hst⟩ := hw (s.shiftOut c.header.clocked) hk
    exact ⟨st, _, s.runFrame_refused c named refused work st ⟨hp, hf⟩ hwork, hst⟩
  · exact ⟨.busy, _, s.runFrame_busy c named work hp hf, .inl rfl⟩

section Locked

variable (s : State) (code : Byte) (h : Header) (p : List Byte) (t : Table) (n : Nat) (modes : Mode → Bool)

theorem State.write_locked (work : State → Fin n → Call → Reply) (hp : s.base.mainPower = true)
    (hk : s.link.mkey = false) :
    ∃ st rev, s.write h t n true modes work = s.refusing h 2 st rev ∧ st.lockedOut :=
  s.runFrame_locked { code := 2, header := h } _ _ hp hk fun u hu => u.forRecord_locked _ t n modes _ hu

theorem State.onRecord_locked (work : State → Fin n → Call → Reply) (hp : s.base.mainPower = true)
    (hk : s.link.mkey = false) :
    ∃ st rev, s.onRecord code h p t n true work = s.refusing h code st rev ∧ st.lockedOut :=
  s.runFrame_locked { code := code, header := h } _ _ hp hk fun u hu => u.forRecord_locked _ t n Mode.every _ hu

theorem State.onJunction_locked (work : State → Call → Reply) (hp : s.base.mainPower = true)
    (hk : s.link.mkey = false) :
    ∃ st rev, s.onJunction code h true modes work = s.refusing h code st rev ∧ st.lockedOut :=
  s.runFrame_locked { code := code, header := h } _ _ hp hk fun u hu =>
    ⟨_, _, u.gated_locked _ _ _ _ hu, .inr (.inr (.inr rfl))⟩

/-! ## A record named, nothing in flight -/

theorem State.write_authority (work : State → Fin n → Call → Reply) (i : Nat) (hr : s.ready)
    (hk : s.link.mkey = false) (hn : h.names t i) (hi : i < n) :
    s.write h t n true modes work = s.refusing h 2 .authority (s.recordRev (nameOf t i)) :=
  s.runFrame_refused { code := 2, header := h } _ (some (nameOf t i)) _ _ hr
    ((State.forRecord_named _ { code := 2, header := h } t ⟨i, hi⟩ _ hn).trans
      ((s.shiftOut h.clocked).gated_locked _ _ _ _ hk))

theorem State.onRecord_authority (work : State → Fin n → Call → Reply) (i : Nat) (hr : s.ready)
    (hk : s.link.mkey = false) (hn : h.names t i) (hi : i < n) :
    s.onRecord code h p t n true work = s.refusing h code .authority (s.recordRev (nameOf t i)) :=
  s.runFrame_refused { code := code, header := h } _ (some (nameOf t i)) _ _ hr
    ((State.forRecord_named _ { code := code, header := h } t ⟨i, hi⟩ _ hn).trans
      ((s.shiftOut h.clocked).gated_locked _ _ _ _ hk))

theorem State.onJunction_authority (work : State → Call → Reply) (hr : s.ready) (hk : s.link.mkey = false) :
    s.onJunction code h true modes work = s.refusing h code .authority 0 :=
  s.runFrame_refused { code := code, header := h } none none _ _ hr
    ((s.shiftOut h.clocked).gated_locked _ _ _ _ hk)

theorem State.write_wrongMode (work : State → Fin n → Call → Reply) (i : Nat) (hr : s.ready)
    (hk : s.link.mkey = true) (hm : modes s.sup.mode = false) (hn : h.names t i) (hi : i < n) :
    s.write h t n true modes work = s.refusing h 2 .mode (s.recordRev (nameOf t i)) :=
  s.runFrame_refused { code := 2, header := h } _ (some (nameOf t i)) _ _ hr
    ((State.forRecord_named _ { code := 2, header := h } t ⟨i, hi⟩ _ hn).trans
      ((s.shiftOut h.clocked).gated_wrongMode _ _ _ _ _ hk hm))

end Locked

theorem Mode.commissioning_iff (m : Mode) : m.commissioning = true ↔ m = .unconfigured ∨ m = .standby := by
  cases m <;> simp [Mode.commissioning]

theorem Mode.channelWrite_iff (m : Mode) : m.channelWrite = true ↔ m = .unconfigured ∨ m = .standby ∨ m = .dark := by
  rw [Mode.channelWrite, Bool.or_eq_true, Mode.commissioning_iff, beq_iff_eq, or_assoc]

/-- Whatever a maintenance command is, with the key turned back it ends in one of the four refusals. -/
theorem exec_locked (i : Instr) (f : Frame) (s : State) (hi : i.maintenance = true) (hf : frameOf i = some f)
    (hp : s.base.mainPower = true) (hk : s.link.mkey = false) :
    ∃ st rev, exec i s = .next (s.refusing f.header f.code st rev) ∧ st.lockedOut := by
  have answer {a : State} {h : Header} {code : Byte}
      (hx : ∃ st rev, a = s.refusing h code st rev ∧ st.lockedOut) :
      ∃ st rev, (Host.Outcome.next a : Host.Outcome State Fault Refusal) = .next (s.refusing h code st rev) ∧
        st.lockedOut := by
    obtain ⟨st, rev, ha, hst⟩ := hx
    exact ⟨st, rev, congrArg _ ha, hst⟩
  cases i <;> cases hi <;> cases hf
  case writeGroup | writeConflict | writeChannel | writeProfile | writeCable | writeJunction =>
    exact answer (s.write_locked _ _ _ _ _ hp hk)
  case relearn | clearFaultChannel | clearFaultCable | clearFaultJunction =>
    exact answer (s.onRecord_locked _ _ _ _ _ _ hp hk)
  case commit | stop | dark | restart =>
    exact answer (s.onJunction_locked _ _ _ _ hp hk)

/-- Settles O7: each row is one of the three shared forms of a frame, whose gate refuses. -/
theorem authorityGuard : Obligations.AuthorityGuard := by
  unfold Obligations.AuthorityGuard
  refine ⟨exec_locked, fun s h p hr hk => ?_, fun s h p i hr hk => ?_, fun s h p i hr hk hu hs => ?_⟩
  case refine_1 =>
    have refused (code : Byte) (modes : Mode → Bool) (work : State → Call → Reply) :=
      congrArg (Host.Outcome.next (φ := Fault) (ρ := Refusal)) (s.onJunction_authority code h modes work hr hk)
    exact ⟨refused _ _ _, refused _ _ _, refused _ _ _, refused _ _ _⟩
  case refine_2 =>
    have written (t : Table) (n : Nat) (modes : Mode → Bool) (work : State → Fin n → Call → Reply)
        (hn : h.names t i) (hi : i < n) :=
      congrArg (Host.Outcome.next (φ := Fault) (ρ := Refusal)) (s.write_authority h t n modes work i hr hk hn hi)
    have cleared (code : Byte) (t : Table) (n : Nat) (work : State → Fin n → Call → Reply)
        (hn : h.names t i) (hi : i < n) :=
      congrArg (Host.Outcome.next (φ := Fault) (ρ := Refusal)) (s.onRecord_authority code h p t n work i hr hk hn hi)
    exact ⟨written _ _ _ _, written _ _ _ _,
      fun hn hi => ⟨written _ _ _ _ hn hi, cleared _ _ _ _ hn hi, cleared _ _ _ _ hn hi⟩, written _ _ _ _,
      fun hn hi => ⟨written _ _ _ _ hn hi, cleared _ _ _ _ hn hi⟩,
      fun hn hi => ⟨written _ _ _ _ hn hi, cleared _ _ _ _ hn hi⟩⟩
  case refine_3 =>
    have wrongMode (t : Table) (n : Nat) (modes : Mode → Bool) (work : State → Fin n → Call → Reply)
        (hm : modes s.sup.mode = false) (hn : h.names t i) (hi : i < n) :=
      congrArg (Host.Outcome.next (φ := Fault) (ρ := Refusal)) (s.write_wrongMode h t n modes work i hr hk hm hn hi)
    have hm : s.sup.mode.commissioning = false :=
      Bool.eq_false_iff.2 fun hm => (s.sup.mode.commissioning_iff.1 hm).elim hu hs
    have hchannel (hd : s.sup.mode ≠ .dark) : s.sup.mode.channelWrite = false :=
      Bool.eq_false_iff.2 fun hm => (s.sup.mode.channelWrite_iff.1 hm).elim hu (·.elim hs hd)
    exact ⟨wrongMode _ _ _ _ hm, wrongMode _ _ _ _ hm, fun hn hi hd => wrongMode _ _ _ _ (hchannel hd) hn hi,
      wrongMode _ _ _ _ hm, wrongMode _ _ _ _ hm, wrongMode _ _ _ _ hm⟩

end Sys2Proof.Machine
end

section
/-! The chain check (R40): what its walk has passed at each position, where it closes and where it fails. -/

namespace Sys2Proof.Machine

/-! ## Checks 1 to 4 at one descriptor -/

theorem State.namesUnused_iff (s : State) (d : Fin 96) : s.namesUnused d = true ↔
    ∃ g : Fin 16, has s.stages[d].shape.groups g = true ∧ s.groups[g].cfg.kind = .unused := by
  simp only [State.namesUnused, State.names, allGroups, List.any_eq_true, List.mem_finRange, true_and,
    Bool.and_eq_true, beq_iff_eq]

theorem State.namesConflict_iff (s : State) (d : Fin 96) : s.namesConflict d = true ↔
    ∃ g j : Fin 16, has s.stages[d].shape.groups g = true ∧ has s.stages[d].shape.groups j = true ∧
      s.conflict g j = true := by
  simp only [State.namesConflict, State.names, allGroups, List.any_eq_true, List.mem_finRange, true_and,
    Bool.and_eq_true, and_assoc]

/-- What checks 1 to 4 say at a descriptor: it passes them all, or fails first the one reported. -/
def State.stageVerdict (s : State) (p : Fin 8) (d : Fin 96) : Option Check → Prop
  | none => s.stagePasses p d
  | some k => s.stageFailsAt p d k

theorem State.descriptorFails_sound (s : State) (p : Fin 8) (d : Fin 96) :
    s.stageVerdict p d (s.descriptorFails p d) := by
  have howner : (s.stages[d].owner.isSome && s.stages[d].owner != some p) = true ↔
      s.stages[d].owner ≠ none ∧ s.stages[d].owner ≠ some p := by
    rw [Bool.and_eq_true, bne_iff_ne, Option.isSome_iff_ne_none]
  unfold State.descriptorFails
  by_cases hdef : s.stages[d].isDefined = true
  · rw [hdef, Bool.not_true, if_neg Bool.false_ne_true]
    by_cases hown : s.stages[d].owner ≠ none ∧ s.stages[d].owner ≠ some p
    · rw [if_pos (howner.2 hown)]
      exact ⟨hdef, hown⟩
    · have hfree : s.stages[d].owner = none ∨ s.stages[d].owner = some p := by
        simpa only [ne_eq, not_and_or, not_not] using hown
      rw [if_neg (mt howner.1 hown)]
      by_cases hu : s.namesUnused d = true
      · rw [if_pos hu]
        exact ⟨hdef, hfree, s.namesUnused_iff d |>.1 hu⟩
      · have hused (g : Fin 16) (hg : has s.stages[d].shape.groups g = true) : s.groups[g].cfg.kind ≠ .unused :=
          fun hk => hu (s.namesUnused_iff d |>.2 ⟨g, hg, hk⟩)
        rw [if_neg hu]
        by_cases hc : s.namesConflict d = true
        · rw [if_pos hc]
          exact ⟨hdef, hfree, hused, s.namesConflict_iff d |>.1 hc⟩
        · rw [if_neg hc]
          exact ⟨hdef, hfree, hused, fun g j hg hj =>
            Bool.eq_false_iff.2 fun hgj => hc (s.namesConflict_iff d |>.2 ⟨g, j, hg, hj, hgj⟩)⟩
  · rw [Bool.eq_false_iff.2 hdef, Bool.not_false, if_pos rfl]
    exact Bool.eq_false_iff.2 hdef

theorem State.descriptorFails_of_passes (s : State) (p : Fin 8) (d : Fin 96) (h : s.stagePasses p d) :
    s.descriptorFails p d = none := by
  obtain ⟨hdef, hfree, hused, happart⟩ := h
  have hsound := s.descriptorFails_sound p d
  cases hf : s.descriptorFails p d with
  | none => rfl
  | some k =>
    rw [hf] at hsound
    cases k
    case notDefined => exact absurd (hdef.symm.trans hsound) Bool.true_eq_false.mp
    case ownedElsewhere => exact absurd hfree (not_or.2 hsound.2)
    case unusedGroup =>
      obtain ⟨_, _, g, hg, hk⟩ := hsound
      exact absurd hk (hused g hg)
    case conflictingGroups =>
      obtain ⟨_, _, _, g, j, hg, hj, hgj⟩ := hsound
      exact absurd (hgj.symm.trans (happart g j hg hj)) Bool.true_eq_false.mp
    all_goals exact hsound.elim

/-! ## The walk -/

/-- The descriptor a walk comes to after those it has passed. -/
def State.reached (s : State) (p : Fin 8) (passed : List (Fin 96)) : Fin 96 :=
  match passed.getLast? with
  | none => s.plans[p].entry
  | some e => s.stages[e].shape.next

/-- The walk stands at a descriptor it has come to and has not passed before. -/
structure State.WalkingAt (s : State) (p : Fin 8) (passed : List (Fin 96)) (d : Fin 96) : Prop where
  walked : s.walked p passed
  fresh : d ∉ passed
  reached : d = s.reached p passed

theorem State.walkingAt_entry (s : State) (p : Fin 8) : s.WalkingAt p [] s.plans[p].entry :=
  ⟨⟨List.nodup_nil, fun _ h => (nomatch h), fun _ _ _ h => (nomatch h), fun _ h => (nomatch h)⟩,
    List.not_mem_nil, rfl⟩

/-- A descriptor that passes checks 1 to 4 joins those passed. -/
theorem State.WalkingAt.walked_append {s : State} {p : Fin 8} {passed : List (Fin 96)} {d : Fin 96}
    (w : s.WalkingAt p passed d) (hd : s.stagePasses p d) : s.walked p (passed ++ [d]) := by
  obtain ⟨⟨hnodup, hhead, hlinks, hpasses⟩, hfresh, hreached⟩ := w
  refine ⟨?nodup, ?head, fun k a b ha hb => ?link, ?passes⟩
  case nodup => exact hnodup.append (List.nodup_singleton d) (List.disjoint_singleton.2 hfresh)
  case head =>
    intro a ha
    cases passed with
    | nil => exact (Option.some.inj ha).symm.trans hreached
    | cons x xs => exact hhead a ha
  case link =>
    rcases Nat.lt_trichotomy (k + 1) passed.length with hk | hk | hk
    · rw [List.getElem?_append_left (by omega)] at ha hb
      exact hlinks k a b ha hb
    · have hlast : passed.getLast? = some a := by
        rw [List.getLast?_eq_getElem?, ← hk, Nat.add_sub_cancel]
        rwa [List.getElem?_append_left (by omega)] at ha
      rw [List.getElem?_append_right (by omega), hk, Nat.sub_self] at hb
      rw [State.reached, hlast] at hreached
      exact hreached.symm.trans (Option.some.inj hb)
    · rw [List.getElem?_eq_none (by simp; omega)] at hb
      cases hb
  case passes =>
    intro a ha
    rcases List.mem_append.1 ha with hmem | hmem
    · exact hpasses a hmem
    · rw [List.mem_singleton.1 hmem]
      exact hd

/-- A failure that a walk meets: one of checks 1 to 4 at the descriptor it comes to, or the end of the walk at the last
descriptor passed (R40). -/
def State.walkFails (s : State) (p : Fin 8) (passed : List (Fin 96)) (d : Fin 96) (k : Check) : Prop :=
  (passed.length < 12 ∧ d ∉ passed ∧ d = s.reached p passed ∧ s.stageFailsAt p d k) ∨
  (passed.getLast? = some d ∧
    ((k = .tooShort ∧ passed.length = 1 ∧ s.stages[d].shape.next = s.plans[p].entry) ∨
      (k = .repeated ∧ s.stages[d].shape.next ≠ s.plans[p].entry ∧ s.stages[d].shape.next ∈ passed) ∨
      (k = .tooLong ∧ passed.length = 12 ∧ s.stages[d].shape.next ∉ passed)))

/-- What a walk finds is so. -/
def State.walkSound (s : State) (p : Fin 8) : WalkResult → Prop
  | .closed n passed => s.closes p passed ∧ n = passed.length
  | .failed d k => ∃ passed, s.walked p passed ∧ s.walkFails p passed d k

theorem State.checkWalk_sound (s : State) (p : Fin 8) (fuel : Nat) (passed : List (Fin 96)) (d : Fin 96)
    (hfuel : fuel + 1 + passed.length = 12) (w : s.WalkingAt p passed d) :
    s.walkSound p (s.checkWalk p s.plans[p].entry (fuel + 1) (passed.length + 1) passed d) := by
  induction fuel using Nat.strong_induction_on generalizing passed d with
  | _ fuel ih =>
    have hverdict := s.descriptorFails_sound p d
    have hlen : (passed ++ [d]).length = passed.length + 1 := List.length_append
    rw [State.checkWalk]
    cases hc : s.descriptorFails p d with
    | some k =>
      rw [hc] at hverdict
      exact ⟨passed, w.walked, .inl ⟨by omega, w.fresh, w.reached, hverdict⟩⟩
    | none =>
      rw [hc] at hverdict
      have hwalked := w.walked_append hverdict
      have hlast : (passed ++ [d]).getLast? = some d := List.getLast?_concat
      by_cases hentry : s.stages[d].shape.next = s.plans[p].entry
      · simp only [hentry, if_true]
        by_cases hone : passed.length + 1 = 1
        · rw [if_pos hone]
          exact ⟨_, hwalked, .inr ⟨hlast, .inl ⟨rfl, hlen.trans hone, hentry⟩⟩⟩
        · rw [if_neg hone]
          refine ⟨⟨hwalked, by omega, by omega, fun a ha => ?_⟩, hlen.symm⟩
          rw [← Option.some.inj (hlast.symm.trans ha)]
          exact hentry
      · simp only [if_neg hentry]
        by_cases hmem : s.stages[d].shape.next ∈ passed ++ [d]
        · rw [if_pos (List.contains_iff_mem.2 hmem)]
          exact ⟨_, hwalked, .inr ⟨hlast, .inr (.inl ⟨rfl, hentry, hmem⟩)⟩⟩
        · rw [if_neg (mt List.contains_iff_mem.1 hmem)]
          cases fuel with
          | zero => exact ⟨_, hwalked, .inr ⟨hlast, .inr (.inr ⟨rfl, by omega, hmem⟩)⟩⟩
          | succ m =>
            rw [if_neg (Nat.succ_ne_zero m), ← hlen]
            refine ih m (Nat.lt_succ_self m) _ _ (by omega) ⟨hwalked, hmem, ?_⟩
            rw [State.reached, hlast]

/-- A chain that closes is found by the walk, from any position on it. -/
theorem State.checkWalk_of_closes (s : State) (p : Fin 8) (fuel : Nat) (passed : List (Fin 96)) (d : Fin 96)
    (rest : List (Fin 96)) (hfuel : fuel + passed.length = 12) (hc : s.closes p (passed ++ d :: rest)) :
    s.checkWalk p s.plans[p].entry fuel (passed.length + 1) passed d =
      .closed (passed ++ d :: rest).length (passed ++ d :: rest) := by
  induction rest generalizing fuel passed d with
  | nil =>
    obtain ⟨⟨_, _, _, hpasses⟩, hmin, hmax, hback⟩ := hc
    have hlen : (passed ++ [d]).length = passed.length + 1 := List.length_append
    obtain ⟨fuel, rfl⟩ : ∃ m, fuel = m + 1 := ⟨fuel - 1, by omega⟩
    have hone : passed.length + 1 ≠ 1 := by omega
    simp only [State.checkWalk, s.descriptorFails_of_passes p d (hpasses d List.mem_concat_self),
      hback d List.getLast?_concat, if_true, if_neg hone, hlen]
  | cons e rest ih =>
    have hassoc : passed ++ d :: e :: rest = (passed ++ [d]) ++ e :: rest := by simp
    have hlen : (passed ++ d :: e :: rest).length = passed.length + 2 + rest.length := by simp; omega
    have hc' := hc
    obtain ⟨⟨hnodup, hhead, hlinks, hpasses⟩, _, hmax, _⟩ := hc
    obtain ⟨fuel, rfl⟩ : ∃ m, fuel = m + 1 := ⟨fuel - 1, by omega⟩
    have hnext : s.stages[d].shape.next = e := hlinks passed.length d e (by simp) (by simp)
    have hnew : e ∉ passed ++ [d] := by
      rw [hassoc] at hnodup
      exact fun he => (List.disjoint_of_nodup_append hnodup) he List.mem_cons_self
    have hentry : s.plans[p].entry ∈ passed ++ [d] := by
      cases passed with
      | nil => exact List.mem_singleton.2 (hhead d rfl).symm
      | cons x xs => exact hhead x rfl ▸ List.mem_cons_self
    have hne : e ≠ s.plans[p].entry := fun h => hnew (h ▸ hentry)
    have hfuel0 : fuel ≠ 0 := by omega
    simp only [State.checkWalk, s.descriptorFails_of_passes p d (hpasses d (by simp)), hnext, if_neg hne,
      if_neg (mt List.contains_iff_mem.1 hnew), if_neg hfuel0]
    rw [hassoc] at hc' ⊢
    exact ih fuel (passed ++ [d]) e (by simp; omega) hc' ▸ by simp

/-! ## The chain check -/

/-- The walk of the chain check, from position 1 at the entry descriptor. -/
def State.wholeWalk (s : State) (p : Fin 8) : WalkResult :=
  s.checkWalk p s.plans[p].entry 12 1 [] s.plans[p].entry

theorem State.wholeWalk_sound (s : State) (p : Fin 8) : s.walkSound p (s.wholeWalk p) :=
  s.checkWalk_sound p 11 [] _ rfl (s.walkingAt_entry p)

theorem State.wholeWalk_of_closes (s : State) (p : Fin 8) (passed : List (Fin 96)) (hc : s.closes p passed) :
    s.wholeWalk p = .closed passed.length passed := by
  cases passed with
  | nil => exact absurd hc.2.1 (by decide)
  | cons d rest =>
    obtain rfl : d = s.plans[p].entry := hc.1.2.1 d rfl
    exact s.checkWalk_of_closes p 12 [] _ rest rfl hc

theorem State.chainCheck_of_closed (s : State) (p : Fin 8) (n : Nat) (passed : List (Fin 96))
    (hw : s.wholeWalk p = .closed n passed) : s.chainCheck p =
      if s.plans[p].changePoint ∈ passed then .closed n passed
      else .failed s.plans[p].changePoint .changePointOffChain := by
  rw [State.wholeWalk] at hw
  simp only [State.chainCheck, hw, List.contains_iff_mem]

theorem State.chainCheck_of_failed (s : State) (p : Fin 8) (d : Fin 96) (k : Check)
    (hw : s.wholeWalk p = .failed d k) : s.chainCheck p = .failed d k := by
  rw [State.wholeWalk] at hw
  simp only [State.chainCheck, hw]

theorem State.chainCheck_closed_iff (s : State) (p : Fin 8) (n : Nat) (passed : List (Fin 96)) :
    s.chainCheck p = .closed n passed ↔
      s.closes p passed ∧ n = passed.length ∧ s.plans[p].changePoint ∈ passed := by
  constructor
  · intro h
    have hsound := s.wholeWalk_sound p
    cases hw : s.wholeWalk p with
    | failed d k =>
      rw [s.chainCheck_of_failed p d k hw] at h
      cases h
    | closed m l =>
      rw [hw] at hsound
      rw [s.chainCheck_of_closed p m l hw] at h
      by_cases hmem : s.plans[p].changePoint ∈ l
      · rw [if_pos hmem] at h
        cases h
        exact ⟨hsound.1, hsound.2, hmem⟩
      · rw [if_neg hmem] at h
        cases h
  · rintro ⟨hc, rfl, hmem⟩
    rw [s.chainCheck_of_closed p _ _ (s.wholeWalk_of_closes p passed hc), if_pos hmem]

theorem State.chainCheck_failed (s : State) (p : Fin 8) (d : Fin 96) (k : Check) (h : s.chainCheck p = .failed d k) :
    ∃ passed, s.walked p passed ∧
      (s.walkFails p passed d k ∨
        (k = .changePointOffChain ∧ d = s.plans[p].changePoint ∧ s.closes p passed ∧ d ∉ passed)) := by
  have hsound := s.wholeWalk_sound p
  cases hw : s.wholeWalk p with
  | failed e c =>
    rw [s.chainCheck_of_failed p e c hw] at h
    rw [hw] at hsound
    cases h
    obtain ⟨passed, hwalked, hfails⟩ := hsound
    exact ⟨passed, hwalked, .inl hfails⟩
  | closed m l =>
    rw [s.chainCheck_of_closed p m l hw] at h
    rw [hw] at hsound
    by_cases hmem : s.plans[p].changePoint ∈ l
    · rw [if_pos hmem] at h
      cases h
    · rw [if_neg hmem] at h
      cases h
      exact ⟨l, hsound.1.1, .inr ⟨rfl, rfl, hsound.1, hmem⟩⟩

end Sys2Proof.Machine
end

section
/-! The checks of COMMIT (R8, R12, R162, R163): each step passes exactly where its conditions hold, and a failure is that
of the lowest record or entry. -/

namespace Sys2Proof.Machine

/-! ## The lowest index of a search -/

theorem finRange_before {n : Nat} {front back : List (Fin n)} {a : Fin n} (h : List.finRange n = front ++ a :: back)
    (b : Fin n) (hb : b < a) : b ∈ front := by
  have hsorted := List.pairwise_lt_finRange n
  rw [h] at hsorted
  have hmem : b ∈ front ++ a :: back := h ▸ List.mem_finRange b
  rcases List.mem_append.1 hmem with hfront | hrest
  · exact hfront
  · rcases List.mem_cons.1 hrest with rfl | hback
    · exact absurd hb (lt_irrefl b)
    · exact absurd (List.rel_of_pairwise_cons (List.pairwise_append.1 hsorted).2.1 hback) (lt_asymm hb)

theorem finRange_findSome?_eq_some {n : Nat} {β : Type} {f : Fin n → Option β} {x : β}
    (h : (List.finRange n).findSome? f = some x) : ∃ a, f a = some x ∧ ∀ b, b < a → f b = none := by
  obtain ⟨front, a, back, hlist, ha, hfront⟩ := List.findSome?_eq_some_iff.1 h
  exact ⟨a, ha, fun b hb => hfront b (finRange_before hlist b hb)⟩

theorem finRange_findSome?_eq_none {n : Nat} {β : Type} {f : Fin n → Option β} :
    (List.finRange n).findSome? f = none ↔ ∀ a, f a = none := by
  simp only [List.findSome?_eq_none_iff, List.mem_finRange, true_implies]

theorem finRange_find?_eq_some {n : Nat} {f : Fin n → Bool} {a : Fin n} (h : (List.finRange n).find? f = some a) :
    f a = true ∧ ∀ b, b < a → f b = false := by
  obtain ⟨ha, front, back, hlist, hfront⟩ := List.find?_eq_some_iff_append.1 h
  exact ⟨ha, fun b hb => by simpa using hfront b (finRange_before hlist b hb)⟩

/-! ## Step 1: the groups -/

/-- What the conditions of R8 say of a group record. -/
def GroupConfig.verdict (g : GroupConfig) : Option Check → Prop
  | none => g.passes
  | some k => g.failsAt k ∧ ¬g.passes

theorem GroupConfig.fails_sound (g : GroupConfig) : g.verdict g.fails := by
  have hreds : ¬(g.redsRequired = 2 ∧ (!g.secondRed) = true) → g.redsRequired = 2 → g.secondRed = true := by
    simp
  unfold GroupConfig.fails
  split
  case h_1 hk => exact ⟨fun h => absurd hk h, (by rw [hk]; exact nofun), (by rw [hk]; exact nofun)⟩
  case h_2 hk =>
    have hu : g.kind ≠ .unused := by rw [hk]; exact nofun
    split
    case isTrue h =>
      have hs : g.secondRed = false := by simpa using h.2
      exact ⟨⟨hu, h.1, hs⟩, fun hp => Bool.false_ne_true (hs.symm.trans (hp.1 hu h.1))⟩
    case isFalse h =>
      split
      case isTrue hl => exact ⟨⟨hk, hreds h, hl⟩, fun hp => absurd (hp.2.2 hk) (by omega)⟩
      case isFalse hl => exact ⟨fun _ => hreds h, (by rw [hk]; exact nofun), fun _ => by omega⟩
  case h_3 hk =>
    have hu : g.kind ≠ .unused := by rw [hk]; exact nofun
    split
    case isTrue h =>
      have hs : g.secondRed = false := by simpa using h.2
      exact ⟨⟨hu, h.1, hs⟩, fun hp => Bool.false_ne_true (hs.symm.trans (hp.1 hu h.1))⟩
    case isFalse h =>
      split
      case isTrue hprep => exact ⟨⟨hk, hreds h, hprep⟩, fun hp => hprep (hp.2.1 hk)⟩
      case isFalse hprep => exact ⟨fun _ => hreds h, fun _ => not_not.1 hprep, (by rw [hk]; exact nofun)⟩

theorem GroupConfig.fails_eq_none_iff (g : GroupConfig) : g.fails = none ↔ g.passes := by
  have hsound := g.fails_sound
  cases hf : g.fails with
  | none =>
    rw [hf] at hsound
    exact ⟨fun _ => hsound, fun _ => rfl⟩
  | some k =>
    rw [hf] at hsound
    exact ⟨nofun, fun hp => absurd hp hsound.2⟩

theorem GroupConfig.failsAt_of_fails (g : GroupConfig) (k : Check) (h : g.fails = some k) : g.failsAt k := by
  have hsound := g.fails_sound
  rw [h] at hsound
  exact hsound.1

theorem State.groupFailure_eq_none_iff (s : State) :
    s.groupFailure = none ↔ ∀ g : Fin 16, s.groups[g].cfg.passes := by
  simp only [State.groupFailure, allGroups, finRange_findSome?_eq_none, Option.map_eq_none_iff,
    GroupConfig.fails_eq_none_iff]

theorem State.groupFailure_some (s : State) (x : Failure) (h : s.groupFailure = some x) :
    ∃ g : Fin 16, x.record = nameOf .group g.val ∧ x.extra = 0 ∧ s.groups[g].cfg.failsAt x.check ∧
      ∀ a : Fin 16, a < g → s.groups[a].cfg.passes := by
  obtain ⟨g, hg, hbefore⟩ := finRange_findSome?_eq_some h
  obtain ⟨k, hk, rfl⟩ := Option.map_eq_some_iff.1 hg
  exact ⟨g, rfl, rfl, GroupConfig.failsAt_of_fails _ k hk,
    fun a ha => (GroupConfig.fails_eq_none_iff _).1 (Option.map_eq_none_iff.1 (hbefore a ha))⟩

/-! ## Step 2: the conflict entries -/

/-- What the conditions of R12 say of an entry. -/
def State.entryVerdict (s : State) (i j : Fin 16) : Option Check → Prop
  | none => s.entryPasses i j
  | some k => s.entryFailsAt i j k ∧ ¬s.entryPasses i j

theorem State.entryFails_sound (s : State) (i j : Fin 16) : s.entryVerdict i j (s.entryFails i j) := by
  unfold State.entryFails
  split
  case h_1 hij =>
    split
    case isTrue hji =>
      refine ⟨.inl ⟨hij, Option.isSome_iff_ne_none.1 hji⟩, fun hp => ?_⟩
      have := hp.1
      rw [hij, hji] at this
      cases this
    case isFalse hji =>
      refine ⟨?_, fun n hn => nomatch hij.symm.trans hn⟩
      rw [hij, Bool.eq_false_iff.2 hji]
      rfl
  case h_2 n hij =>
    have hsome : s.intergreen i j ≠ none := by rw [hij]; exact nofun
    split
    case isTrue hdiag => exact ⟨⟨hsome, hdiag⟩, fun hp => (hp.2 n hij).1.1 hdiag⟩
    case isFalse hdiag =>
      split
      case isTrue hunused =>
        exact ⟨⟨hsome, hdiag, hunused⟩, fun hp => hunused.elim (hp.2 n hij).1.2.1 (hp.2 n hij).1.2.2⟩
      case isFalse hunused =>
        have hpair : s.properPair i j := ⟨hdiag, not_or.1 hunused⟩
        split
        case isTrue hji =>
          refine ⟨.inr ⟨hsome, Option.isNone_iff_eq_none.1 hji, hpair⟩, fun hp => ?_⟩
          have := hp.1
          rw [hij, Option.isNone_iff_eq_none.1 hji] at this
          cases this
        case isFalse hji =>
          have hmirror : s.intergreen j i ≠ none := mt Option.isNone_iff_eq_none.2 hji
          split
          case isTrue hleaving =>
            exact ⟨⟨n, hij, hmirror, hpair, hleaving⟩, fun hp => absurd (hp.2 n hij).2.1 (Nat.not_le.2 hleaving)⟩
          case isFalse hleaving =>
            split
            case isTrue hprep =>
              exact ⟨⟨n, hij, hmirror, hpair, Nat.not_lt.1 hleaving, hprep⟩,
                fun hp => absurd (hp.2 n hij).2.2 (Nat.not_le.2 hprep)⟩
            case isFalse hprep =>
              refine ⟨?_, fun m hm => ?_⟩
              · rw [hij, Option.isSome_iff_ne_none.2 hmirror]
                rfl
              · cases hij.symm.trans hm
                exact ⟨hpair, Nat.not_lt.1 hleaving, Nat.not_lt.1 hprep⟩

theorem State.entryFails_eq_none_iff (s : State) (i j : Fin 16) : s.entryFails i j = none ↔ s.entryPasses i j := by
  have hsound := s.entryFails_sound i j
  cases hf : s.entryFails i j with
  | none =>
    rw [hf] at hsound
    exact ⟨fun _ => hsound, fun _ => rfl⟩
  | some k =>
    rw [hf] at hsound
    exact ⟨nofun, fun hp => absurd hp hsound.2⟩

theorem State.entryFailsAt_of_entryFails (s : State) (i j : Fin 16) (k : Check) (h : s.entryFails i j = some k) :
    s.entryFailsAt i j k := by
  have hsound := s.entryFails_sound i j
  rw [h] at hsound
  exact hsound.1

theorem State.conflictFailure_eq_none_iff (s : State) :
    s.conflictFailure = none ↔ ∀ i j : Fin 16, s.entryPasses i j := by
  simp only [State.conflictFailure, allGroups, finRange_findSome?_eq_none, Option.map_eq_none_iff,
    State.entryFails_eq_none_iff]

theorem State.conflictFailure_some (s : State) (x : Failure) (h : s.conflictFailure = some x) :
    ∃ i j : Fin 16, x.record = nameOf .conflict i.val ∧ x.extra = j.val ∧ s.entryFailsAt i j x.check ∧
      ∀ a b : Fin 16, a < i ∨ (a = i ∧ b < j) → s.entryPasses a b := by
  obtain ⟨i, hi, hrows⟩ := finRange_findSome?_eq_some h
  obtain ⟨j, hj, hcolumns⟩ := finRange_findSome?_eq_some hi
  obtain ⟨k, hk, rfl⟩ := Option.map_eq_some_iff.1 hj
  refine ⟨i, j, rfl, rfl, s.entryFailsAt_of_entryFails i j k hk, fun a b hab => (s.entryFails_eq_none_iff a b).1 ?_⟩
  rcases hab with ha | ⟨rfl, hb⟩
  · exact Option.map_eq_none_iff.1 (finRange_findSome?_eq_none.1 (hrows a ha) b)
  · exact Option.map_eq_none_iff.1 (hcolumns b hb)

/-! ## Step 3: the channels -/

theorem State.cableMissing_iff (s : State) (c : Fin 64) : s.cableMissing c = true ↔ s.channelFails c := by
  rw [State.cableMissing, State.channelFails, Bool.and_eq_true]
  cases s.channels[c].cfg.cable <;> simp

theorem State.channelFailure_eq_none_iff (s : State) :
    s.channelFailure = none ↔ ∀ c : Fin 64, ¬s.channelFails c := by
  simp only [State.channelFailure, allChannels, Option.map_eq_none_iff, List.find?_eq_none, List.mem_finRange,
    true_implies, State.cableMissing_iff]

theorem State.channelFailure_some (s : State) (x : Failure) (h : s.channelFailure = some x) :
    ∃ c : Fin 64, x.record = nameOf .channel c.val ∧ x.extra = 0 ∧ x.check = .cableUnused ∧ s.channelFails c ∧
      ∀ b : Fin 64, b < c → ¬s.channelFails b := by
  obtain ⟨c, hc, rfl⟩ := Option.map_eq_some_iff.1 h
  obtain ⟨hfails, hbefore⟩ := finRange_find?_eq_some hc
  exact ⟨c, rfl, rfl, rfl, (s.cableMissing_iff c).1 hfails,
    fun b hb hb' => Bool.false_ne_true ((hbefore b hb).symm.trans ((s.cableMissing_iff b).2 hb'))⟩

/-! ## Steps 4 and 5: the plans -/

theorem State.noPlan_eq_none_iff (s : State) : s.noPlan = none ↔ ∃ p : Fin 8, s.plans[p].loaded = true := by
  simp only [State.noPlan, allPlans, ite_eq_left_iff, List.any_eq_true, List.mem_finRange, true_and, reduceCtorEq,
    imp_false, not_not]

theorem State.noPlan_some (s : State) (x : Failure) (h : s.noPlan = some x) :
    x.record = nameOf .plan 0 ∧ x.extra = 0 ∧ x.check = .noPlanLoaded ∧ ∀ p : Fin 8, s.plans[p].loaded = false := by
  have hnone (p : Fin 8) : s.plans[p].loaded = false :=
    Bool.eq_false_iff.2 fun hp => nomatch (s.noPlan_eq_none_iff.2 ⟨p, hp⟩).symm.trans h
  unfold State.noPlan at h
  split at h
  · cases h
  · cases h
    exact ⟨rfl, rfl, rfl, hnone⟩

theorem WalkResult.failure_eq_none_iff (p : Fin 8) (w : WalkResult) :
    w.failure p = none ↔ ∃ n passed, w = .closed n passed := by
  cases w <;> simp [WalkResult.failure]

/-- A LOADED plan has no failure exactly where its chain closes; another plan is not looked at. -/
theorem State.planChecked_eq_none_iff (s : State) (p : Fin 8) :
    (if s.plans[p].loaded then (s.chainCheck p).failure p else none) = none ↔
      (s.plans[p].loaded = true → ∃ n passed, s.chainCheck p = .closed n passed) := by
  rw [← WalkResult.failure_eq_none_iff p, ite_eq_right_iff]

theorem State.planFailure_eq_none_iff (s : State) : s.planFailure = none ↔
    ∀ p : Fin 8, s.plans[p].loaded = true → ∃ n passed, s.chainCheck p = .closed n passed := by
  simp only [State.planFailure, allPlans, finRange_findSome?_eq_none, State.planChecked_eq_none_iff]

theorem State.planFailure_some (s : State) (x : Failure) (h : s.planFailure = some x) :
    ∃ (p : Fin 8) (d : Fin 96), x.record = nameOf .stage d.val ∧ x.extra = p.val ∧ s.plans[p].loaded = true ∧
      s.chainCheck p = .failed d x.check ∧
      ∀ q : Fin 8, q < p → s.plans[q].loaded = true → ∃ n passed, s.chainCheck q = .closed n passed := by
  obtain ⟨p, hp, hbefore⟩ := finRange_findSome?_eq_some h
  split at hp
  case isTrue hloaded =>
    cases hw : s.chainCheck p with
    | closed n passed =>
      rw [hw] at hp
      cases hp
    | failed d k =>
      rw [hw] at hp
      cases hp
      exact ⟨p, d, rfl, rfl, hloaded, hw, fun q hq => (s.planChecked_eq_none_iff q).1 (hbefore q hq)⟩
  case isFalse => cases hp

/-! ## The five steps -/

theorem State.commitFailure_eq_or (s : State) : s.commitFailure =
    s.groupFailure.or (s.conflictFailure.or (s.channelFailure.or (s.noPlan.or s.planFailure))) := by
  simp only [State.commitFailure, Option.orElse_eq_orElse, Option.orElse_eq_or]

theorem State.commitFailure_eq_none_iff (s : State) : s.commitFailure = none ↔
    (∀ g : Fin 16, s.groups[g].cfg.passes) ∧ (∀ i j : Fin 16, s.entryPasses i j) ∧
    (∀ c : Fin 64, ¬s.channelFails c) ∧ (∃ p : Fin 8, s.plans[p].loaded = true) ∧
    (∀ p : Fin 8, s.plans[p].loaded = true → ∃ n passed, s.chainCheck p = .closed n passed) := by
  simp only [State.commitFailure_eq_or, Option.or_eq_none_iff, State.groupFailure_eq_none_iff,
    State.conflictFailure_eq_none_iff, State.channelFailure_eq_none_iff, State.noPlan_eq_none_iff,
    State.planFailure_eq_none_iff]

/-- The failure reported is that of the first step that fails. -/
theorem State.commitFailure_some (s : State) (x : Failure) (h : s.commitFailure = some x) :
    s.groupFailure = some x ∨ ((∀ g : Fin 16, s.groups[g].cfg.passes) ∧
      (s.conflictFailure = some x ∨ ((∀ i j : Fin 16, s.entryPasses i j) ∧
        (s.channelFailure = some x ∨ ((∀ c : Fin 64, ¬s.channelFails c) ∧
          (s.noPlan = some x ∨ s.planFailure = some x)))))) := by
  simp only [State.commitFailure_eq_or, Option.or_eq_some_iff, State.groupFailure_eq_none_iff,
    State.conflictFailure_eq_none_iff, State.channelFailure_eq_none_iff] at h
  rcases h with h | ⟨hg, h | ⟨he, h | ⟨hc, h | ⟨-, h⟩⟩⟩⟩
  · exact .inl h
  · exact .inr ⟨hg, .inl h⟩
  · exact .inr ⟨hg, .inr ⟨he, .inl h⟩⟩
  · exact .inr ⟨hg, .inr ⟨he, .inr ⟨hc, .inl h⟩⟩⟩
  · exact .inr ⟨hg, .inr ⟨he, .inr ⟨hc, .inr h⟩⟩⟩

/-- Settles O23: the chain check by the walk, COMMIT by its five steps. -/
theorem checksAreSound : Obligations.ChecksAreSound := by
  unfold Obligations.ChecksAreSound
  refine ⟨State.chainCheck_closed_iff, fun s p d k h => ?_, State.commitFailure_eq_none_iff, fun s x h => ?_, rfl⟩
  case refine_1 =>
    obtain ⟨passed, hwalked, (hat | hend) | hoff⟩ := s.chainCheck_failed p d k h
    · exact ⟨passed, hwalked, .inl hat⟩
    · exact ⟨passed, hwalked, .inr (.inl hend)⟩
    · exact ⟨passed, hwalked, .inr (.inr hoff)⟩
  case refine_2 =>
    exact (s.commitFailure_some x h).imp (s.groupFailure_some x) (And.imp_right
      (Or.imp (s.conflictFailure_some x) (And.imp_right
        (Or.imp (s.channelFailure_some x) (And.imp_right
          (Or.imp (s.noPlan_some x) (s.planFailure_some x)))))))

end Sys2Proof.Machine
end

section
/-! The fail-safe causes: the calculus of cause sets, the conditions, and what a working-out of them does (R71, R155 to
R158). -/

namespace Sys2Proof.Machine

/-! ## Cause sets -/

theorem Cause.index_lt (c : Cause) : c.index < 6 := by cases c <;> decide

theorem Cause.mem_all (c : Cause) : c ∈ Cause.all := by cases c <;> decide

/-- A cause set is known by the causes it holds. -/
theorem causeSet_ext {a b : CauseSet} (h : ∀ c, holds a c = holds b c) : a = b := by
  refine BitVec.eq_of_getLsbD_eq fun i hi => ?_
  obtain ⟨c, rfl⟩ : ∃ c : Cause, c.index = i := by
    have hcauses : ∀ i : Fin 6, ∃ c ∈ Cause.all, c.index = i.val := by decide
    obtain ⟨c, _, hc⟩ := hcauses ⟨i, hi⟩
    exact ⟨c, hc⟩
  exact h c

theorem holds_zero (c : Cause) : holds 0 c = false := BitVec.getLsbD_zero

@[simp] theorem holds_or (a b : CauseSet) (c : Cause) : holds (a ||| b) c = (holds a c || holds b c) :=
  BitVec.getLsbD_or

@[simp] theorem holds_and (a b : CauseSet) (c : Cause) : holds (a &&& b) c = (holds a c && holds b c) :=
  BitVec.getLsbD_and

@[simp] theorem holds_not (a : CauseSet) (c : Cause) : holds (~~~a) c = !holds a c := by
  simp [holds, c.index_lt]

@[simp] theorem holds_without (a b : CauseSet) (c : Cause) : holds (without a b) c = (holds a c && !holds b c) := by
  simp only [without, holds_and, holds_not]

theorem holds_only (c d : Cause) : holds c.only d = decide (c = d) := by cases c <;> cases d <;> decide

theorem topCause_eq_none_iff (a : CauseSet) : topCause a = none ↔ a = 0 := by
  rw [topCause, List.find?_eq_none]
  constructor
  · exact fun h => causeSet_ext fun c => (Bool.eq_false_iff.2 (h c c.mem_all)).trans (holds_zero c).symm
  · rintro rfl c _
    rw [holds_zero]
    exact Bool.false_ne_true

/-! ## Used channels, reds and cables -/

theorem groupOf_channelOf (g : Fin 16) (slot : Fin 4) : groupOf (channelOf g slot) = g :=
  Fin.ext (by simp only [groupOf, channelOf]; omega)

theorem slotOf_channelOf (g : Fin 16) (slot : Fin 4) : slotOf (channelOf g slot) = slot :=
  Fin.ext (by simp only [slotOf, channelOf]; omega)

theorem GroupConfig.hasSlot_iff (g : GroupConfig) (slot : Fin 4) : g.hasSlot slot = true ↔
    (g.kind = .vehicle ∧ (slot = 1 → g.secondRed = true)) ∨
      (g.kind = .pedestrian ∧ (slot = 0 ∨ slot = 3 ∨ (slot = 1 ∧ g.secondRed = true))) := by
  unfold GroupConfig.hasSlot
  cases hk : g.kind with
  | unused => simp
  | vehicle => simp [Decidable.or_iff_not_imp_left]
  | pedestrian => simp [or_assoc]

theorem State.used_channelOf (s : State) (g : Fin 16) (slot : Fin 4) :
    s.used (channelOf g slot) = s.groups[g].cfg.hasSlot slot := by
  simp only [State.used, groupOf_channelOf, slotOf_channelOf]

theorem State.redAvailable_iff (s : State) (c : Fin 64) :
    s.redAvailable c = true ↔ s.used c = true ∧ s.channels[c].verdict ≠ some .out := by
  rw [State.redAvailable, Bool.and_eq_true, bne_iff_ne]

theorem State.onIsolated_iff (s : State) (c : Fin 64) : s.onIsolated c = true ↔
    ∃ k, s.channels[c].cfg.cable = some k ∧ s.cables[k].state = .isolated := by
  unfold State.onIsolated
  cases s.channels[c].cfg.cable with
  | none => simp
  | some k => simp

theorem State.short_iff (s : State) (g : Fin 16) :
    s.short g = true ↔ s.availableReds g < s.groups[g].cfg.redsRequired := decide_eq_true_iff

/-- A group after a working-out of the red availability (R155). -/
theorem State.redCauses_group (s : State) (g : Fin 16) : s.redCauses.groups[g] =
    { s.groups[g] with
      redOut := decide (s.groups[g].cfg.kind = .pedestrian ∧ s.availableReds g < s.groups[g].cfg.redsRequired) } := by
  refine (Vector.getElem_ofFn g.isLt).trans (congrArg (fun b => { s.groups[g] with redOut := b }) ?_)
  rw [Bool.eq_iff_iff, decide_eq_true_iff, Bool.and_eq_true, beq_iff_eq]
  exact and_congr_right fun _ => s.short_iff g

/-- A group after a working-out of the dark cause ISOLATED_CABLE (R76). -/
theorem State.darkCauses_group (s : State) (g : Fin 16) : s.darkCauses.groups[g] =
    { s.groups[g] with
      isolatedCable := decide (∃ slot : Fin 4,
        s.used (channelOf g slot) = true ∧ s.onIsolated (channelOf g slot) = true) } := by
  refine (Vector.getElem_ofFn g.isLt).trans (congrArg (fun b => { s.groups[g] with isolatedCable := b }) ?_)
  rw [Bool.eq_iff_iff, decide_eq_true_iff, List.any_eq_true]
  simp only [allSlots, List.mem_finRange, true_and, Bool.and_eq_true]

/-! ## The conditions -/

theorem State.vehicleShort_iff (s : State) : s.vehicleShort = true ↔
    ∃ g : Fin 16, s.groups[g].cfg.kind = .vehicle ∧ s.availableReds g < s.groups[g].cfg.redsRequired := by
  simp only [State.vehicleShort, allGroups, List.any_eq_true, List.mem_finRange, true_and, Bool.and_eq_true, beq_iff_eq,
    State.short_iff]

theorem State.vehicleDark_iff (s : State) : s.vehicleDark = true ↔
    ∃ g : Fin 16, s.groups[g].cfg.kind = .vehicle ∧ s.groups[g].aspect = .dark := by
  simp only [State.vehicleDark, allGroups, List.any_eq_true, List.mem_finRange, true_and, Bool.and_eq_true, beq_iff_eq]

theorem State.requestBarred_iff (s : State) : s.requestBarred = true ↔
    s.seq.running = none ∧ ∃ p, s.sched.requested = some p ∧ ∀ d ∈ s.chain p, s.barred d = true := by
  unfold State.requestBarred
  cases s.seq.running <;> cases s.sched.requested <;> simp [State.allStagesBarred]

theorem State.barredIndication_iff (s : State) : s.barredIndication = true ↔
    ∃ p, s.seq.running = some p ∧ ∀ d ∈ s.chain p, s.barred d = true := by
  unfold State.barredIndication
  cases s.seq.running <;> simp [State.allStagesBarred]

/-- The set of one cause where its condition holds. -/
theorem holds_onlyIf (b : Bool) (c d : Cause) :
    holds (if b = true then c.only else 0) d = (b && decide (c = d)) := by
  cases b
  · exact holds_zero d
  · exact holds_only c d

theorem State.holds_conditions (s : State) (c : Cause) : holds s.conditions c =
    (s.vehicleShort && decide (Cause.redOut = c) || s.vehicleDark && decide (Cause.vehicleDark = c) ||
      (s.seq.allBarred || s.requestBarred) && decide (Cause.allBarred = c)) := by
  simp only [State.conditions, holds_or, holds_onlyIf]

theorem State.holds_conditions_redOut (s : State) : holds s.conditions .redOut = s.vehicleShort := by
  simp [State.holds_conditions]

theorem State.holds_conditions_vehicleDark (s : State) : holds s.conditions .vehicleDark = s.vehicleDark := by
  simp [State.holds_conditions]

theorem State.holds_conditions_allBarred (s : State) :
    holds s.conditions .allBarred = (s.seq.allBarred || s.requestBarred) := by
  simp [State.holds_conditions]

/-- A condition is no acknowledge-type cause. -/
theorem State.conditions_and_ack (s : State) : s.conditions &&& ackCauses = 0 := by
  refine causeSet_ext fun c => ?_
  rw [holds_and, holds_zero, State.holds_conditions]
  cases c <;> simp [holds, ackCauses, Cause.index]

/-! ## The causes of a working-out -/

/-- The present causes that a working-out of the conditions leaves (R157). -/
def State.nowPresent (s : State) : CauseSet := (s.sup.presentCauses &&& ackCauses) ||| s.conditions

/-- The causes that become present at a working-out of the conditions (R158). -/
def State.newPresent (s : State) : CauseSet := s.conditions &&& ~~~s.sup.presentCauses

/-- The first cause as a set. -/
def firstSet : Option Cause → CauseSet
  | some c => c.only
  | none => 0

theorem State.nowPresent_and_ack (s : State) : s.nowPresent &&& ackCauses = s.sup.presentCauses &&& ackCauses := by
  refine causeSet_ext fun c => ?_
  have h := congrArg (holds · c) s.conditions_and_ack
  simp only [holds_and, holds_zero] at h
  simp only [State.nowPresent, holds_and, holds_or, Bool.and_or_distrib_right, h, Bool.or_false, Bool.and_assoc,
    Bool.and_self]

theorem State.refreshOnce_eq (s : State) : s.refreshOnce =
    ({ s with sup := { s.sup with presentCauses := s.nowPresent } } : State).raise s.newPresent := rfl

/-- Where nothing becomes present, or the mode is not one that a cause acts in, only the present causes change. -/
theorem State.refreshOnce_quiet (s : State)
    (h : s.newPresent = 0 ∨ (s.sup.mode ≠ .starting ∧ s.sup.mode ≠ .running ∧ s.sup.mode ≠ .failsafe)) :
    s.refreshOnce = { s with sup := { s.sup with presentCauses := s.nowPresent } } := by
  rw [State.refreshOnce_eq, State.raise]
  rcases h with h | ⟨hs, hr, hf⟩
  · rw [(topCause_eq_none_iff _).2 h]
  · cases topCause s.newPresent with
    | none => rfl
    | some first => cases hm : s.sup.mode <;> simp_all

theorem State.recordFurther_eq (s : State) (raised : CauseSet) : s.recordFurther raised =
    { s with
      sup := { s.sup with furtherCauses := s.sup.furtherCauses ||| (raised &&& ~~~firstSet s.sup.firstCause) }
      attn := if s.sup.furtherCauses ||| (raised &&& ~~~firstSet s.sup.firstCause) = s.sup.furtherCauses then s.attn
        else s.attn.post .safety (nameOf .junction 0) } := by
  have hjoin : s.sup.furtherCauses ||| without raised (s.sup.furtherCauses ||| firstSet s.sup.firstCause) =
      s.sup.furtherCauses ||| (raised &&& ~~~firstSet s.sup.firstCause) := by
    refine causeSet_ext fun c => ?_
    simp only [holds_or, holds_and, holds_not, holds_without]
    cases holds s.sup.furtherCauses c <;> simp
  have hnew : without raised (s.sup.furtherCauses ||| firstSet s.sup.firstCause) = 0 ↔
      s.sup.furtherCauses ||| (raised &&& ~~~firstSet s.sup.firstCause) = s.sup.furtherCauses := by
    rw [← hjoin]
    constructor
    · intro h
      rw [h]
      exact BitVec.or_zero
    · refine fun h => causeSet_ext fun c => ?_
      have hc := congrArg (holds · c) h
      simp only [holds_or, holds_without, holds_zero] at hc ⊢
      generalize holds s.sup.furtherCauses c = f at hc ⊢
      cases f
      · simpa using hc
      · simp
  change (if without raised (s.sup.furtherCauses ||| firstSet s.sup.firstCause) = 0 then s else _) = _
  by_cases h : without raised (s.sup.furtherCauses ||| firstSet s.sup.firstCause) = 0
  · rw [if_pos h, hnew.1 h, if_pos rfl]
  · rw [if_neg h, if_neg (mt hnew.2 h), ← hjoin]
    rfl

/-- In FAILSAFE a cause that becomes present joins the further causes where it is not on record. -/
theorem State.refreshOnce_failsafe (s : State) (hm : s.sup.mode = .failsafe) : s.refreshOnce =
    { s with
      sup := { s.sup with
        presentCauses := s.nowPresent
        furtherCauses := s.sup.furtherCauses ||| (s.newPresent &&& ~~~firstSet s.sup.firstCause) }
      attn := if s.sup.furtherCauses ||| (s.newPresent &&& ~~~firstSet s.sup.firstCause) = s.sup.furtherCauses
        then s.attn else s.attn.post .safety (nameOf .junction 0) } := by
  cases htop : topCause s.newPresent with
  | none =>
    have hnew : s.newPresent = 0 := (topCause_eq_none_iff _).1 htop
    have hjoin : s.sup.furtherCauses ||| (0 &&& ~~~firstSet s.sup.firstCause) = s.sup.furtherCauses := by simp
    rw [s.refreshOnce_quiet (.inl hnew), hnew, hjoin, if_pos rfl]
  | some first =>
    rw [State.refreshOnce_eq, State.raise, htop]
    simp only [hm]
    rw [State.recordFurther_eq]

/-! ## Modes in which the sequencer is STOPPED -/

theorem Group.toRed_eq (g : Group) : g.toRed = { g.turnedRed with rev := g.rev } := by
  obtain ⟨_, aspect, _, _, _, _, _⟩ := g
  cases aspect <;> rfl

/-- A change to UNCONFIGURED, STANDBY or FAILSAFE, with its posting (R56, R148, R149). -/
theorem State.changeMode_stopped (s : State) (m : Mode) (c : AClass)
    (hm : m = .unconfigured ∨ m = .standby ∨ m = .failsafe) : s.changeMode m c =
      { s with
        sup := s.sup.idledIn m false
        seq := s.seq.emptied .stopped
        groups := s.groups.map fun g => { g.turnedRed with rev := g.rev }
        port := Machine.allOff
        attn := s.attn.post c (nameOf .junction 0) } := by
  rw [← funext Group.toRed_eq]
  rcases hm with rfl | rfl | rfl <;> rfl

theorem State.failSafe_eq (s : State) (first : Cause) : s.failSafe first =
    { s with
      sup := { s.sup.idledIn .failsafe false with
        firstCause := some first, furtherCauses := without s.sup.presentCauses first.only }
      seq := s.seq.emptied .stopped
      groups := s.groups.map fun g => { g.turnedRed with rev := g.rev }
      port := Machine.allOff
      attn := s.attn.post .safety (nameOf .junction 0) } :=
  State.changeMode_stopped _ .failsafe .safety (.inr (.inr rfl))

/-- In STARTING and RUNNING a cause that becomes present takes the mode to FAILSAFE. -/
theorem State.refreshOnce_enters (s : State) (first : Cause) (hfirst : topCause s.newPresent = some first)
    (hm : s.sup.mode = .starting ∨ s.sup.mode = .running) : s.refreshOnce =
      { s with
        sup := { s.sup.idledIn .failsafe false with
          presentCauses := s.nowPresent, firstCause := some first
          furtherCauses := without s.nowPresent first.only }
        seq := s.seq.emptied .stopped
        groups := s.groups.map fun g => { g.turnedRed with rev := g.rev }
        port := Machine.allOff
        attn := s.attn.post .safety (nameOf .junction 0) } := by
  have hraise : s.refreshOnce =
      ({ s with sup := { s.sup with presentCauses := s.nowPresent } } : State).failSafe first := by
    rw [State.refreshOnce_eq, State.raise, hfirst]
    rcases hm with hm | hm <;> simp only [hm]
  rw [hraise, State.failSafe_eq]
  rfl

/-! ## Posting twice -/

theorem insertPair_idem (r : RecordName) (l : List RecordName) : insertPair r (insertPair r l) = insertPair r l := by
  induction l with
  | nil => simp [insertPair]
  | cons x rest ih =>
    by_cases hx : x = r
    · simp [insertPair, hx]
    · by_cases hb : r.before x = true
      · simp [insertPair, hx, hb]
      · simp [insertPair, hx, hb, ih]

/-- A pair already posted leaves the attention unit as it stands (R173). -/
theorem Attention.post_post (a : Attention) (c : AClass) (r : RecordName) : (a.post c r).post c r = a.post c r := by
  have hsets : (a.sets.set c.rank (insertPair r a.sets[c.rank])).set c.rank
      (insertPair r (a.sets.set c.rank (insertPair r a.sets[c.rank]))[c.rank]) =
        a.sets.set c.rank (insertPair r a.sets[c.rank]) := by
    simp [insertPair_idem]
  change ({ (a.post c r) with sets := _ } : Attention).withLine = ({ a with sets := _ } : Attention).withLine
  rw [show (a.post c r).sets = a.sets.set c.rank (insertPair r a.sets[c.rank]) from rfl, hsets]
  rfl

/-! ## The whole working-out -/

theorem State.refreshOnce_mode (s : State) (hm : s.sup.mode ≠ .starting ∧ s.sup.mode ≠ .running) :
    s.refreshOnce.sup.mode = s.sup.mode := by
  by_cases hf : s.sup.mode = .failsafe
  · rw [s.refreshOnce_failsafe hf]
  · rw [s.refreshOnce_quiet (.inr ⟨hm.1, hm.2, hf⟩)]

theorem State.refresh_of_mode (s : State) (h : s.refreshOnce.sup.mode = s.sup.mode) : s.refresh = s.refreshOnce := by
  rw [State.refresh]
  exact if_pos h

/-- The further causes of an entry to FAILSAFE that a working-out causes, those of its second working-out among them. -/
def State.furtherOnEntry (s : State) (first : Cause) (later : CauseSet) : CauseSet :=
  without (s.nowPresent ||| later) first.only

/-- An entry to FAILSAFE that a working-out causes (R149, R156, R158). -/
theorem State.refresh_enters (s : State) (first : Cause) (hfirst : topCause s.newPresent = some first)
    (hm : s.sup.mode = .starting ∨ s.sup.mode = .running) : ∃ later : CauseSet,
      s.refresh.conditions = later ∧
      s.refresh = { s with
        sup := { s.sup.idledIn .failsafe false with
          presentCauses := (s.sup.presentCauses &&& ackCauses) ||| later, firstCause := some first
          furtherCauses := s.furtherOnEntry first later }
        seq := s.seq.emptied .stopped
        groups := s.groups.map fun g => { g.turnedRed with rev := g.rev }
        port := Machine.allOff
        attn := s.attn.post .safety (nameOf .junction 0) } := by
  have hentry := s.refreshOnce_enters first hfirst hm
  have hmode : s.refreshOnce.sup.mode = .failsafe := by rw [hentry]; rfl
  have hne : ¬s.refreshOnce.sup.mode = s.sup.mode := by
    rw [hmode]
    rcases hm with hm | hm <;> rw [hm] <;> decide
  have htwice : s.refresh = s.refreshOnce.refreshOnce := by
    rw [State.refresh]
    exact if_neg hne
  have hnow : s.refreshOnce.nowPresent = (s.sup.presentCauses &&& ackCauses) ||| s.refreshOnce.conditions := by
    rw [State.nowPresent, ← s.nowPresent_and_ack]
    rw [hentry]
  have hfurther : s.refreshOnce.sup.furtherCauses |||
      (s.refreshOnce.newPresent &&& ~~~firstSet s.refreshOnce.sup.firstCause) =
        s.furtherOnEntry first s.refreshOnce.conditions := by
    have hf : s.refreshOnce.sup.furtherCauses = without s.nowPresent first.only := by rw [hentry]
    have h1 : s.refreshOnce.sup.firstCause = some first := by rw [hentry]
    have hp : s.refreshOnce.sup.presentCauses = s.nowPresent := by rw [hentry]
    refine causeSet_ext fun c => ?_
    rw [hf, h1, State.newPresent, hp]
    simp only [State.furtherOnEntry, firstSet, holds_or, holds_and, holds_not, holds_without]
    cases holds s.nowPresent c <;> cases holds first.only c <;> simp
  refine ⟨s.refreshOnce.conditions, ?_, ?_⟩
  · rw [htwice, s.refreshOnce.refreshOnce_failsafe hmode]
    rfl
  · rw [htwice, s.refreshOnce.refreshOnce_failsafe hmode, hnow, hfurther]
    generalize s.refreshOnce.conditions = later
    rw [hentry]
    simp only [Attention.post_post, ite_self]

theorem State.holds_furtherOnEntry (s : State) (first : Cause) (later : CauseSet) (c : Cause) :
    holds (s.furtherOnEntry first later) c = true ↔
      some first ≠ some c ∧ (holds s.nowPresent c = true ∨
        holds ((s.sup.presentCauses &&& ackCauses) ||| later) c = true) := by
  rw [← s.nowPresent_and_ack]
  simp only [State.furtherOnEntry, holds_without, holds_or, holds_and, holds_only, Bool.and_eq_true, Bool.or_eq_true,
    Bool.not_eq_true', decide_eq_false_iff_not, ne_eq, Option.some.injEq]
  tauto

/-- What the working-out of the conditions does (R157, R158). -/
theorem State.refresh_spec (s : State) :
    (s.newPresent = 0 ∨ (s.sup.mode ≠ .starting ∧ s.sup.mode ≠ .running ∧ s.sup.mode ≠ .failsafe) →
      s.refresh = { s with sup := { s.sup with presentCauses := s.nowPresent } }) ∧
    (s.sup.mode = .failsafe → s.refresh = s.refreshOnce) := by
  constructor
  · intro h
    have hquiet := s.refreshOnce_quiet h
    rw [s.refresh_of_mode (by rw [hquiet]), hquiet]
  · intro h
    exact s.refresh_of_mode (s.refreshOnce_mode (by rw [h]; decide))

/-- Settles O54: the conditions one by one, the three outcomes of a working-out, and the two dark causes. -/
theorem causesRaised : Obligations.CausesRaised := by
  unfold Obligations.CausesRaised
  refine ⟨fun s => ⟨s.nowPresent, s.newPresent, s.refresh, rfl, rfl, rfl, ?_, ?_, ?_, s.refresh_spec.1, ?_, ?_⟩,
    fun s => ⟨s.barredIndication, s.barredIndication_iff, rfl⟩,
    fun s g => ⟨s.redAvailable_iff, rfl, fun slot => ?_, s.onIsolated_iff⟩,
    fun s => ⟨s.redCauses.groups, s.darkCauses.groups, rfl, rfl, fun g => ⟨s.redCauses_group g, s.darkCauses_group g⟩⟩⟩
  case refine_1 => rw [s.holds_conditions_redOut, s.vehicleShort_iff]
  case refine_2 => rw [s.holds_conditions_vehicleDark, s.vehicleDark_iff]
  case refine_3 => rw [s.holds_conditions_allBarred, Bool.or_eq_true, s.requestBarred_iff]
  case refine_4 =>
    intro hnew hm
    obtain ⟨first, hfirst⟩ := Option.ne_none_iff_exists'.1 (mt (topCause_eq_none_iff _).1 hnew)
    obtain ⟨later, hlater, ht⟩ := s.refresh_enters first hfirst hm
    rw [hlater, hfirst, ht]
    exact ⟨rfl, rfl, rfl, rfl, rfl, rfl, s.holds_furtherOnEntry first later, rfl⟩
  case refine_5 =>
    intro _ hm
    rw [s.refresh_spec.2 hm, s.refreshOnce_failsafe hm]
    exact ⟨rfl, rfl⟩
  case refine_6 => rw [s.used_channelOf, GroupConfig.hasSlot_iff]

end Sys2Proof.Machine
end

section
/-! WRITE of a CONFLICT and of a PROFILE record (R9, R11, R87, R88, R148). -/

namespace Sys2Proof.Machine

/-! ## Events that change no GROUP, CABLE or JUNCTION record -/

theorem Group.moved_self (g : Group) : Group.moved g g = g := if_pos rfl

theorem Cable.moved_self (k : Cable) : Cable.moved k k = k := if_pos rfl

theorem groups_moved_self (v : Vector Group 16) : Vector.zipWith Group.moved v v = v :=
  Vector.ext fun _ hi => (Vector.getElem_zipWith hi).trans (Group.moved_self _)

theorem cables_moved_self (v : Vector Cable 16) : Vector.zipWith Cable.moved v v = v :=
  Vector.ext fun _ hi => (Vector.getElem_zipWith hi).trans (Cable.moved_self _)

/-- An event that leaves these records as they stand moves no revision. -/
theorem event_of_work (f : State → State) (s : State) {t : State} (hw : f s = t) (hg : t.groups = s.groups)
    (hc : t.cables = s.cables) (hj : s.junctionSettled = t.junctionSettled) : event f s = t := by
  rw [event, hw, closeEvent, junctionMoved, if_pos hj, hg, hc, groups_moved_self, cables_moved_self, ← hg, ← hc]

/-! ## The return to UNCONFIGURED -/

theorem State.decommission_unconfigured (s : State) (h : s.sup.mode = .unconfigured) : s.decommission = s := by
  rw [State.decommission, h, if_neg (by decide)]

theorem State.decommission_standby (s : State) (h : s.sup.mode = .standby) :
    s.decommission = s.changeMode .unconfigured .plan := by
  rw [State.decommission, if_pos h]

/-! ## A WRITE that is taken, and one out of range -/

/-- A WRITE whose work answers with the record, in a mode that takes it. -/
theorem State.write_answers {n : Nat} (s t : State) (h : Header) (tb : Table) (i : Fin n) (modes : Mode → Bool)
    (work : State → Fin n → Call → Reply) (st : Status) (hr : s.ready) (hn : h.names tb i.val)
    (hk : s.link.mkey = true) (hm : modes s.sup.mode = true) (hf : s.revisionMatches h (nameOf tb i.val))
    (hw : work (s.shiftOut h.clocked) i { code := 2, header := h } =
      t.returns { code := 2, header := h } st (nameOf tb i.val)) :
    s.write h tb n true modes work = t.returning h 2 st (nameOf tb i.val) := by
  rw [s.write_taken h tb i true modes work hr hn (fun _ => hk) hm hf, hw]
  rfl

/-- A WRITE whose payload its work refuses. -/
theorem State.write_outOfRange {n : Nat} (s : State) (h : Header) (tb : Table) (i : Fin n) (modes : Mode → Bool)
    (work : State → Fin n → Call → Reply) (hr : s.ready) (hn : h.names tb i.val)
    (hk : s.link.mkey = true) (hm : modes s.sup.mode = true) (hf : s.revisionMatches h (nameOf tb i.val))
    (hw : work (s.shiftOut h.clocked) i { code := 2, header := h } =
      (s.shiftOut h.clocked).refuse { code := 2, header := h } (some (nameOf tb i.val)) .range) :
    s.write h tb n true modes work = s.refusing h 2 .range (s.recordRev (nameOf tb i.val)) := by
  rw [s.write_taken h tb i true modes work hr hn (fun _ => hk) hm hf, hw, ← s.recordRev_shiftOut h.clocked]
  rfl

/-! ## CONFLICT -/

theorem parseRow_eq_none (p : List Byte) (h : p.length ≠ 16 ∨ ∃ b ∈ p, 250 < b.toNat) : parseRow p = none := by
  refine if_neg fun hp => ?_
  rw [Bool.and_eq_true, decide_eq_true_eq, List.all_eq_true] at hp
  rcases h with hlen | ⟨b, hb, hbig⟩
  · exact hlen hp.1
  · exact absurd (of_decide_eq_true (hp.2 b hb)) (Nat.not_le.2 hbig)

theorem exec_writeConflict_taken (s : State) (h : Header) (i : Fin 16) (row : Vector (Option Nat) 16) (hr : s.ready)
    (hk : s.link.mkey = true) (hm : s.sup.mode.commissioning = true) (hn : h.names .conflict i.val)
    (hf : s.revisionMatches h (nameOf .conflict i.val)) (hrow : rowInRange row = true) :
    exec (.writeConflict h (rowBytes row)) s =
      .next ((event (fun v => v.writeConflict i row) (s.shiftOut h.clocked)).returning h 2 .ok
        (nameOf .conflict i.val)) := by
  refine congrArg _ (s.write_answers _ h .conflict i _ _ .ok hr hn hk hm hf ?_)
  simp only [parseRow_rowBytes row hrow]

theorem exec_writeConflict_outOfRange (s : State) (h : Header) (i : Fin 16) (p : List Byte) (hr : s.ready)
    (hk : s.link.mkey = true) (hm : s.sup.mode.commissioning = true) (hn : h.names .conflict i.val)
    (hf : s.revisionMatches h (nameOf .conflict i.val)) (hp : p.length ≠ 16 ∨ ∃ b ∈ p, 250 < b.toNat) :
    exec (.writeConflict h p) s = .next (s.refusing h 2 .range s.conflicts[i].rev) := by
  rw [← s.recordRev_conflict i]
  refine congrArg _ (s.write_outOfRange h .conflict i _ _ hr hn hk hm hf ?_)
  simp only [parseRow_eq_none p hp]

theorem State.writeConflict_unconfigured (s : State) (i : Fin 16) (row : Vector (Option Nat) 16)
    (h : s.sup.mode = .unconfigured) :
    event (fun v => v.writeConflict i row) s =
      { s with conflicts := s.conflicts.set i (s.conflicts[i].replace row) } :=
  event_of_work _ s (State.decommission_unconfigured _ h) rfl rfl rfl

theorem State.writeConflict_standby (s : State) (i : Fin 16) (row : Vector (Option Nat) 16)
    (h : s.sup.mode = .standby) :
    s.writeConflict i row =
      ({ s with conflicts := s.conflicts.set i (s.conflicts[i].replace row) } : State).changeMode .unconfigured .plan :=
  State.decommission_standby _ h

/-! ## PROFILE -/

/-- The record after a WRITE of PROFILE (R87). -/
def Profile.replace (x : Profile) (cfg : ProfileConfig) : Profile :=
  { cfg := cfg, rev := if x.cfg = cfg then x.rev else nextRev x.rev }

/-- The channels after a WRITE of PROFILE f: those that name a changed profile have their streak ended (R88). -/
def State.profileChannels (s : State) (f : Fin 8) (cfg : ProfileConfig) : Vector Channel 64 :=
  if s.profiles[f].cfg = cfg then s.channels else s.channels.map fun x => x.profileChanged f

theorem State.profileChannels_get (s : State) (f : Fin 8) (cfg : ProfileConfig) (c : Fin 64) :
    (s.profileChannels f cfg)[c] =
      if s.profiles[f].cfg ≠ cfg ∧ s.channels[c].cfg.profile = f then
        { s.channels[c] with badStreak := 0, worst := none }
      else s.channels[c] := by
  unfold State.profileChannels
  by_cases hcfg : s.profiles[f].cfg = cfg
  · rw [if_pos hcfg, if_neg fun h => h.1 hcfg]
  · rw [if_neg hcfg]
    refine (Vector.getElem_map _ c.isLt).trans ?_
    simp only [Channel.profileChanged, ne_eq, hcfg, not_false_eq_true, true_and]
    rfl

theorem State.writeProfile_eq (s : State) (f : Fin 8) (cfg : ProfileConfig) : s.writeProfile f cfg =
    ({ s with
        profiles := s.profiles.set f (s.profiles[f].replace cfg)
        channels := s.profileChannels f cfg } : State).decommission := by
  unfold State.writeProfile Profile.replace State.profileChannels
  by_cases hcfg : s.profiles[f].cfg = cfg
  · subst hcfg
    have hsame : s.profiles.set f s.profiles[f] = s.profiles := Vector.set_getElem_self _
    simp only [if_true]
    exact congrArg (fun v => ({ s with profiles := v } : State).decommission) hsame.symm
  · simp only [if_neg hcfg]

theorem ProfileConfig.parse_eq_none_of_length (p : List Byte) (h : p.length ≠ 9) : ProfileConfig.parse p = none := by
  unfold ProfileConfig.parse
  split
  · exact absurd rfl h
  · rfl

theorem ofFirst_le (b : Byte) (x : Bool) (h : ofFirst b = some x) : b.toNat ≤ 1 := by
  unfold ofFirst at h
  split at h
  case isTrue h0 => rw [h0]; decide
  case isFalse =>
    split at h
    case isTrue h1 => rw [h1]; decide
    case isFalse => cases h

theorem ProfileConfig.parse_eq_none (surge settle release low high out off confirm tracking : Byte)
    (h : 15 < surge.toNat ∨ 15 < settle.toNat ∨ 15 < release.toNat ∨ low.toNat < 5 ∨ 50 < low.toNat ∨
      high.toNat < 5 ∨ 100 < high.toNat ∨ out.toNat < 5 ∨ 90 < out.toNat ∨ 100 ≤ out.toNat + low.toNat ∨
      off.toNat < 2 ∨ 200 < off.toNat ∨ confirm.toNat < 1 ∨ 15 < confirm.toNat ∨ 1 < tracking.toNat) :
    ProfileConfig.parse [surge, settle, release, low, high, out, off, confirm, tracking] = none := by
  simp only [ProfileConfig.parse]
  cases ht : ofFirst tracking with
  | none => rfl
  | some t =>
    have htracking := ofFirst_le tracking t ht
    refine if_neg fun hr => ?_
    have hranges := (ProfileConfig.inRange_iff _).1 hr
    simp only at hranges
    omega

theorem exec_writeProfile_taken (s : State) (h : Header) (f : Fin 8) (cfg : ProfileConfig) (hr : s.ready)
    (hk : s.link.mkey = true) (hm : s.sup.mode.commissioning = true) (hn : h.names .profile f.val)
    (hf : s.revisionMatches h (nameOf .profile f.val)) (hcfg : cfg.inRange = true) :
    exec (.writeProfile h cfg.bytes) s =
      .next ((event (fun v => v.writeProfile f cfg) (s.shiftOut h.clocked)).returning h 2 .ok
        (nameOf .profile f.val)) := by
  refine congrArg _ (s.write_answers _ h .profile f _ _ .ok hr hn hk hm hf ?_)
  simp only [ProfileConfig.parse_bytes cfg hcfg]

theorem exec_writeProfile_outOfRange (s : State) (h : Header) (f : Fin 8) (p : List Byte) (hr : s.ready)
    (hk : s.link.mkey = true) (hm : s.sup.mode.commissioning = true) (hn : h.names .profile f.val)
    (hf : s.revisionMatches h (nameOf .profile f.val)) (hp : ProfileConfig.parse p = none) :
    exec (.writeProfile h p) s = .next (s.refusing h 2 .range s.profiles[f].rev) := by
  rw [← s.recordRev_profile f]
  refine congrArg _ (s.write_outOfRange h .profile f _ _ hr hn hk hm hf ?_)
  simp only [hp]

theorem State.writeProfile_unconfigured (s : State) (f : Fin 8) (cfg : ProfileConfig)
    (h : s.sup.mode = .unconfigured) :
    event (fun v => v.writeProfile f cfg) s =
      { s with
        profiles := s.profiles.set f (s.profiles[f].replace cfg)
        channels := s.profileChannels f cfg } :=
  event_of_work _ s ((s.writeProfile_eq f cfg).trans (State.decommission_unconfigured _ h)) rfl rfl rfl

theorem State.writeProfile_standby (s : State) (f : Fin 8) (cfg : ProfileConfig) (h : s.sup.mode = .standby) :
    s.writeProfile f cfg =
      ({ s with
          profiles := s.profiles.set f (s.profiles[f].replace cfg)
          channels := s.profileChannels f cfg } : State).changeMode .unconfigured .plan :=
  (s.writeProfile_eq f cfg).trans (State.decommission_standby _ h)

/-- Settles O15: in UNCONFIGURED the event is the write alone, in STANDBY the return to UNCONFIGURED is part of it. -/
theorem writeConflictAndProfile : Obligations.WriteConflictAndProfile := by
  unfold Obligations.WriteConflictAndProfile
  intro s h hr hk
  have hcom {m : Mode} (hm : s.sup.mode = m) (hc : m.commissioning = true) : s.sup.mode.commissioning = true :=
    hm ▸ hc
  refine ⟨fun i row hn hf hrow => ?conflict, fun f cfg hn hf => ?profile, fun hm => ⟨fun i hn hf p hp => ?badRow,
    fun f hn hf => ?badProfile⟩⟩
  case conflict =>
    have hrange := (rowInRange_iff row).2 hrow
    refine ⟨s.conflicts[i].replace row, rfl, rfl, fun hm => ?_, fun hm => ?_⟩
    · rw [exec_writeConflict_taken s h i row hr hk (hcom hm rfl) hn hf hrange,
        (s.shiftOut h.clocked).writeConflict_unconfigured i row hm]
      rfl
    · rw [exec_writeConflict_taken s h i row hr hk (hcom hm rfl) hn hf hrange, event,
        (s.shiftOut h.clocked).writeConflict_standby i row hm]
      rfl
  case profile =>
    intro h1 h2 h3 h4 h5 h6 h7 h8 h9 h10 h11 h12 h13 h14
    have hrange : cfg.inRange = true :=
      (ProfileConfig.inRange_iff cfg).2 ⟨h1, h2, h3, h4, h5, h6, h7, h8, h9, by omega, h11, h12, h13, h14⟩
    refine ⟨s.profiles[f].replace cfg, s.profileChannels f cfg, rfl, rfl, s.profileChannels_get f cfg, fun hm => ?_,
      fun hm => ?_⟩
    · rw [exec_writeProfile_taken s h f cfg hr hk (hcom hm rfl) hn hf hrange,
        (s.shiftOut h.clocked).writeProfile_unconfigured f cfg hm]
      rfl
    · rw [exec_writeProfile_taken s h f cfg hr hk (hcom hm rfl) hn hf hrange, event,
        (s.shiftOut h.clocked).writeProfile_standby f cfg hm]
      rfl
  case badRow =>
    exact exec_writeConflict_outOfRange s h i p hr hk ((Mode.commissioning_iff _).2 hm) hn hf hp
  case badProfile =>
    have refused (p : List Byte) (hp : ProfileConfig.parse p = none) :=
      exec_writeProfile_outOfRange s h f p hr hk ((Mode.commissioning_iff _).2 hm) hn hf hp
    exact ⟨fun p hp => refused p (ProfileConfig.parse_eq_none_of_length p hp),
      fun _ _ _ _ _ _ _ _ _ hb => refused _ (ProfileConfig.parse_eq_none _ _ _ _ _ _ _ _ _ hb)⟩

end Sys2Proof.Machine
end

section
/-! WRITE of a GROUP record (R7, R56, R76, R148, R155, R156). -/

namespace Sys2Proof.Machine

/-! ## What the conditions read of a state -/

/-- Two states that agree in everything the conditions and the dark causes are worked out from. -/
structure State.Alike (a b : State) : Prop where
  cfg : ∀ g : Fin 16, a.groups[g].cfg = b.groups[g].cfg
  aspect : ∀ g : Fin 16, a.groups[g].aspect = b.groups[g].aspect
  channels : a.channels = b.channels
  cables : ∀ k : Fin 16, a.cables[k].state = b.cables[k].state
  seq : a.seq = b.seq
  sched : a.sched = b.sched
  plans : a.plans = b.plans
  stages : a.stages = b.stages

namespace State.Alike

variable {a b c : State}

theorem trans (h : a.Alike b) (k : b.Alike c) : a.Alike c where
  cfg g := (h.cfg g).trans (k.cfg g)
  aspect g := (h.aspect g).trans (k.aspect g)
  channels := h.channels.trans k.channels
  cables n := (h.cables n).trans (k.cables n)
  seq := h.seq.trans k.seq
  sched := h.sched.trans k.sched
  plans := h.plans.trans k.plans
  stages := h.stages.trans k.stages

theorem used (h : a.Alike b) (x : Fin 64) : a.used x = b.used x := by
  rw [State.used, h.cfg, State.used]

theorem onIsolated (h : a.Alike b) (x : Fin 64) : a.onIsolated x = b.onIsolated x := by
  rw [Bool.eq_iff_iff, State.onIsolated_iff, State.onIsolated_iff, h.channels]
  simp only [h.cables]

theorem availableReds (h : a.Alike b) (g : Fin 16) : a.availableReds g = b.availableReds g := by
  have hred (x : Fin 64) : a.redAvailable x = b.redAvailable x := by
    rw [Bool.eq_iff_iff, State.redAvailable_iff, State.redAvailable_iff, h.used, h.channels]
  simp only [State.availableReds, hred]

theorem barred (h : a.Alike b) (d : Fin 96) : a.barred d = b.barred d := by
  simp only [State.barred, State.names, h.stages, h.aspect]

theorem walk (h : a.Alike b) (stop : Fin 96) (fuel : Nat) (d : Fin 96) : a.walk stop fuel d = b.walk stop fuel d := by
  induction fuel generalizing d with
  | zero => rfl
  | succ fuel ih => simp only [State.walk, ih, h.stages]

theorem chain (h : a.Alike b) (p : Fin 8) : a.chain p = b.chain p := by
  simp only [State.chain, h.plans, h.stages, h.walk]

theorem requestBarred (h : a.Alike b) : a.requestBarred = b.requestBarred := by
  simp only [State.requestBarred, State.allStagesBarred, h.seq, h.sched, h.chain, funext h.barred]

theorem conditions (h : a.Alike b) : a.conditions = b.conditions := by
  have hshort : a.vehicleShort = b.vehicleShort := by
    simp only [State.vehicleShort, State.short, h.cfg, h.availableReds]
  have hdark : a.vehicleDark = b.vehicleDark := by
    simp only [State.vehicleDark, h.cfg, h.aspect]
  simp only [State.conditions, hshort, hdark, h.seq, h.requestBarred]

end State.Alike

/-! ## A group record over an event -/

theorem Group.moved_eq_rev (old new : Group) : Group.moved old new = { new with rev := (Group.moved old new).rev } := by
  rw [Group.moved_eq]
  split <;> rfl

theorem Group.moved_settled (old new : Group) : (Group.moved old new).settled = new.settled := by
  rw [Group.moved_eq_rev]
  rfl

theorem Group.moved_rev (old new : Group) (h : new.rev = old.rev) : (Group.moved old new).rev =
    if old.settled = (Group.moved old new).settled then old.rev else old.rev + 1 := by
  rw [Group.moved_settled, Group.moved_eq, ← h]
  split <;> rfl

/-- The end of an event changes nothing the conditions are worked out from. -/
theorem event_alike (f : State → State) (s : State) : (event f s).Alike (f s) where
  cfg g := by rw [event_group, Group.moved_eq_rev]
  aspect g := by rw [event_group, Group.moved_eq_rev]
  channels := rfl
  cables k := by
    rw [event_cable, Cable.moved_eq]
    split <;> rfl
  seq := rfl
  sched := rfl
  plans := rfl
  stages := rfl

/-! ## The dark causes worked out -/

/-- A group after both dark causes have been worked out (R76, R155). -/
def Group.withCauses (g : Group) (isolated short : Bool) : Group := { g with isolatedCable := isolated, redOut := short }

/-- The group has a used channel on an ISOLATED cable (R76). -/
def State.cutOff (s : State) (g : Fin 16) : Bool :=
  decide (∃ slot : Fin 4, s.used (channelOf g slot) = true ∧ s.onIsolated (channelOf g slot) = true)

/-- The group is PEDESTRIAN and short of reds (R155). -/
def State.redless (s : State) (g : Fin 16) : Bool :=
  decide (s.groups[g].cfg.kind = .pedestrian ∧ s.availableReds g < s.groups[g].cfg.redsRequired)

/-- A change of the groups alone that keeps their written fields and their aspects. -/
theorem State.alike_of_groups (s : State) (v : Vector Group 16) (hc : ∀ g : Fin 16, v[g].cfg = s.groups[g].cfg)
    (ha : ∀ g : Fin 16, v[g].aspect = s.groups[g].aspect) : ({ s with groups := v } : State).Alike s where
  cfg := hc
  aspect := ha
  channels := rfl
  cables _ := rfl
  seq := rfl
  sched := rfl
  plans := rfl
  stages := rfl

theorem State.darkCauses_alike (s : State) : s.darkCauses.Alike s :=
  s.alike_of_groups s.darkCauses.groups (fun g => by rw [s.darkCauses_group]) (fun g => by rw [s.darkCauses_group])

theorem State.redCauses_alike (s : State) : s.redCauses.Alike s :=
  s.alike_of_groups s.redCauses.groups (fun g => by rw [s.redCauses_group]) (fun g => by rw [s.redCauses_group])

theorem ofFn_get {α : Type} {n : Nat} (f : Fin n → α) (i : Fin n) : (Vector.ofFn f)[i] = f i :=
  Vector.getElem_ofFn i.isLt

theorem State.bothCauses_group (s : State) (g : Fin 16) :
    s.darkCauses.redCauses.groups[g] = s.groups[g].withCauses (s.cutOff g) (s.redless g) := by
  rw [State.redCauses_group, s.darkCauses_alike.availableReds, s.darkCauses_group]
  rfl

/-- The dark causes worked out, as an update of the groups alone. -/
theorem State.bothCauses_eq (s : State) : s.darkCauses.redCauses =
    { s with groups := Vector.ofFn fun g => s.groups[g].withCauses (s.cutOff g) (s.redless g) } := by
  have hgroups : s.darkCauses.redCauses.groups =
      Vector.ofFn fun g => s.groups[g].withCauses (s.cutOff g) (s.redless g) := by
    refine Vector.ext fun i hi => ?_
    rw [Vector.getElem_ofFn]
    exact s.bothCauses_group ⟨i, hi⟩
  rw [← hgroups]
  rfl

/-! ## The work of the write -/

/-- The state with the GROUP record replaced, before the causes are worked out. -/
def State.regrouped (s : State) (g : Fin 16) (cfg : GroupConfig) : State :=
  (s.setGroup g { s.groups[g] with cfg := cfg }).decommission

theorem State.regrouped_unconfigured (s : State) (g : Fin 16) (cfg : GroupConfig) (h : s.sup.mode = .unconfigured) :
    s.regrouped g cfg = s.setGroup g { s.groups[g] with cfg := cfg } := State.decommission_unconfigured _ h

theorem State.regrouped_standby (s : State) (g : Fin 16) (cfg : GroupConfig) (h : s.sup.mode = .standby) :
    s.regrouped g cfg =
      { s with
        sup := s.sup.idledIn .unconfigured false
        seq := s.seq.emptied .stopped
        groups := (s.groups.set g { s.groups[g] with cfg := cfg }).map fun x => { x.turnedRed with rev := x.rev }
        port := Machine.allOff
        attn := s.attn.post .plan (nameOf .junction 0) } := by
  have hdown : s.regrouped g cfg = (s.setGroup g { s.groups[g] with cfg := cfg }).changeMode .unconfigured .plan :=
    State.decommission_standby _ h
  rw [hdown, State.changeMode_stopped _ _ _ (.inl rfl)]
  rfl

theorem State.regrouped_mode (s : State) (g : Fin 16) (cfg : GroupConfig)
    (h : s.sup.mode = .unconfigured ∨ s.sup.mode = .standby) : (s.regrouped g cfg).sup.mode = .unconfigured := by
  rcases h with h | h
  · rw [s.regrouped_unconfigured g cfg h]
    exact h
  · rw [s.regrouped_standby g cfg h]
    rfl

/-- The work of the write: the record, the dark causes and the present causes; UNCONFIGURED raises none. -/
theorem State.writeGroup_eq (s : State) (g : Fin 16) (cfg : GroupConfig)
    (h : s.sup.mode = .unconfigured ∨ s.sup.mode = .standby) : s.writeGroup g cfg =
      { s.regrouped g cfg with
        groups := Vector.ofFn fun j => (s.regrouped g cfg).groups[j].withCauses
          ((s.regrouped g cfg).cutOff j) ((s.regrouped g cfg).redless j)
        sup := { (s.regrouped g cfg).sup with
          presentCauses := ((s.regrouped g cfg).sup.presentCauses &&& ackCauses) ||| (s.regrouped g cfg).conditions } } := by
  have hmode := s.regrouped_mode g cfg h
  have hquiet := (s.regrouped g cfg).darkCauses.redCauses.refresh_spec.1
    (.inr (by rw [State.bothCauses_eq, hmode]; decide))
  have hcond : (s.regrouped g cfg).darkCauses.redCauses.conditions = (s.regrouped g cfg).conditions :=
    ((State.redCauses_alike _).trans (State.darkCauses_alike _)).conditions
  rw [State.nowPresent, hcond, State.bothCauses_eq] at hquiet
  rw [← hquiet, ← State.bothCauses_eq]
  rfl

theorem State.writeGroup_group (s : State) (g : Fin 16) (cfg : GroupConfig)
    (h : s.sup.mode = .unconfigured ∨ s.sup.mode = .standby) (j : Fin 16) :
    (s.writeGroup g cfg).groups[j] = (s.regrouped g cfg).groups[j].withCauses
      ((s.regrouped g cfg).cutOff j) ((s.regrouped g cfg).redless j) := by
  rw [s.writeGroup_eq g cfg h]
  exact ofFn_get _ j

/-- What the causes are worked out from is what the write leaves. -/
theorem State.writeGroup_alike (s : State) (g : Fin 16) (cfg : GroupConfig)
    (h : s.sup.mode = .unconfigured ∨ s.sup.mode = .standby) : (s.writeGroup g cfg).Alike (s.regrouped g cfg) where
  cfg j := by rw [s.writeGroup_group g cfg h j]; rfl
  aspect j := by rw [s.writeGroup_group g cfg h j]; rfl
  channels := by rw [s.writeGroup_eq g cfg h]
  cables _ := by rw [s.writeGroup_eq g cfg h]
  seq := by rw [s.writeGroup_eq g cfg h]
  sched := by rw [s.writeGroup_eq g cfg h]
  plans := by rw [s.writeGroup_eq g cfg h]
  stages := by rw [s.writeGroup_eq g cfg h]

/-! ## The records the write leaves -/

/-- The written fields of GROUP j after a write of GROUP g. -/
def State.cfgAfter (s : State) (g : Fin 16) (cfg : GroupConfig) (j : Fin 16) : GroupConfig :=
  if j = g then cfg else s.groups[j].cfg

theorem State.setCfg_group (s : State) (g : Fin 16) (cfg : GroupConfig) (j : Fin 16) :
    (s.groups.set g { s.groups[g] with cfg := cfg })[j] = { s.groups[j] with cfg := s.cfgAfter g cfg j } := by
  by_cases hj : j = g
  · subst hj
    rw [State.cfgAfter, if_pos rfl]
    exact Vector.getElem_set_self _
  · rw [State.cfgAfter, if_neg hj]
    exact Vector.getElem_set_ne _ _ fun h => hj (Fin.ext h.symm)

theorem Group.turnedRed_cfg (g : Group) (cfg : GroupConfig) :
    ({ g with cfg := cfg } : Group).turnedRed = { g.turnedRed with cfg := cfg } := by
  unfold Group.turnedRed
  split <;> rfl

theorem State.regrouped_group_unconfigured (s : State) (g : Fin 16) (cfg : GroupConfig) (j : Fin 16)
    (h : s.sup.mode = .unconfigured) :
    (s.regrouped g cfg).groups[j] = { s.groups[j] with cfg := s.cfgAfter g cfg j } := by
  rw [s.regrouped_unconfigured g cfg h]
  exact s.setCfg_group g cfg j

theorem State.regrouped_group_standby (s : State) (g : Fin 16) (cfg : GroupConfig) (j : Fin 16)
    (h : s.sup.mode = .standby) :
    (s.regrouped g cfg).groups[j] =
      { s.groups[j].turnedRed with cfg := s.cfgAfter g cfg j, rev := s.groups[j].rev } := by
  rw [s.regrouped_standby g cfg h]
  refine (Vector.getElem_map _ j.isLt).trans ?_
  have hset : (s.groups.set g { s.groups[g] with cfg := cfg })[j.val] = _ := s.setCfg_group g cfg j
  rw [hset, Group.turnedRed_cfg]

theorem State.regrouped_cfg (s : State) (g : Fin 16) (cfg : GroupConfig) (j : Fin 16)
    (h : s.sup.mode = .unconfigured ∨ s.sup.mode = .standby) :
    (s.regrouped g cfg).groups[j].cfg = s.cfgAfter g cfg j := by
  rcases h with h | h
  · rw [s.regrouped_group_unconfigured g cfg j h]
  · rw [s.regrouped_group_standby g cfg j h]

theorem State.regrouped_rev (s : State) (g : Fin 16) (cfg : GroupConfig) (j : Fin 16)
    (h : s.sup.mode = .unconfigured ∨ s.sup.mode = .standby) :
    (s.regrouped g cfg).groups[j].rev = s.groups[j].rev := by
  rcases h with h | h
  · rw [s.regrouped_group_unconfigured g cfg j h]
  · rw [s.regrouped_group_standby g cfg j h]

/-! ## The event of the write -/

/-- The write as one event. -/
def State.groupEvent (s : State) (g : Fin 16) (cfg : GroupConfig) : State := event (fun v => v.writeGroup g cfg) s

theorem State.groupEvent_alike (s : State) (g : Fin 16) (cfg : GroupConfig)
    (h : s.sup.mode = .unconfigured ∨ s.sup.mode = .standby) : (s.groupEvent g cfg).Alike (s.regrouped g cfg) :=
  (event_alike _ s).trans (s.writeGroup_alike g cfg h)

theorem State.groupEvent_group (s : State) (g : Fin 16) (cfg : GroupConfig)
    (h : s.sup.mode = .unconfigured ∨ s.sup.mode = .standby) (j : Fin 16) :
    (s.groupEvent g cfg).groups[j] = Group.moved s.groups[j]
      ((s.regrouped g cfg).groups[j].withCauses ((s.regrouped g cfg).cutOff j) ((s.regrouped g cfg).redless j)) := by
  rw [State.groupEvent, event_group, s.writeGroup_group g cfg h]

theorem State.groupEvent_isolatedCable (s : State) (g : Fin 16) (cfg : GroupConfig)
    (h : s.sup.mode = .unconfigured ∨ s.sup.mode = .standby) (j : Fin 16) :
    (s.groupEvent g cfg).groups[j].isolatedCable = true ↔
      ∃ slot : Fin 4, (s.groupEvent g cfg).used (channelOf j slot) = true ∧
        (s.groupEvent g cfg).onIsolated (channelOf j slot) = true := by
  simp only [(s.groupEvent_alike g cfg h).used, (s.groupEvent_alike g cfg h).onIsolated]
  rw [s.groupEvent_group g cfg h, Group.moved_eq_rev]
  exact decide_eq_true_iff

theorem State.groupEvent_redOut (s : State) (g : Fin 16) (cfg : GroupConfig)
    (h : s.sup.mode = .unconfigured ∨ s.sup.mode = .standby) (j : Fin 16) :
    (s.groupEvent g cfg).groups[j].redOut = true ↔
      (s.groupEvent g cfg).groups[j].cfg.kind = .pedestrian ∧
        (s.groupEvent g cfg).availableReds j < (s.groupEvent g cfg).groups[j].cfg.redsRequired := by
  rw [(s.groupEvent_alike g cfg h).availableReds, (s.groupEvent_alike g cfg h).cfg, s.groupEvent_group g cfg h,
    Group.moved_eq_rev]
  exact decide_eq_true_iff

theorem State.groupEvent_rev (s : State) (g : Fin 16) (cfg : GroupConfig)
    (h : s.sup.mode = .unconfigured ∨ s.sup.mode = .standby) (j : Fin 16) :
    (s.groupEvent g cfg).groups[j].rev =
      if s.groups[j].settled = (s.groupEvent g cfg).groups[j].settled then s.groups[j].rev
      else s.groups[j].rev + 1 := by
  rw [s.groupEvent_group g cfg h]
  exact Group.moved_rev _ _ (s.regrouped_rev g cfg j h)

theorem State.groupEvent_cfg (s : State) (g : Fin 16) (cfg : GroupConfig)
    (h : s.sup.mode = .unconfigured ∨ s.sup.mode = .standby) (j : Fin 16) :
    (s.groupEvent g cfg).groups[j].cfg = s.cfgAfter g cfg j :=
  ((s.groupEvent_alike g cfg h).cfg j).trans (s.regrouped_cfg g cfg j h)

theorem State.groupEvent_sup (s : State) (g : Fin 16) (cfg : GroupConfig)
    (h : s.sup.mode = .unconfigured ∨ s.sup.mode = .standby) :
    (s.groupEvent g cfg).sup.mode = .unconfigured ∧
      (s.groupEvent g cfg).sup.presentCauses =
        (s.sup.presentCauses &&& ackCauses) ||| (s.groupEvent g cfg).conditions := by
  have hpresent : (s.regrouped g cfg).sup.presentCauses = s.sup.presentCauses := by
    rcases h with h | h
    · rw [s.regrouped_unconfigured g cfg h]
      rfl
    · rw [s.regrouped_standby g cfg h]
      rfl
  rw [(s.groupEvent_alike g cfg h).conditions, State.groupEvent, event_sup, s.writeGroup_eq g cfg h, hpresent]
  exact ⟨s.regrouped_mode g cfg h, rfl⟩

/-- The end of an event that worked out the causes and changed groups: JUNCTION 0 moves with the present causes. -/
theorem closeEvent_causes (s : State) (v : Vector Group 16) (present : CauseSet) :
    closeEvent s { s with groups := v, sup := { s.sup with presentCauses := present } } =
      { s with
        groups := Vector.zipWith Group.moved s.groups v
        sup := { s.sup with presentCauses := present }
        junctionRev := if s.sup.presentCauses = present then s.junctionRev else s.junctionRev + 1 } := by
  have hsettled : s.junctionSettled =
      ({ s with groups := v, sup := { s.sup with presentCauses := present } } : State).junctionSettled ↔
        s.sup.presentCauses = present := by
    simp only [State.junctionSettled, JunctionSettled.mk.injEq, true_and, and_true]
  simp only [closeEvent, junctionMoved, hsettled, cables_moved_self]
  rfl

/-- The same with the return to UNCONFIGURED, at which JUNCTION 0 moves in any case. -/
theorem closeEvent_decommissioned (s : State) (v : Vector Group 16) (present : CauseSet) (h : s.sup.mode = .standby) :
    closeEvent s { s with
        groups := v, sup := { s.sup.idledIn .unconfigured false with presentCauses := present }
        seq := s.seq.emptied .stopped, port := Machine.allOff, attn := s.attn.post .plan (nameOf .junction 0) } =
      { s with
        groups := Vector.zipWith Group.moved s.groups v
        sup := { s.sup.idledIn .unconfigured false with presentCauses := present }
        seq := s.seq.emptied .stopped, port := Machine.allOff, attn := s.attn.post .plan (nameOf .junction 0)
        junctionRev := s.junctionRev + 1 } := by
  have hsettled : ¬s.junctionSettled = ({ s with
      groups := v, sup := { s.sup.idledIn .unconfigured false with presentCauses := present }
      seq := s.seq.emptied .stopped, port := Machine.allOff,
      attn := s.attn.post .plan (nameOf .junction 0) } : State).junctionSettled := by
    intro he
    have hmode := ((State.junctionSettled_eq_iff _ _).1 he).1
    rw [h] at hmode
    cases hmode
  simp only [closeEvent, junctionMoved, if_neg hsettled, cables_moved_self]
  rfl

theorem State.groupEvent_unconfigured (s : State) (g : Fin 16) (cfg : GroupConfig) (h : s.sup.mode = .unconfigured) :
    s.groupEvent g cfg =
      { s with
        groups := (s.groupEvent g cfg).groups
        sup := { s.sup with presentCauses := (s.groupEvent g cfg).sup.presentCauses }
        junctionRev :=
          if s.sup.presentCauses = (s.groupEvent g cfg).sup.presentCauses then s.junctionRev
          else s.junctionRev + 1 } := by
  have hwork := s.writeGroup_eq g cfg (.inl h)
  rw [s.regrouped_unconfigured g cfg h] at hwork
  have hclose := (congrArg (closeEvent s) hwork).trans (closeEvent_causes s _ _)
  rw [State.groupEvent, event, hclose]

theorem State.groupEvent_standby (s : State) (g : Fin 16) (cfg : GroupConfig) (h : s.sup.mode = .standby) :
    s.groupEvent g cfg =
      { s with
        groups := (s.groupEvent g cfg).groups
        sup := { s.sup.idledIn .unconfigured false with presentCauses := (s.groupEvent g cfg).sup.presentCauses }
        seq := s.seq.emptied .stopped, port := Machine.allOff, attn := s.attn.post .plan (nameOf .junction 0)
        junctionRev := s.junctionRev + 1 } := by
  have hwork := s.writeGroup_eq g cfg (.inr h)
  rw [s.regrouped_standby g cfg h] at hwork
  have hclose := (congrArg (closeEvent s) hwork).trans (closeEvent_decommissioned s _ _ h)
  rw [State.groupEvent, event, hclose]

/-- In UNCONFIGURED a group keeps its aspect and its timers. -/
theorem State.groupEvent_group_unconfigured (s : State) (g : Fin 16) (cfg : GroupConfig) (j : Fin 16)
    (h : s.sup.mode = .unconfigured) : (s.groupEvent g cfg).groups[j] =
      { s.groups[j] with
        cfg := (s.groupEvent g cfg).groups[j].cfg, isolatedCable := (s.groupEvent g cfg).groups[j].isolatedCable
        redOut := (s.groupEvent g cfg).groups[j].redOut, rev := (s.groupEvent g cfg).groups[j].rev } := by
  rw [s.groupEvent_group g cfg (.inl h), s.regrouped_group_unconfigured g cfg j h, Group.moved_eq_rev]
  rfl

/-- In STANDBY a group that is not DARK turns RED. -/
theorem State.groupEvent_group_standby (s : State) (g : Fin 16) (cfg : GroupConfig) (j : Fin 16)
    (h : s.sup.mode = .standby) : (s.groupEvent g cfg).groups[j] =
      { s.groups[j].turnedRed with
        cfg := (s.groupEvent g cfg).groups[j].cfg, isolatedCable := (s.groupEvent g cfg).groups[j].isolatedCable
        redOut := (s.groupEvent g cfg).groups[j].redOut, rev := (s.groupEvent g cfg).groups[j].rev } := by
  rw [s.groupEvent_group g cfg (.inr h), s.regrouped_group_standby g cfg j h, Group.moved_eq_rev]
  rfl

/-! ## The frame -/

theorem GroupConfig.parse_eq_none_of_length (p : List Byte) (h : p.length ≠ 5) : GroupConfig.parse p = none := by
  unfold GroupConfig.parse
  split
  · exact absurd rfl h
  · rfl

theorem Kind.ofByte_le (b : Byte) (k : Kind) (h : Kind.ofByte b = some k) : b.toNat ≤ 2 := by
  unfold Kind.ofByte at h
  split at h
  case isTrue h0 => rw [h0]; decide
  case isFalse =>
    split at h
    case isTrue h1 => rw [h1]; decide
    case isFalse =>
      split at h
      case isTrue h2 => rw [h2]; decide
      case isFalse => cases h

theorem ofYesNo_le (b : Byte) (x : Bool) (h : ofYesNo b = some x) : b.toNat ≤ 1 := by
  unfold ofYesNo at h
  split at h
  case isTrue h1 => rw [h1]; decide
  case isFalse =>
    split at h
    case isTrue h0 => rw [h0]; decide
    case isFalse => cases h

theorem GroupConfig.parse_eq_none (kind second reds prep leaving : Byte)
    (h : 2 < kind.toNat ∨ 1 < second.toNat ∨ reds.toNat < 1 ∨ 2 < reds.toNat ∨ 30 < prep.toNat ∨ leaving.toNat < 20 ∨
      200 < leaving.toNat) : GroupConfig.parse [kind, second, reds, prep, leaving] = none := by
  simp only [GroupConfig.parse]
  cases hk : Kind.ofByte kind with
  | none => rfl
  | some k =>
    have hkind := Kind.ofByte_le kind k hk
    cases hs : ofYesNo second with
    | none => rfl
    | some sr =>
      have hsecond := ofYesNo_le second sr hs
      refine if_neg fun hr => ?_
      have hranges := (GroupConfig.inRange_iff _).1 hr
      simp only at hranges
      omega

section Frame

variable (s : State) (h : Header) (g : Fin 16) (hr : s.ready) (hk : s.link.mkey = true)
  (hm : s.sup.mode = .unconfigured ∨ s.sup.mode = .standby) (hn : h.names .group g.val)
  (hf : s.revisionMatches h (nameOf .group g.val))

include hr hk hm hn hf

theorem exec_writeGroup_taken (cfg : GroupConfig) (hcfg : cfg.inRange = true) : exec (.writeGroup h cfg.bytes) s =
    .next (((s.shiftOut h.clocked).groupEvent g cfg).returning h 2 .ok (nameOf .group g.val)) := by
  refine congrArg _ (s.write_answers _ h .group g _ _ .ok hr hn hk ((Mode.commissioning_iff _).2 hm) hf ?_)
  simp only [GroupConfig.parse_bytes cfg hcfg]
  rfl

theorem exec_writeGroup_outOfRange (p : List Byte) (hp : GroupConfig.parse p = none) :
    exec (.writeGroup h p) s = .next (s.refusing h 2 .range s.groups[g].rev) := by
  rw [← s.recordRev_group g]
  refine congrArg _ (s.write_outOfRange h .group g _ _ hr hn hk ((Mode.commissioning_iff _).2 hm) hf ?_)
  simp only [hp]

end Frame

theorem State.groupEvent_link (s : State) (g : Fin 16) (cfg : GroupConfig) : (s.groupEvent g cfg).link = s.link :=
  (event_link _ s).trans (s.writeGroup_link g cfg)

/-- The answer of a taken WRITE of GROUP g. -/
theorem State.groupAnswer_link (s : State) (h : Header) (g : Fin 16) (cfg : GroupConfig) :
    (((s.shiftOut h.clocked).groupEvent g cfg).returning h 2 .ok (nameOf .group g.val)).link =
      s.link.answered h (h.reply 2 .ok ((s.shiftOut h.clocked).groupEvent g cfg).groups[g].rev
        ((s.shiftOut h.clocked).groupEvent g cfg).groups[g].layout) := by
  rw [State.returning, State.recordRev_group, State.layout_group, State.answering, State.setSlot, State.mapLink_link,
    State.groupEvent_link]
  rfl

/-- Settles O14: the event of the write, field by field, and the refusals of a payload out of range. -/
theorem writeGroupReplacesFields : Obligations.WriteGroupReplacesFields := by
  unfold Obligations.WriteGroupReplacesFields
  refine ⟨fun s h g cfg hr hn hk hm hf hr1 hr2 hprep hl1 hl2 => ?_, fun s h g hr hn hk hm hf => ?_⟩
  case refine_1 =>
    have hcfg := cfg.inRange_iff.2 ⟨hr1, hr2, hprep, hl1, hl2⟩
    let u := s.shiftOut h.clocked
    let t := (u.groupEvent g cfg).returning h 2 .ok (nameOf .group g.val)
    exact ⟨t, exec_writeGroup_taken s h g hr hk hm hn hf cfg hcfg, (u.groupEvent_sup g cfg hm).1,
      (u.groupEvent_cfg g cfg hm g).trans (if_pos rfl), fun j hj => (u.groupEvent_cfg g cfg hm j).trans (if_neg hj),
      fun j => ⟨u.groupEvent_isolatedCable g cfg hm j, u.groupEvent_redOut g cfg hm j, u.groupEvent_rev g cfg hm j⟩,
      (u.groupEvent_sup g cfg hm).2, s.groupAnswer_link h g cfg,
      fun hu => ⟨congrArg (fun e : State => { e with link := t.link }) (u.groupEvent_unconfigured g cfg hu),
        fun j => u.groupEvent_group_unconfigured g cfg j hu⟩,
      fun hs => ⟨congrArg (fun e : State => { e with link := t.link }) (u.groupEvent_standby g cfg hs),
        fun j => u.groupEvent_group_standby g cfg j hs⟩⟩
  case refine_2 =>
    have refused := exec_writeGroup_outOfRange s h g hr hk hm hn hf
    exact ⟨fun p hp => refused p (GroupConfig.parse_eq_none_of_length p hp),
      fun _ _ _ _ _ hb => refused _ (GroupConfig.parse_eq_none _ _ _ _ _ hb)⟩

end Sys2Proof.Machine
end

section
/-! The safety records: the written fields of the GROUP, CONFLICT, PROFILE and CABLE records (R7, R11, R87, R124), and
the operations that keep them. Only a taken WRITE of one of these tables, and a main reset, changes them. -/

namespace Sys2Proof.Machine

/-! ## The safety records of a state -/

/-- What a WRITE alone decides of a CABLE record: of its state, whether it is UNUSED (R124, R131, R132). -/
structure CableWritten where
  action : CableAction
  route : Route
  tolerance : Nat
  limit : Nat
  unused : Bool

def Cable.written (c : Cable) : CableWritten :=
  { action := c.action, route := c.route, tolerance := c.tolerance, limit := c.limit, unused := c.state == .unused }

/-- The written fields of the four safety tables. -/
structure SafetyRecords where
  groups : Vector GroupConfig 16
  conflicts : Vector ConflictRow 16
  profiles : Vector Profile 8
  cables : Vector CableWritten 16

def State.safetyRecords (s : State) : SafetyRecords :=
  { groups := s.groups.map Group.cfg, conflicts := s.conflicts, profiles := s.profiles
    cables := s.cables.map Cable.written }

/-- What equal safety records say, record by record. -/
theorem safetyRecords_eq_iff (a b : State) : a.safetyRecords = b.safetyRecords ↔
    (∀ g : Fin 16, a.groups[g].cfg = b.groups[g].cfg) ∧ a.conflicts = b.conflicts ∧ a.profiles = b.profiles ∧
    (∀ k : Fin 16, a.cables[k].written = b.cables[k].written) := by
  have pointwise {α β : Type} (f : α → β) (v w : Vector α 16) :
      v.map f = w.map f ↔ ∀ i : Fin 16, f v[i] = f w[i] := by
    rw [Vector.ext_iff]
    simp only [Vector.getElem_map]
    exact ⟨fun h i => h i.val i.isLt, fun h i hi => h ⟨i, hi⟩⟩
  simp only [State.safetyRecords, SafetyRecords.mk.injEq, pointwise]

theorem Cable.written_eq_iff (a b : Cable) : a.written = b.written ↔
    a.action = b.action ∧ a.route = b.route ∧ a.tolerance = b.tolerance ∧ a.limit = b.limit ∧
      (a.state = .unused ↔ b.state = .unused) := by
  have hunused : ((a.state == .unused) = (b.state == .unused)) ↔ (a.state = .unused ↔ b.state = .unused) := by
    rw [Bool.eq_iff_iff, beq_iff_eq, beq_iff_eq]
  simp only [Cable.written, CableWritten.mk.injEq, hunused]

/-! ## Updates of one part of State -/

/-- A change of the groups alone that keeps their written fields. -/
theorem safetyRecords_of_groups (s : State) (v : Vector Group 16) (h : ∀ g : Fin 16, v[g].cfg = s.groups[g].cfg) :
    ({ s with groups := v } : State).safetyRecords = s.safetyRecords :=
  (safetyRecords_eq_iff _ s).2 ⟨h, rfl, rfl, fun _ => rfl⟩

/-- A change of the cables alone that keeps what a WRITE decides of them. -/
theorem safetyRecords_of_cables (s : State) (v : Vector Cable 16)
    (h : ∀ k : Fin 16, v[k].written = s.cables[k].written) :
    ({ s with cables := v } : State).safetyRecords = s.safetyRecords :=
  (safetyRecords_eq_iff _ s).2 ⟨fun _ => rfl, rfl, rfl, h⟩

theorem State.setCable_safetyRecords (s : State) (k : Fin 16) (x : Cable) (h : x.written = s.cables[k].written) :
    (s.setCable k x).safetyRecords = s.safetyRecords := by
  refine safetyRecords_of_cables s _ fun j => ?_
  by_cases hj : j = k
  · subst hj
    exact (congrArg Cable.written (Vector.getElem_set_self _)).trans h
  · exact congrArg Cable.written (Vector.getElem_set_ne _ _ fun e => hj (Fin.ext e.symm))

theorem State.setGroup_safetyRecords (s : State) (g : Fin 16) (x : Group) (h : x.cfg = s.groups[g].cfg) :
    (s.setGroup g x).safetyRecords = s.safetyRecords := by
  refine safetyRecords_of_groups s _ fun j => ?_
  by_cases hj : j = g
  · subst hj
    exact (congrArg Group.cfg (Vector.getElem_set_self _)).trans h
  · exact congrArg Group.cfg (Vector.getElem_set_ne _ _ fun e => hj (Fin.ext e.symm))

@[simp] theorem State.mapLink_safetyRecords (s : State) (f : Link → Link) :
    (s.mapLink f).safetyRecords = s.safetyRecords := rfl
@[simp] theorem State.mapBase_safetyRecords (s : State) (f : TimeBase → TimeBase) :
    (s.mapBase f).safetyRecords = s.safetyRecords := rfl
@[simp] theorem State.mapSched_safetyRecords (s : State) (f : ScheduleUnit → ScheduleUnit) :
    (s.mapSched f).safetyRecords = s.safetyRecords := rfl
@[simp] theorem State.mapSeq_safetyRecords (s : State) (f : Sequencer → Sequencer) :
    (s.mapSeq f).safetyRecords = s.safetyRecords := rfl
@[simp] theorem State.mapSup_safetyRecords (s : State) (f : Supervisor → Supervisor) :
    (s.mapSup f).safetyRecords = s.safetyRecords := rfl
@[simp] theorem State.mapBridge_safetyRecords (s : State) (f : Bridge → Bridge) :
    (s.mapBridge f).safetyRecords = s.safetyRecords := rfl
@[simp] theorem State.mapAttn_safetyRecords (s : State) (f : Attention → Attention) :
    (s.mapAttn f).safetyRecords = s.safetyRecords := rfl
@[simp] theorem State.post_safetyRecords (s : State) (c : AClass) (t : Table) (i : Nat) :
    (s.post c t i).safetyRecords = s.safetyRecords := rfl
@[simp] theorem State.shiftOut_safetyRecords (s : State) (n : Nat) :
    (s.shiftOut n).safetyRecords = s.safetyRecords := rfl
@[simp] theorem State.setSlot_safetyRecords (s : State) (r : Response) :
    (s.setSlot r).safetyRecords = s.safetyRecords := rfl
@[simp] theorem State.land_safetyRecords (s : State) (r : Response) :
    (s.land r).safetyRecords = s.safetyRecords := rfl
@[simp] theorem State.setChannel_safetyRecords (s : State) (c : Fin 64) (x : Channel) :
    (s.setChannel c x).safetyRecords = s.safetyRecords := rfl
@[simp] theorem State.putChannel_safetyRecords (s : State) (c : Fin 64) (x : Channel) :
    (s.putChannel c x).safetyRecords = s.safetyRecords := rfl
@[simp] theorem State.setPlan_safetyRecords (s : State) (p : Fin 8) (x : Plan) :
    (s.setPlan p x).safetyRecords = s.safetyRecords := rfl
@[simp] theorem State.setStage_safetyRecords (s : State) (d : Fin 96) (x : Stage) :
    (s.setStage d x).safetyRecords = s.safetyRecords := rfl
@[simp] theorem State.setDetector_safetyRecords (s : State) (d : Fin 16) (x : Detector) :
    (s.setDetector d x).safetyRecords = s.safetyRecords := rfl
@[simp] theorem State.setSeqState_safetyRecords (s : State) (q : SeqState) :
    (s.setSeqState q).safetyRecords = s.safetyRecords := rfl
@[simp] theorem State.workOutPending_safetyRecords (s : State) :
    (s.workOutPending).safetyRecords = s.safetyRecords := rfl
@[simp] theorem State.countChannels_safetyRecords (s : State) :
    (s.countChannels).safetyRecords = s.safetyRecords := rfl
@[simp] theorem State.selectReference_safetyRecords (s : State) :
    (s.selectReference).safetyRecords = s.safetyRecords := rfl
@[simp] theorem State.openCycle_safetyRecords (s : State) : (s.openCycle).safetyRecords = s.safetyRecords := rfl
@[simp] theorem State.settleTick_safetyRecords (s : State) : (s.settleTick).safetyRecords = s.safetyRecords := rfl
@[simp] theorem State.refer_safetyRecords (s : State) (n : Nat) : (s.refer n).safetyRecords = s.safetyRecords := rfl

/-- The end of an event moves revisions alone. -/
@[simp] theorem event_safetyRecords (f : State → State) (s : State) :
    (event f s).safetyRecords = (f s).safetyRecords := by
  refine (safetyRecords_eq_iff _ _).2 ⟨(event_alike f s).cfg, rfl, rfl, fun k => ?_⟩
  rw [event_cable, Cable.moved_eq]
  split <;> rfl

/-! ## Groups and cables -/

theorem Group.enter_cfg (g : Group) (a : Aspect) : (g.enter a).cfg = g.cfg := by
  unfold Group.enter
  split <;> rfl

theorem Group.toRed_cfg (g : Group) : g.toRed.cfg = g.cfg := by
  rw [Group.toRed_eq, Group.turnedRed]
  split <;> rfl

theorem Group.darkStep_cfg (g : Group) : g.darkStep.cfg = g.cfg := by
  unfold Group.darkStep
  repeat' split
  all_goals simp only [Group.enter_cfg]

theorem Interstage.stepGroup_cfg (r : Interstage) (i : Fin 16) (g : Group) : (r.stepGroup i g).cfg = g.cfg := by
  unfold Interstage.stepGroup
  repeat' split
  all_goals simp only [Group.enter_cfg]

/-- A change of every group that keeps its written fields. -/
theorem safetyRecords_of_map (s : State) (f : Group → Group) (h : ∀ g, (f g).cfg = g.cfg) :
    ({ s with groups := s.groups.map f } : State).safetyRecords = s.safetyRecords :=
  safetyRecords_of_groups s _ fun g => (congrArg Group.cfg (Vector.getElem_map f g.isLt)).trans (h _)

@[simp] theorem State.groupsToRed_safetyRecords (s : State) : (s.groupsToRed).safetyRecords = s.safetyRecords :=
    safetyRecords_of_map s _ Group.toRed_cfg

@[simp] theorem State.darkCauses_safetyRecords (s : State) : (s.darkCauses).safetyRecords = s.safetyRecords :=
    safetyRecords_of_groups s _ s.darkCauses_alike.cfg

@[simp] theorem State.redCauses_safetyRecords (s : State) : (s.redCauses).safetyRecords = s.safetyRecords :=
    safetyRecords_of_groups s _ s.redCauses_alike.cfg

@[simp] theorem State.setStatus_safetyRecords (s : State) (k : Fin 16) (t : TestStatus) :
    (s.setStatus k t).safetyRecords = s.safetyRecords := s.setCable_safetyRecords k _ rfl

/-! ## The cable monitor -/

@[simp] theorem State.postIf_safetyRecords (s : State) (b : Bool) (c : AClass) (t : Table) (i : Nat) :
    (s.postIf b c t i).safetyRecords = s.safetyRecords := by
  simp only [State.postIf]
  split <;> simp

@[simp] theorem State.request_safetyRecords (s : State) (r : TestRequest) :
    (s.request r).safetyRecords = s.safetyRecords := by
  simp only [State.request]
  split <;> simp

@[simp] theorem State.removeEntry_safetyRecords (s : State) (k : Fin 16) (t : TestStatus) :
    (s.removeEntry k t).safetyRecords = s.safetyRecords := by
  simp only [State.removeEntry]
  split <;> simp

@[simp] theorem State.abandonTest_safetyRecords (s : State) : (s.abandonTest).safetyRecords = s.safetyRecords := by
  simp only [State.abandonTest]
  split <;> simp

/-- A MONITORED cable that is isolated is not UNUSED, before and after (R131). -/
theorem State.isolate_safetyRecords (s : State) (k : Fin 16) (h : s.cables[k].state ≠ .unused) :
    (s.isolate k).safetyRecords = s.safetyRecords := by
  rw [State.isolate, State.darkCauses_safetyRecords]
  refine s.setCable_safetyRecords k _ ((Cable.written_eq_iff _ _).2 ⟨rfl, rfl, rfl, rfl, ?_⟩)
  exact iff_of_false nofun h

@[simp] theorem State.confirmFault_safetyRecords (s : State) (k : Fin 16) (f : CableFault) :
    (s.confirmFault k f).safetyRecords = s.safetyRecords := by
  have hfaults : ((s.setCable k { s.cables[k] with faults := s.cables[k].faults.add f }).post
      s.cables[k].route.cls .cable k.val).safetyRecords = s.safetyRecords := s.setCable_safetyRecords k _ rfl
  simp only [State.confirmFault]
  split
  · rfl
  · split
    case isTrue h =>
      rw [State.isolate_safetyRecords, hfaults]
      have hget : (s.cables.set k { s.cables[k] with faults := s.cables[k].faults.add f })[k] = _ :=
        Vector.getElem_set_self k.isLt
      change (s.cables.set k { s.cables[k] with faults := s.cables[k].faults.add f })[k].state ≠ .unused
      rw [hget]
      exact fun hu => nomatch h.2.symm.trans hu
    case isFalse => exact hfaults

@[simp] theorem State.beginTest_safetyRecords (s : State) (k : Fin 16) :
    (s.beginTest k).safetyRecords = s.safetyRecords := by
  simp [State.beginTest]

@[simp] theorem State.bridgeFault_safetyRecords (s : State) : (s.bridgeFault).safetyRecords = s.safetyRecords := by
  simp [State.bridgeFault]

@[simp] theorem State.arbitrate_safetyRecords (s : State) (b : Microamps) :
    (s.arbitrate b).safetyRecords = s.safetyRecords := by
  simp only [State.arbitrate]
  repeat' split
  all_goals simp

@[simp] theorem State.chargeEnd_safetyRecords (s : State) : (s.chargeEnd).safetyRecords = s.safetyRecords := by
  simp [State.chargeEnd]

@[simp] theorem State.applyResult_safetyRecords (s : State) (k : Fin 16) (retest passed : Bool) :
    (s.applyResult k retest passed).safetyRecords = s.safetyRecords := by
  simp only [State.applyResult]
  split
  · exact s.setCable_safetyRecords k _ rfl
  · split
    · split
      · exact s.confirmFault_safetyRecords k _
      · exact s.request_safetyRecords _
    · rw [State.request_safetyRecords]
      exact s.setCable_safetyRecords k _ rfl

@[simp] theorem State.completeTest_safetyRecords (s : State) (m : Microamps) :
    (s.completeTest m).safetyRecords = s.safetyRecords := by
  simp only [State.completeTest]
  split
  · rfl
  · split
    · rfl
    · rw [State.postIf_safetyRecords, State.applyResult_safetyRecords]
      exact (s.mapBridge _).setCable_safetyRecords _ _ rfl

@[simp] theorem State.advanceTest_safetyRecords (s : State) (m : Microamps) :
    (s.advanceTest m).safetyRecords = s.safetyRecords := by
  simp only [State.advanceTest]
  repeat' split
  all_goals simp

@[simp] theorem State.timeOut_safetyRecords (s : State) : (s.timeOut).safetyRecords = s.safetyRecords :=
    foldl_keeps State.safetyRecords _ (by intros; simp) _ _

@[simp] theorem State.ageQueue_safetyRecords (s : State) : (s.ageQueue).safetyRecords = s.safetyRecords := by
  simp [State.ageQueue]

@[simp] theorem State.queueTenth_safetyRecords (s : State) (i : TenthInput) :
    (s.queueTenth i).safetyRecords = s.safetyRecords := by
  simp [State.queueTenth]

@[simp] theorem State.startSweep_safetyRecords (s : State) : (s.startSweep).safetyRecords = s.safetyRecords :=
    foldl_keeps State.safetyRecords _ (by intros; split <;> simp) _ _

/-! ## The supervisor's modes and causes -/

@[simp] theorem State.directStopped_safetyRecords (s : State) :
    (s.directStopped).safetyRecords = s.safetyRecords := by
  simp [State.directStopped]

@[simp] theorem State.directSuspended_safetyRecords (s : State) :
    (s.directSuspended).safetyRecords = s.safetyRecords := by
  simp [State.directSuspended]

@[simp] theorem State.directAllRed_safetyRecords (s : State) : (s.directAllRed).safetyRecords = s.safetyRecords := by
  simp [State.directAllRed]

@[simp] theorem State.clearPortFor_safetyRecords (s : State) (m : Mode) :
    (s.clearPortFor m).safetyRecords = s.safetyRecords := by
  simp only [State.clearPortFor]
  split <;> rfl

@[simp] theorem State.directFor_safetyRecords (s : State) (m : Mode) :
    (s.directFor m).safetyRecords = s.safetyRecords := by
  cases m <;> simp [State.directFor]

@[simp] theorem State.enterMode_safetyRecords (s : State) (m : Mode) :
    (s.enterMode m).safetyRecords = s.safetyRecords := by
  simp only [State.enterMode]
  split <;> simp

@[simp] theorem State.changeMode_safetyRecords (s : State) (m : Mode) (c : AClass) :
    (s.changeMode m c).safetyRecords = s.safetyRecords := by
  simp [State.changeMode]

@[simp] theorem State.failSafe_safetyRecords (s : State) (c : Cause) :
    (s.failSafe c).safetyRecords = s.safetyRecords := by
  simp [State.failSafe]

@[simp] theorem State.recordFurther_safetyRecords (s : State) (r : CauseSet) :
    (s.recordFurther r).safetyRecords = s.safetyRecords := by
  simp only [State.recordFurther]
  repeat' split
  all_goals simp

@[simp] theorem State.raise_safetyRecords (s : State) (r : CauseSet) :
    (s.raise r).safetyRecords = s.safetyRecords := by
  simp only [State.raise]
  repeat' split
  all_goals simp

@[simp] theorem State.refreshOnce_safetyRecords (s : State) : (s.refreshOnce).safetyRecords = s.safetyRecords := by
  simp [State.refreshOnce]

@[simp] theorem State.refresh_safetyRecords (s : State) : (s.refresh).safetyRecords = s.safetyRecords := by
  simp only [State.refresh]
  split <;> simp

@[simp] theorem State.raiseAck_safetyRecords (s : State) (c : Cause) :
    (s.raiseAck c).safetyRecords = s.safetyRecords := by
  simp [State.raiseAck]

@[simp] theorem State.raisePresent_safetyRecords (s : State) : (s.raisePresent).safetyRecords = s.safetyRecords := by
  simp [State.raisePresent]

@[simp] theorem State.forceRaise_safetyRecords (s : State) : (s.forceRaise).safetyRecords = s.safetyRecords := by
  simp only [State.forceRaise]
  split <;> simp

@[simp] theorem State.beginStart_safetyRecords (s : State) : (s.beginStart).safetyRecords = s.safetyRecords := by
  simp only [State.beginStart]
  split <;> simp

@[simp] theorem State.beginAllRed_safetyRecords (s : State) : (s.beginAllRed).safetyRecords = s.safetyRecords := by
  simp [State.beginAllRed]

@[simp] theorem State.mainsLost_safetyRecords (s : State) : (s.mainsLost).safetyRecords = s.safetyRecords := by
  simp only [State.mainsLost]
  split <;> simp

@[simp] theorem State.returnMode_safetyRecords (s : State) : (s.returnMode).safetyRecords = s.safetyRecords := by
  simp only [State.returnMode]
  split <;> simp

@[simp] theorem State.mainsReturn_safetyRecords (s : State) : (s.mainsReturn).safetyRecords = s.safetyRecords := by
  simp only [State.mainsReturn]
  repeat' split
  all_goals simp

/-! ## The schedule unit -/

@[simp] theorem State.workOutRequested_safetyRecords (s : State) :
    (s.workOutRequested).safetyRecords = s.safetyRecords := by
  simp [State.workOutRequested]

@[simp] theorem State.changeDimming_safetyRecords (s : State) (d : Dimming) :
    (s.changeDimming d).safetyRecords = s.safetyRecords := rfl

@[simp] theorem State.workOutDimming_safetyRecords (s : State) :
    (s.workOutDimming).safetyRecords = s.safetyRecords := by
  simp only [State.workOutDimming]
  split <;> simp

@[simp] theorem State.schedulePlan_safetyRecords (s : State) (p : Fin 8) (d : Dimming) :
    (s.schedulePlan p d).safetyRecords = s.safetyRecords := by
  simp [State.schedulePlan]

@[simp] theorem State.setScheduled_safetyRecords (s : State) (p : Fin 8) (d : Dimming) :
    (s.setScheduled p d).safetyRecords = s.safetyRecords := by
  simp [State.setScheduled]

@[simp] theorem State.minuteBoundary_safetyRecords (s : State) :
    (s.minuteBoundary).safetyRecords = s.safetyRecords := by
  simp only [State.minuteBoundary]
  repeat' split
  all_goals simp

@[simp] theorem State.workOutEntry_safetyRecords (s : State) : (s.workOutEntry).safetyRecords = s.safetyRecords := by
  simp only [State.workOutEntry]
  split <;> simp

@[simp] theorem State.clockTenth_safetyRecords (s : State) : (s.clockTenth).safetyRecords = s.safetyRecords := by
  simp only [State.clockTenth]
  split <;> simp

/-! ## The stage sequencer -/

@[simp] theorem State.beginGreen_safetyRecords (s : State) (b : Fin 96) :
    (s.beginGreen b).safetyRecords = s.safetyRecords := rfl

@[simp] theorem State.endInterstage_safetyRecords (s : State) :
    (s.endInterstage).safetyRecords = s.safetyRecords := by
  simp only [State.endInterstage]
  repeat' split
  all_goals simp

@[simp] theorem State.interstageStep_safetyRecords (s : State) :
    (s.interstageStep).safetyRecords = s.safetyRecords := by
  simp only [State.interstageStep]
  split
  · rw [State.endInterstage_safetyRecords]
    exact safetyRecords_of_groups s _ fun g => by rw [ofFn_get, Interstage.stepGroup_cfg]
  · rfl

@[simp] theorem State.workGreen_safetyRecords (s : State) : (s.workGreen).safetyRecords = s.safetyRecords := by
  simp only [State.workGreen]
  split <;> simp

@[simp] theorem State.freshGreen_safetyRecords (s : State) : (s.freshGreen).safetyRecords = s.safetyRecords := by
  simp only [State.freshGreen]
  split <;> simp

@[simp] theorem State.startTransition_safetyRecords (s : State) (a : Option (Fin 96)) (b : Fin 96) :
    (s.startTransition a b).safetyRecords = s.safetyRecords := by
  simp only [State.startTransition, State.freshGreen_safetyRecords, State.interstageStep_safetyRecords,
    State.mapSeq_safetyRecords]
  refine safetyRecords_of_groups s _ fun g => ?_
  rw [ofFn_get]
  split
  · exact Group.enter_cfg _ _
  · rfl

@[simp] theorem State.indicate_safetyRecords (s : State) : (s.indicate).safetyRecords = s.safetyRecords := by
  simp [State.indicate]

@[simp] theorem State.changePlan_safetyRecords (s : State) (c : Fin 96) (q : Fin 8) :
    (s.changePlan c q).safetyRecords = s.safetyRecords := by
  simp only [State.changePlan]
  split <;> simp

@[simp] theorem State.leaveStage_safetyRecords (s : State) : (s.leaveStage).safetyRecords = s.safetyRecords := by
  simp only [State.leaveStage]
  repeat' split
  all_goals simp

@[simp] theorem State.judgeExtending_safetyRecords (s : State) :
    (s.judgeExtending).safetyRecords = s.safetyRecords := by
  simp only [State.judgeExtending]
  repeat' split
  all_goals simp

@[simp] theorem State.endMinGreen_safetyRecords (s : State) : (s.endMinGreen).safetyRecords = s.safetyRecords := by
  simp only [State.endMinGreen]
  split <;> simp

@[simp] theorem State.judgeGreen_safetyRecords (s : State) : (s.judgeGreen).safetyRecords = s.safetyRecords := by
  simp only [State.judgeGreen]
  repeat' split
  all_goals simp

@[simp] theorem State.greenStep_safetyRecords (s : State) : (s.greenStep).safetyRecords = s.safetyRecords := by
  simp only [State.greenStep]
  split <;> simp

@[simp] theorem State.enterPlan_safetyRecords (s : State) : (s.enterPlan).safetyRecords = s.safetyRecords := by
  simp only [State.enterPlan]
  repeat' split
  all_goals simp

@[simp] theorem State.detectorFaulty_safetyRecords (s : State) (n : Fin 16) :
    (s.detectorFaulty n).safetyRecords = s.safetyRecords := by
  simp [State.detectorFaulty]

@[simp] theorem State.sampleDetectors_safetyRecords (s : State) (p : Set16) :
    (s.sampleDetectors p).safetyRecords = s.safetyRecords := rfl

@[simp] theorem State.raiseTimers_safetyRecords (s : State) : (s.raiseTimers).safetyRecords = s.safetyRecords :=
    safetyRecords_of_map s _ fun _ => rfl

@[simp] theorem State.stuckCheck_safetyRecords (s : State) : (s.stuckCheck).safetyRecords = s.safetyRecords :=
    foldl_keeps State.safetyRecords _ (by intros; split <;> simp) _ _

@[simp] theorem State.sequencerTenth_safetyRecords (s : State) :
    (s.sequencerTenth).safetyRecords = s.safetyRecords := by
  simp [State.sequencerTenth]

@[simp] theorem State.darkStep_safetyRecords (s : State) : (s.darkStep).safetyRecords = s.safetyRecords :=
    safetyRecords_of_map s _ Group.darkStep_cfg

/-! ## The proving unit and the cycle checks -/

@[simp] theorem State.verdictChanged_safetyRecords (s : State) :
    (s.verdictChanged).safetyRecords = s.safetyRecords := by
  simp [State.verdictChanged]

@[simp] theorem State.proveTick_safetyRecords (s : State) (r : Option Readings) (o : Vector Bool 64) :
    (s.proveTick r o).safetyRecords = s.safetyRecords := by
  simp only [State.proveTick, foldl_post_keeps State.safetyRecords State.postIf_safetyRecords]
  rfl

@[simp] theorem State.verdictTick_safetyRecords (s : State) (b : Bool) :
    (s.verdictTick b).safetyRecords = s.safetyRecords := by
  simp only [State.verdictTick]
  split <;> simp

@[simp] theorem State.completeLearning_safetyRecords (s : State) (c : Fin 64) :
    (s.completeLearning c).safetyRecords = s.safetyRecords := by
  simp [State.completeLearning]

@[simp] theorem State.confirmStreak_safetyRecords (s : State) (c : Fin 64) :
    (s.confirmStreak c).safetyRecords = s.safetyRecords := by
  simp only [State.confirmStreak]
  split <;> simp

@[simp] theorem State.recordCables_safetyRecords (s : State) (r : Readings) :
    (s.recordCables r).safetyRecords = s.safetyRecords :=
  safetyRecords_of_cables s _ fun k => (congrArg Cable.written (ofFn_get _ k)).trans rfl

@[simp] theorem State.confirmOpen_safetyRecords (s : State) (k : Fin 16) :
    (s.confirmOpen k).safetyRecords = s.safetyRecords := by
  rw [State.confirmOpen, State.confirmFault_safetyRecords]
  exact s.setCable_safetyRecords k _ rfl

@[simp] theorem State.confirmBalance_safetyRecords (s : State) (k : Fin 16) :
    (s.confirmBalance k).safetyRecords = s.safetyRecords := by
  rw [State.confirmBalance, State.confirmFault_safetyRecords]
  exact s.setCable_safetyRecords k _ rfl

@[simp] theorem State.openBad_safetyRecords (s : State) (k : Fin 16) :
    (s.openBad k).safetyRecords = s.safetyRecords := by
  simp only [State.openBad]
  split
  · rw [event_safetyRecords, State.confirmOpen_safetyRecords]
    exact s.setCable_safetyRecords k _ rfl
  · exact s.setCable_safetyRecords k _ rfl

@[simp] theorem State.judgeBalance_safetyRecords (s : State) (k : Fin 16) :
    (s.judgeBalance k).safetyRecords = s.safetyRecords := by
  simp only [State.judgeBalance]
  generalize (if s.cables[k].unbalanced = true then s.cables[k].balanceStreak + 1 else 0) = n
  split
  · rw [event_safetyRecords, State.confirmBalance_safetyRecords]
    exact s.setCable_safetyRecords k _ rfl
  · exact s.setCable_safetyRecords k _ rfl

@[simp] theorem State.evaluateCable_safetyRecords (s : State) (k : Fin 16) :
    (s.evaluateCable k).safetyRecords = s.safetyRecords := by
  simp only [State.evaluateCable]
  repeat' split
  all_goals simp

@[simp] theorem State.cableTick_safetyRecords (s : State) (r : Option Readings) :
    (s.cableTick r).safetyRecords = s.safetyRecords := by
  cases r with
  | none => rfl
  | some r => exact (foldl_keeps State.safetyRecords _ (by intros; simp) _ _).trans (by simp)

/-! ## The supervisor's work at ticks -/

@[simp] theorem State.withhold_safetyRecords (s : State) : (s.withhold).safetyRecords = s.safetyRecords := by
  rw [State.withhold, State.raiseAck_safetyRecords]
  rfl

@[simp] theorem State.yieldBridge_safetyRecords (s : State) (v : Vector Bool 64) :
    (s.yieldBridge v).safetyRecords = s.safetyRecords := by
  simp only [State.yieldBridge]
  repeat' split
  all_goals simp

@[simp] theorem State.accept_safetyRecords (s : State) (v : Vector Bool 64) :
    (s.accept v).safetyRecords = s.safetyRecords := by
  rw [State.accept, State.yieldBridge_safetyRecords]
  rfl

@[simp] theorem State.examine_safetyRecords (s : State) (v : Vector Bool 64) :
    (s.examine v).safetyRecords = s.safetyRecords := by
  simp only [State.examine]
  split <;> simp

@[simp] theorem State.sequencerCycle_safetyRecords (s : State) (m : Bool) (d : Set16) :
    (s.sequencerCycle m d).safetyRecords = s.safetyRecords := by
  simp only [State.sequencerCycle]
  split <;> simp

@[simp] theorem State.provenConflict_safetyRecords (s : State) (i j : Fin 16) :
    (s.provenConflict i j).safetyRecords = s.safetyRecords := by
  simp [State.provenConflict]

@[simp] theorem State.evidenceTick_safetyRecords (s : State) (f : Supervisor) (m : Bool) (e : Vector Bool 64) :
    (s.evidenceTick f m e).safetyRecords = s.safetyRecords := by
  simp only [State.evidenceTick]
  repeat' split
  all_goals simp

@[simp] theorem State.limitDarkTest_safetyRecords (s : State) :
    (s.limitDarkTest).safetyRecords = s.safetyRecords := by
  simp only [State.limitDarkTest, State.beginAllRed_safetyRecords, State.post_safetyRecords]
  exact foldl_keeps State.safetyRecords _ (by intros; simp) _ _

@[simp] theorem State.judgePhase_safetyRecords (s : State) : (s.judgePhase).safetyRecords = s.safetyRecords := by
  simp only [State.judgePhase]
  repeat' split
  all_goals simp

@[simp] theorem State.supervisorTenth_safetyRecords (s : State) :
    (s.supervisorTenth).safetyRecords = s.safetyRecords := by
  simp [State.supervisorTenth]

/-! ## The time base -/

@[simp] theorem State.queueAndPhase_safetyRecords (s : State) (i : TenthInput) :
    (s.queueAndPhase i).safetyRecords = s.safetyRecords := by
  simp only [State.queueAndPhase]
  split <;> simp

@[simp] theorem State.tenth_safetyRecords (s : State) (i : TenthInput) :
    (s.tenth i).safetyRecords = s.safetyRecords := by
  simp only [State.tenth]
  split <;> simp

@[simp] theorem State.atTurn_safetyRecords (s : State) (m : Bool) (i : TickInput) (n : Nat) :
    (s.atTurn m i n).safetyRecords = s.safetyRecords := by
  simp only [State.atTurn]
  split <;> simp

@[simp] theorem State.tickBlocks_safetyRecords (s : State) (m : Bool) (i : TickInput) (o e : Vector Bool 64) :
    (s.tickBlocks m i o e).safetyRecords = s.safetyRecords := by
  simp only [State.tickBlocks]
  rw [foldl_works_keeps State.safetyRecords _ _ (by intros; simp) _
    (tickWorks_keeps State.safetyRecords _ _ _ _ (by intros; simp) (by intros; simp) (by intros; simp))]
  simp

@[simp] theorem State.cycleTick_safetyRecords (s : State) (m : Bool) (i : TickInput) :
    (s.cycleTick m i).safetyRecords = s.safetyRecords := by
  simp only [State.cycleTick]
  split <;> simp

@[simp] theorem State.setTracker_safetyRecords (s : State) (m : MainsState) :
    (s.setTracker m).safetyRecords = s.safetyRecords := by
  simp [State.setTracker]

@[simp] theorem State.endCycle_safetyRecords (s : State) (m : Bool) (i : TickInput) :
    (s.endCycle m i).safetyRecords = s.safetyRecords := by
  simp [State.endCycle]

@[simp] theorem State.causedTenth_safetyRecords (s : State) (b : TimeBase) (i : TickInput) :
    (s.causedTenth b i).safetyRecords = s.safetyRecords := by
  simp only [State.causedTenth]
  split <;> simp

@[simp] theorem State.takeReturn_safetyRecords (s : State) (o : TickOrder) :
    (s.takeReturn o).safetyRecords = s.safetyRecords := by
  simp only [State.takeReturn]
  split <;> simp

@[simp] theorem State.lock_safetyRecords (s : State) (o : TickOrder) :
    (s.lock o).safetyRecords = s.safetyRecords := by
  simp [State.lock]

@[simp] theorem State.loseMains_safetyRecords (s : State) : (s.loseMains).safetyRecords = s.safetyRecords := by
  simp [State.loseMains]

@[simp] theorem State.slip_safetyRecords (s : State) (i : TickInput) :
    (s.slip i).safetyRecords = s.safetyRecords := by
  simp [State.slip]

@[simp] theorem State.firstWindow_safetyRecords (s : State) (i : TickInput) :
    (s.firstWindow i).safetyRecords = s.safetyRecords := by
  simp only [State.firstWindow]
  split <;> simp

@[simp] theorem State.secondWindow_safetyRecords (s : State) : (s.secondWindow).safetyRecords = s.safetyRecords := by
  simp only [State.secondWindow]
  split <;> simp

@[simp] theorem State.openAt_safetyRecords (s : State) (n : Nat) : (s.openAt n).safetyRecords = s.safetyRecords := by
  simp [State.openAt]

@[simp] theorem State.countGood_safetyRecords (s : State) (o : TickOrder) :
    (s.countGood o).safetyRecords = s.safetyRecords := by
  simp only [State.countGood]
  split <;> simp

/-- An accepted crossing keeps the safety records where what the tracker then does keeps them. -/
theorem State.acceptCrossing_safetyRecords (s : State) (x : CrossingInput) (f : State → State)
    (h : ∀ t, (f t).safetyRecords = t.safetyRecords) :
    (s.acceptCrossing x f).safetyRecords = s.safetyRecords := by
  simp only [State.acceptCrossing]
  split <;> simp [h]

@[simp] theorem State.acquire_safetyRecords (s : State) (x : CrossingInput) :
    (s.acquire x).safetyRecords = s.safetyRecords := by
  simp only [State.acquire]
  split
  · exact s.openAt_safetyRecords _
  · split
    · rfl
    · exact s.acceptCrossing_safetyRecords x _ fun t => t.countGood_safetyRecords _
    · exact s.acceptCrossing_safetyRecords x _ fun _ => rfl
    · exact s.openAt_safetyRecords _

@[simp] theorem State.crossLocked_safetyRecords (s : State) (x : CrossingInput) :
    (s.crossLocked x).safetyRecords = s.safetyRecords := by
  have htaken : (s.acceptCrossing x id).safetyRecords = s.safetyRecords :=
    s.acceptCrossing_safetyRecords x id fun _ => rfl
  simp only [State.crossLocked]
  split
  · exact s.openAt_safetyRecords _
  · split
    · rfl
    all_goals exact htaken

@[simp] theorem State.expireBefore_safetyRecords (s : State) (x : CrossingInput) :
    (s.expireBefore x).safetyRecords = s.safetyRecords := by
  simp only [State.expireBefore]
  repeat' split
  all_goals simp

@[simp] theorem State.cross_safetyRecords (s : State) (x : CrossingInput) :
    (s.cross x).safetyRecords = s.safetyRecords := by
  simp only [State.cross]
  split <;> simp [State.acceptCrossing_safetyRecords]

@[simp] theorem State.zeroCrossing_safetyRecords (s : State) (x : CrossingInput) :
    (s.zeroCrossing x).safetyRecords = s.safetyRecords := by
  simp [State.zeroCrossing]

@[simp] theorem State.crystalTenth_safetyRecords (s : State) (i : TenthInput) :
    (s.crystalTenth i).safetyRecords = s.safetyRecords := by
  simp only [State.crystalTenth]
  split <;> simp

@[simp] theorem State.cascadeTenth_safetyRecords (s : State) (i : TenthInput) :
    (s.cascadeTenth i).safetyRecords = s.safetyRecords := by
  simp only [State.cascadeTenth]
  split <;> simp

/-! ## Commands -/

@[simp] theorem State.writeChannel_safetyRecords (s : State) (c : Fin 64) (cfg : ChannelConfig) :
    (s.writeChannel c cfg).safetyRecords = s.safetyRecords := by
  simp [State.writeChannel]

@[simp] theorem State.writePlan_safetyRecords (s : State) (p : Fin 8) (cfg : PlanConfig) :
    (s.writePlan p cfg).safetyRecords = s.safetyRecords := by
  simp [State.writePlan]

@[simp] theorem State.writeStage_safetyRecords (s : State) (d : Fin 96) (cfg : StageConfig) :
    (s.writeStage d cfg).safetyRecords = s.safetyRecords := by
  simp [State.writeStage]

@[simp] theorem State.writeSchedule_safetyRecords (s : State) (e : Fin 24) (cfg : ScheduleConfig) :
    (s.writeSchedule e cfg).safetyRecords = s.safetyRecords := rfl

@[simp] theorem State.writeDetector_safetyRecords (s : State) (d : Fin 16) (cfg : DetectorConfig) :
    (s.writeDetector d cfg).safetyRecords = s.safetyRecords := by
  simp [State.writeDetector]

@[simp] theorem State.writeJunction_safetyRecords (s : State) (cfg : JunctionConfig) :
    (s.writeJunction cfg).safetyRecords = s.safetyRecords := by
  simp [State.writeJunction]

@[simp] theorem State.retirePlan_safetyRecords (s : State) (p : Fin 8) :
    (s.retirePlan p).safetyRecords = s.safetyRecords := by
  rw [State.retirePlan, State.workOutRequested_safetyRecords]
  rfl

@[simp] theorem State.retireStage_safetyRecords (s : State) (d : Fin 96) :
    (s.retireStage d).safetyRecords = s.safetyRecords := by
  simp [State.retireStage]

@[simp] theorem State.retireSchedule_safetyRecords (s : State) (e : Fin 24) :
    (s.retireSchedule e).safetyRecords = s.safetyRecords := by
  simp [State.retireSchedule]

@[simp] theorem State.loadChain_safetyRecords (s : State) (p : Fin 8) (n : Nat) (l : List (Fin 96)) :
    (s.loadChain p n l).safetyRecords = s.safetyRecords := by
  simp only [State.loadChain]
  split
  · rfl
  · rw [State.workOutRequested_safetyRecords]
    rfl

@[simp] theorem State.landInvalid_safetyRecords (s : State) (c : Call) (f : Failure) :
    (s.landInvalid c f).safetyRecords = s.safetyRecords := by
  simp [State.landInvalid]

@[simp] theorem State.finishLoad_safetyRecords (s : State) (f : InFlight) (p : Fin 8) :
    (s.finishLoad f p).safetyRecords = s.safetyRecords := by
  simp only [State.finishLoad]
  split <;> simp

@[simp] theorem State.selectOverride_safetyRecords (s : State) (p : Fin 8) :
    (s.selectOverride p).safetyRecords = s.safetyRecords := by
  simp [State.selectOverride]

@[simp] theorem State.selectFollow_safetyRecords (s : State) : (s.selectFollow).safetyRecords = s.safetyRecords := by
  simp [State.selectFollow]

@[simp] theorem State.commission_safetyRecords (s : State) : (s.commission).safetyRecords = s.safetyRecords := by
  simp only [State.commission]
  split <;> simp

@[simp] theorem State.finishCommit_safetyRecords (s : State) (f : InFlight) :
    (s.finishCommit f).safetyRecords = s.safetyRecords := by
  simp only [State.finishCommit]
  split <;> simp

@[simp] theorem State.takeStart_safetyRecords (s : State) : (s.takeStart).safetyRecords = s.safetyRecords := by
  simp [State.takeStart]

@[simp] theorem State.takeStop_safetyRecords (s : State) : (s.takeStop).safetyRecords = s.safetyRecords := by
  simp [State.takeStop]

@[simp] theorem State.takeDark_safetyRecords (s : State) : (s.takeDark).safetyRecords = s.safetyRecords := by
  simp [State.takeDark]

@[simp] theorem State.setTime_safetyRecords (s : State) (t : TimeOfDay) :
    (s.setTime t).safetyRecords = s.safetyRecords := by
  simp [State.setTime]

@[simp] theorem State.setDim_safetyRecords (s : State) (d : DimOverride) :
    (s.setDim d).safetyRecords = s.safetyRecords := by
  simp [State.setDim]

@[simp] theorem State.requestAll_safetyRecords (s : State) (l : List TestRequest) :
    (s.requestAll l).safetyRecords = s.safetyRecords := foldl_keeps State.safetyRecords _ (by intros; simp) _ _

@[simp] theorem State.clearChannel_safetyRecords (s : State) (x : Fin 64) :
    (s.clearChannel x).safetyRecords = s.safetyRecords := by
  simp only [State.clearChannel]
  split <;> simp

@[simp] theorem State.clearCable_safetyRecords (s : State) (k : Fin 16) :
    (s.clearCable k).safetyRecords = s.safetyRecords := by
  simp only [State.clearCable]
  split
  case h_1 => rfl
  case h_2 =>
    rw [State.request_safetyRecords]
    exact s.setCable_safetyRecords k _ rfl
  case h_3 h =>
    have hs : s.cables[k].state = .isolated := h
    rw [State.request_safetyRecords, State.darkCauses_safetyRecords]
    refine s.setCable_safetyRecords k _ ((Cable.written_eq_iff _ _).2 ⟨rfl, rfl, rfl, rfl, ?_⟩)
    exact iff_of_false nofun (by rw [hs]; exact nofun)

@[simp] theorem State.clearJunction_safetyRecords (s : State) :
    (s.clearJunction).safetyRecords = s.safetyRecords := by
  simp [State.clearJunction]

@[simp] theorem State.stepOne_safetyRecords (s : State) (g : Fin 16) :
    (s.stepOne g).safetyRecords = s.safetyRecords := by
  simp only [State.stepOne]
  split
  · rfl
  · rw [State.freshGreen_safetyRecords, State.endInterstage_safetyRecords]
    exact s.setGroup_safetyRecords g _ (Interstage.stepGroup_cfg _ _ _)

end Sys2Proof.Machine
end

section
/-! No command but MAIN_RESET changes the safety records unless the key is turned and the mode is UNCONFIGURED or
STANDBY (R7, R11, R87, R124, R184, R186). -/

namespace Sys2Proof.Machine

/-- The key is not turned, or the mode is neither UNCONFIGURED nor STANDBY. -/
def State.frozen (s : State) : Prop :=
  s.link.mkey = false ∨ (s.sup.mode ≠ .unconfigured ∧ s.sup.mode ≠ .standby)

/-! ## The shared steps of a frame -/

/-- What a reply leaves keeps the safety records of the state it was made in. -/
def Reply.Keeps (r : Reply) (s : State) : Prop := r.state.safetyRecords = s.safetyRecords

theorem State.refuse_keeps (s : State) (c : Call) (named : Option RecordName) (st : Status) :
    (s.refuse c named st).Keeps s := rfl

theorem State.invalid_keeps (s : State) (c : Call) (r : RecordName) (k : Check) (extra : Nat) :
    (s.invalid c r k extra).Keeps s := rfl

theorem State.inFlightReply_keeps (s : State) (c : Call) (named : Option RecordName) (w : Work) :
    (s.inFlightReply c named w).Keeps s := rfl

theorem State.returns_keeps (s u : State) (c : Call) (st : Status) (r : RecordName)
    (h : u.safetyRecords = s.safetyRecords) : (u.returns c st r).Keeps s := h

theorem State.returnsJunction_keeps (s u : State) (c : Call) (h : u.safetyRecords = s.safetyRecords) :
    (u.returnsJunction c).Keeps s := h

theorem State.forRecord_keeps {n : Nat} (s : State) (c : Call) (t : Table) (work : Fin n → Reply)
    (h : ∀ i, (work i).Keeps s) : (s.forRecord c t n work).Keeps s := by
  unfold State.forRecord
  split
  · split
    · exact s.refuse_keeps c _ _
    · exact h _
  · exact s.refuse_keeps c _ _

theorem State.gated_keeps (s : State) (c : Call) (named : Option RecordName) (maintenance : Bool)
    (modes : Mode → Bool) (work : Reply) (h : work.Keeps s) : (s.gated c named maintenance modes work).Keeps s := by
  unfold State.gated
  repeat' split
  · exact s.refuse_keeps c _ _
  · exact h
  · exact s.refuse_keeps c _ _

/-- The authority and mode of the safety tables refuse whatever a frozen state is asked (R184, R186). -/
theorem State.gated_frozen (s : State) (c : Call) (named : Option RecordName) (work : Reply) (h : s.frozen) :
    (s.gated c named true Mode.commissioning work).Keeps s := by
  unfold State.gated
  split
  · exact s.refuse_keeps c _ _
  case isFalse hkey =>
    split
    case isTrue hmode =>
      have hturned : s.link.mkey = true := by simpa using hkey
      rcases h with hlocked | ⟨hu, hs⟩
      · exact absurd (hlocked.symm.trans hturned) (by decide)
      · rcases (Mode.commissioning_iff _).1 hmode with h | h
        · exact absurd h hu
        · exact absurd h hs
    case isFalse => exact s.refuse_keeps c _ _

theorem State.unlessStale_keeps (s : State) (c : Call) (r : RecordName) (work : Reply) (h : work.Keeps s) :
    (s.unlessStale c r work).Keeps s := by
  unfold State.unlessStale
  repeat' split
  · exact h
  · exact h
  · exact s.returns_keeps s c _ r rfl

theorem State.noPayload_keeps (s : State) (c : Call) (named : Option RecordName) (payload : List Byte) (work : Reply)
    (h : work.Keeps s) : (s.noPayload c named payload work).Keeps s := by
  unfold State.noPayload
  split
  · exact h
  · exact s.refuse_keeps c _ _

theorem State.whenPowered_safetyRecords (s : State) (f : State → State)
    (h : (f s).safetyRecords = s.safetyRecords) : (s.whenPowered f).safetyRecords = s.safetyRecords := by
  unfold State.whenPowered
  split
  · exact h
  · rfl

theorem State.stepWhen_safetyRecords (s : State) (due : State → Bool) (f : State → State)
    (h : (f s).safetyRecords = s.safetyRecords) : (s.stepWhen due f).safetyRecords = s.safetyRecords := by
  refine s.whenPowered_safetyRecords _ ?_
  split
  · exact (event_safetyRecords f s).trans h
  · rfl

theorem State.runFrame_safetyRecords (s : State) (c : Call) (named : Option RecordName) (work : State → Reply)
    (h : (work (s.shiftOut c.header.clocked)).Keeps (s.shiftOut c.header.clocked)) :
    (s.runFrame c named work).safetyRecords = s.safetyRecords := by
  refine s.whenPowered_safetyRecords _ ?_
  rw [State.setSlot_safetyRecords]
  split
  · rfl
  · exact h

theorem State.write_safetyRecords (s : State) (h : Header) (t : Table) (n : Nat) (maintenance : Bool)
    (modes : Mode → Bool) (work : State → Fin n → Call → Reply) (hw : ∀ u i c, (work u i c).Keeps u) :
    (s.write h t n maintenance modes work).safetyRecords = s.safetyRecords :=
  s.runFrame_safetyRecords _ _ _ <| State.forRecord_keeps _ _ _ _ fun i =>
    State.gated_keeps _ _ _ _ _ _ <| State.unlessStale_keeps _ _ _ _ <| hw _ i _

/-- A WRITE of a safety table in a frozen state is refused. -/
theorem State.write_frozen (s : State) (h : Header) (t : Table) (n : Nat) (work : State → Fin n → Call → Reply)
    (hs : s.frozen) : (s.write h t n true Mode.commissioning work).safetyRecords = s.safetyRecords :=
  s.runFrame_safetyRecords _ _ _ <| State.forRecord_keeps _ _ _ _ fun _ => State.gated_frozen _ _ _ _ hs

theorem State.onRecord_safetyRecords (s : State) (code : Byte) (h : Header) (payload : List Byte) (t : Table) (n : Nat)
    (maintenance : Bool) (work : State → Fin n → Call → Reply) (hw : ∀ u i c, (work u i c).Keeps u) :
    (s.onRecord code h payload t n maintenance work).safetyRecords = s.safetyRecords :=
  s.runFrame_safetyRecords _ _ _ <| State.forRecord_keeps _ _ _ _ fun i =>
    State.gated_keeps _ _ _ _ _ _ <| State.noPayload_keeps _ _ _ _ _ <| hw _ i _

theorem State.onJunction_safetyRecords (s : State) (code : Byte) (h : Header) (maintenance : Bool)
    (modes : Mode → Bool) (work : State → Call → Reply) (hw : ∀ u c, (work u c).Keeps u) :
    (s.onJunction code h maintenance modes work).safetyRecords = s.safetyRecords :=
  s.runFrame_safetyRecords _ _ _ <| State.gated_keeps _ _ _ _ _ _ <| hw _ _

theorem State.event_returns_keeps (s : State) (f : State → State) (c : Call) (st : Status) (r : RecordName)
    (h : (f s).safetyRecords = s.safetyRecords) : ((event f s).returns c st r).Keeps s :=
  s.returns_keeps _ c st r ((event_safetyRecords f s).trans h)

theorem State.event_returnsJunction_keeps (s : State) (f : State → State) (c : Call)
    (h : (f s).safetyRecords = s.safetyRecords) : ((event f s).returnsJunction c).Keeps s :=
  s.returnsJunction_keeps _ c ((event_safetyRecords f s).trans h)

/-! ## The replies that decide by more than one condition -/

theorem State.readReply_keeps (s : State) (c : Call) (payload : List Byte) : (s.readReply c payload).Keeps s := by
  unfold State.readReply
  split
  · exact s.refuse_keeps c _ _
  · split
    · exact s.noPayload_keeps c _ _ _ (s.returns_keeps s c _ _ rfl)
    · exact s.refuse_keeps c _ _

theorem State.startReply_keeps (s : State) (c : Call) (payload : List Byte) : (s.startReply c payload).Keeps s := by
  unfold State.startReply
  split
  · exact s.refuse_keeps c _ _
  · refine s.noPayload_keeps c _ _ _ ?_
    split
    · exact s.returnsJunction_keeps _ c s.takeStart_safetyRecords
    · exact s.refuse_keeps c _ _

theorem State.setDimReply_keeps (s : State) (c : Call) (payload : List Byte) (d : DimOverride) :
    (s.setDimReply c payload d).Keeps s := by
  unfold State.setDimReply
  split
  · exact s.event_returnsJunction_keeps _ c (s.setDim_safetyRecords d)
  · exact s.refuse_keeps c _ _

theorem State.attendReply_keeps (s : State) (c : Call) : (s.attendReply c).Keeps s := by
  unfold State.attendReply
  split <;> rfl

theorem State.ackReply_keeps (s : State) (c : Call) (payload : List Byte) : (s.ackReply c payload).Keeps s := by
  unfold State.ackReply
  split
  · split
    · exact s.refuse_keeps c _ _
    · split
      · exact s.refuse_keeps c _ _
      · split
        · dsimp only
          split <;> rfl
        · exact s.refuse_keeps c _ _
  · exact s.refuse_keeps c _ _

theorem State.releaseReply_keeps (s : State) (c : Call) : (s.releaseReply c).Keeps s := by
  unfold State.releaseReply
  split <;> rfl

theorem State.maskReply_keeps (s : State) (c : Call) (payload : List Byte) (form : Byte) (m : Bool) :
    (s.maskReply c payload form m).Keeps s := by
  unfold State.maskReply
  repeat' split
  all_goals rfl

/-! ## The commands -/

/-- The command is executed, and the safety records stay. -/
def KeepsSafety (c : Instr) (s : State) : Prop := ∃ u, exec c s = .next u ∧ u.safetyRecords = s.safetyRecords

theorem writeChannel_keepsSafety (s : State) (h : Header) (payload : List Byte) :
    KeepsSafety (.writeChannel h payload) s := by
  refine ⟨_, rfl, s.write_safetyRecords h _ _ _ _ _ fun u x c => ?_⟩
  split
  · exact u.refuse_keeps c _ _
  · split
    · exact u.invalid_keeps c _ _ _
    · exact u.event_returns_keeps _ c _ _ (u.writeChannel_safetyRecords x _)

theorem writePlan_keepsSafety (s : State) (h : Header) (payload : List Byte) :
    KeepsSafety (.writePlan h payload) s := by
  refine ⟨_, rfl, s.write_safetyRecords h _ _ _ _ _ fun u p c => ?_⟩
  split
  · exact u.refuse_keeps c _ _
  · split
    · exact u.refuse_keeps c _ _
    · exact u.returns_keeps _ c _ _ (u.writePlan_safetyRecords p _)

theorem writeStage_keepsSafety (s : State) (h : Header) (payload : List Byte) :
    KeepsSafety (.writeStage h payload) s := by
  refine ⟨_, rfl, s.write_safetyRecords h _ _ _ _ _ fun u d c => ?_⟩
  split
  · exact u.refuse_keeps c _ _
  · split
    · exact u.refuse_keeps c _ _
    · exact u.returns_keeps _ c _ _ (u.writeStage_safetyRecords d _)

theorem writeSchedule_keepsSafety (s : State) (h : Header) (payload : List Byte) :
    KeepsSafety (.writeSchedule h payload) s := by
  refine ⟨_, rfl, s.write_safetyRecords h _ _ _ _ _ fun u e c => ?_⟩
  split
  · exact u.refuse_keeps c _ _
  · exact u.returns_keeps _ c _ _ (u.writeSchedule_safetyRecords e _)

theorem writeDetector_keepsSafety (s : State) (h : Header) (payload : List Byte) :
    KeepsSafety (.writeDetector h payload) s := by
  refine ⟨_, rfl, s.write_safetyRecords h _ _ _ _ _ fun u d c => ?_⟩
  split
  · exact u.refuse_keeps c _ _
  · exact u.returns_keeps _ c _ _ (u.writeDetector_safetyRecords d _)

theorem retirePlan_keepsSafety (s : State) (h : Header) (payload : List Byte) :
    KeepsSafety (.retirePlan h payload) s := by
  refine ⟨_, rfl, s.onRecord_safetyRecords _ h _ _ _ _ _ fun u p c => ?_⟩
  repeat' split
  · exact u.refuse_keeps c _ _
  · exact u.refuse_keeps c _ _
  · exact u.event_returns_keeps _ c _ _ (u.retirePlan_safetyRecords p)
  · exact u.returns_keeps u c _ _ rfl

theorem retireStage_keepsSafety (s : State) (h : Header) (payload : List Byte) :
    KeepsSafety (.retireStage h payload) s := by
  refine ⟨_, rfl, s.onRecord_safetyRecords _ h _ _ _ _ _ fun u d c => ?_⟩
  split
  · exact u.refuse_keeps c _ _
  · exact u.returns_keeps _ c _ _ (u.retireStage_safetyRecords d)

theorem retireSchedule_keepsSafety (s : State) (h : Header) (payload : List Byte) :
    KeepsSafety (.retireSchedule h payload) s :=
  ⟨_, rfl, s.onRecord_safetyRecords _ h _ _ _ _ _ fun u e c =>
    u.returns_keeps _ c _ _ (u.retireSchedule_safetyRecords e)⟩

theorem loadPlan_keepsSafety (s : State) (h : Header) (payload : List Byte) :
    KeepsSafety (.loadPlan h payload) s := by
  refine ⟨_, rfl, s.onRecord_safetyRecords _ h _ _ _ _ _ fun u p c => ?_⟩
  split
  · exact u.refuse_keeps c _ _
  · exact u.inFlightReply_keeps c _ _

theorem loadPlanComplete_keepsSafety (s : State) : KeepsSafety .loadPlanComplete s := by
  refine ⟨_, rfl, s.whenPowered_safetyRecords _ ?_⟩
  split
  · rfl
  · split
    · rfl
    · exact s.finishLoad_safetyRecords _ _

theorem commitComplete_keepsSafety (s : State) : KeepsSafety .commitComplete s := by
  refine ⟨_, rfl, s.whenPowered_safetyRecords _ ?_⟩
  split
  · rfl
  · split
    · exact s.finishCommit_safetyRecords _
    · rfl

theorem selectPlanOverride_keepsSafety (s : State) (h : Header) (payload : List Byte) :
    KeepsSafety (.selectPlanOverride h payload) s := by
  refine ⟨_, rfl, s.onJunction_safetyRecords _ h _ _ _ fun u c => ?_⟩
  repeat' split
  · exact u.refuse_keeps c _ _
  · exact u.event_returnsJunction_keeps _ c (u.selectOverride_safetyRecords _)
  · exact u.invalid_keeps c _ _ _
  · exact u.refuse_keeps c _ _

theorem selectPlanFollow_keepsSafety (s : State) (h : Header) (payload : List Byte) :
    KeepsSafety (.selectPlanFollow h payload) s := by
  refine ⟨_, rfl, s.onJunction_safetyRecords _ h _ _ _ fun u c => ?_⟩
  split
  · exact u.event_returnsJunction_keeps _ c u.selectFollow_safetyRecords
  · exact u.refuse_keeps c _ _

/-- A junction command without payload whose work is one event. -/
theorem State.noPayload_event_keeps (s : State) (c : Call) (payload : List Byte) (f : State → State)
    (h : (f s).safetyRecords = s.safetyRecords) :
    (s.noPayload c none payload ((event f s).returnsJunction c)).Keeps s :=
  s.noPayload_keeps c _ _ _ (s.event_returnsJunction_keeps f c h)

theorem setTime_keepsSafety (s : State) (h : Header) (payload : List Byte) :
    KeepsSafety (.setTime h payload) s := by
  refine ⟨_, rfl, s.onJunction_safetyRecords _ h _ _ _ fun u c => ?_⟩
  split
  · exact u.refuse_keeps c _ _
  · exact u.returnsJunction_keeps _ c (u.setTime_safetyRecords _)

theorem testCables_keepsSafety (s : State) (h : Header) (payload : List Byte) :
    KeepsSafety (.testCables h payload) s := by
  refine ⟨_, rfl, s.onJunction_safetyRecords _ h _ _ _ fun u c => ?_⟩
  split
  · exact u.refuse_keeps c _ _
  · exact (event_safetyRecords _ u).trans (u.requestAll_safetyRecords _)

theorem poll_keepsSafety (s : State) (h : Header) (payload : List Byte) : KeepsSafety (.poll h payload) s := by
  refine ⟨_, rfl, s.whenPowered_safetyRecords _ ?_⟩
  split <;> rfl

theorem lockAcquired_keepsSafety (s : State) (x : CrossingInput) : KeepsSafety (.lockAcquired x) s := by
  refine ⟨_, rfl, s.whenPowered_safetyRecords _ ?_⟩
  split
  · exact s.zeroCrossing_safetyRecords x
  · rfl

theorem retentionLoss_keepsSafety (s : State) : KeepsSafety .retentionLoss s := by
  refine ⟨_, rfl, ?_⟩
  split <;> rfl

theorem retentionTenth_keepsSafety (s : State) : KeepsSafety .retentionTenth s := by
  refine ⟨_, rfl, ?_⟩
  split <;> rfl

theorem tenthTick_keepsSafety (s : State) (source : TenthSource) (i : TenthInput) :
    KeepsSafety (.tenthTick source i) s := by
  refine ⟨_, rfl, s.whenPowered_safetyRecords _ ?_⟩
  cases source with
  | crystal => exact s.crystalTenth_safetyRecords i
  | cycles => exact s.cascadeTenth_safetyRecords i

/-- No command but MAIN_RESET changes the safety records of a frozen state. -/
theorem exec_keepsSafety (c : Instr) (s : State) (hc : c ≠ .mainReset) (hs : s.frozen) : KeepsSafety c s := by
  cases c with
  | read h payload => exact ⟨_, rfl, s.runFrame_safetyRecords _ _ _ (State.readReply_keeps _ _ payload)⟩
  | writeGroup h payload => exact ⟨_, rfl, s.write_frozen h .group 16 _ hs⟩
  | writeConflict h payload => exact ⟨_, rfl, s.write_frozen h .conflict 16 _ hs⟩
  | writeChannel h payload => exact writeChannel_keepsSafety s h payload
  | writeProfile h payload => exact ⟨_, rfl, s.write_frozen h .profile 8 _ hs⟩
  | writeCable h payload => exact ⟨_, rfl, s.write_frozen h .cable 16 _ hs⟩
  | writePlan h payload => exact writePlan_keepsSafety s h payload
  | writeStage h payload => exact writeStage_keepsSafety s h payload
  | writeSchedule h payload => exact writeSchedule_keepsSafety s h payload
  | writeDetector h payload => exact writeDetector_keepsSafety s h payload
  | writeJunction h payload => exact ⟨_, rfl, s.write_frozen h .junction 1 _ hs⟩
  | retirePlan h payload => exact retirePlan_keepsSafety s h payload
  | retireStage h payload => exact retireStage_keepsSafety s h payload
  | retireSchedule h payload => exact retireSchedule_keepsSafety s h payload
  | poll h payload => exact poll_keepsSafety s h payload
  | linkError received => exact ⟨_, rfl, s.whenPowered_safetyRecords _ rfl⟩
  | unknown code h payload => exact ⟨_, rfl, s.runFrame_safetyRecords _ _ _ (State.refuse_keeps _ _ _ _)⟩
  | commit h payload =>
    exact ⟨_, rfl, s.onJunction_safetyRecords _ h _ _ _ fun u c =>
      u.noPayload_keeps c _ _ _ (u.inFlightReply_keeps c _ _)⟩
  | commitComplete => exact commitComplete_keepsSafety s
  | loadPlan h payload => exact loadPlan_keepsSafety s h payload
  | loadPlanComplete => exact loadPlanComplete_keepsSafety s
  | start h payload =>
    exact ⟨_, rfl, s.onJunction_safetyRecords _ h _ _ _ fun u c => u.startReply_keeps c payload⟩
  | stop h payload =>
    exact ⟨_, rfl, s.onJunction_safetyRecords _ h _ _ _ fun u c =>
      u.noPayload_event_keeps c payload _ u.takeStop_safetyRecords⟩
  | dark h payload =>
    exact ⟨_, rfl, s.onJunction_safetyRecords _ h _ _ _ fun u c =>
      u.noPayload_event_keeps c payload _ u.takeDark_safetyRecords⟩
  | restart h payload =>
    exact ⟨_, rfl, s.onJunction_safetyRecords _ h _ _ _ fun u c => u.startReply_keeps c payload⟩
  | forceFailsafe h payload =>
    exact ⟨_, rfl, s.onJunction_safetyRecords _ h _ _ _ fun u c =>
      u.noPayload_event_keeps c payload _ u.forceRaise_safetyRecords⟩
  | selectPlanOverride h payload => exact selectPlanOverride_keepsSafety s h payload
  | selectPlanFollow h payload => exact selectPlanFollow_keepsSafety s h payload
  | setTime h payload => exact setTime_keepsSafety s h payload
  | setDimFollow h payload =>
    exact ⟨_, rfl, s.onJunction_safetyRecords _ h _ _ _ fun u c => u.setDimReply_keeps c payload _⟩
  | setDimBright h payload =>
    exact ⟨_, rfl, s.onJunction_safetyRecords _ h _ _ _ fun u c => u.setDimReply_keeps c payload _⟩
  | setDimDim h payload =>
    exact ⟨_, rfl, s.onJunction_safetyRecords _ h _ _ _ fun u c => u.setDimReply_keeps c payload _⟩
  | testCables h payload => exact testCables_keepsSafety s h payload
  | relearn h payload =>
    exact ⟨_, rfl, s.onRecord_safetyRecords _ h _ _ _ _ _ fun u x c =>
      u.returns_keeps _ c _ _ (u.putChannel_safetyRecords x _)⟩
  | clearFaultChannel h payload =>
    exact ⟨_, rfl, s.onRecord_safetyRecords _ h _ _ _ _ _ fun u x c =>
      u.event_returns_keeps _ c _ _ (u.clearChannel_safetyRecords x)⟩
  | clearFaultCable h payload =>
    exact ⟨_, rfl, s.onRecord_safetyRecords _ h _ _ _ _ _ fun u k c =>
      u.event_returns_keeps _ c _ _ (u.clearCable_safetyRecords k)⟩
  | clearFaultJunction h payload =>
    exact ⟨_, rfl, s.onRecord_safetyRecords _ h _ _ _ _ _ fun u _ c =>
      u.event_returns_keeps _ c _ _ u.clearJunction_safetyRecords⟩
  | probe h payload => exact ⟨_, rfl, s.onRecord_safetyRecords _ h _ _ _ _ _ fun _ _ _ => rfl⟩
  | attend h payload =>
    exact ⟨_, rfl, s.onJunction_safetyRecords _ h _ _ _ fun u c =>
      u.noPayload_keeps c _ _ _ (u.attendReply_keeps c)⟩
  | ack h payload => exact ⟨_, rfl, s.runFrame_safetyRecords _ _ _ (State.ackReply_keeps _ _ payload)⟩
  | release h payload =>
    exact ⟨_, rfl, s.onJunction_safetyRecords _ h _ _ _ fun u c =>
      u.noPayload_keeps c _ _ _ (u.releaseReply_keeps c)⟩
  | maskSet h payload =>
    exact ⟨_, rfl, s.onJunction_safetyRecords _ h _ _ _ fun u c => u.maskReply_keeps c payload _ _⟩
  | maskClear h payload =>
    exact ⟨_, rfl, s.onJunction_safetyRecords _ h _ _ _ fun u c => u.maskReply_keeps c payload _ _⟩
  | mkeyChange active => exact ⟨_, rfl, s.mapLink_safetyRecords _⟩
  | mainReset => exact absurd rfl hc
  | retentionLoss => exact retentionLoss_keepsSafety s
  | mainPowerLoss => exact ⟨_, rfl, s.whenPowered_safetyRecords _ (s.mapBase_safetyRecords _)⟩
  | retentionTenth => exact retentionTenth_keepsSafety s
  | zeroCrossing x => exact ⟨_, rfl, s.whenPowered_safetyRecords _ (s.zeroCrossing_safetyRecords x)⟩
  | lockAcquired x => exact lockAcquired_keepsSafety s x
  | firstWindowExpiry input => exact ⟨_, rfl, s.whenPowered_safetyRecords _ (s.firstWindow_safetyRecords input)⟩
  | secondWindowExpiry => exact ⟨_, rfl, s.whenPowered_safetyRecords _ s.secondWindow_safetyRecords⟩
  | learnComplete c => exact ⟨_, rfl, s.stepWhen_safetyRecords _ _ (s.completeLearning_safetyRecords c)⟩
  | streakConfirm c => exact ⟨_, rfl, s.stepWhen_safetyRecords _ _ (s.confirmStreak_safetyRecords c)⟩
  | surgeEnd c => exact ⟨_, rfl, s.stepWhen_safetyRecords _ _ (s.setChannel_safetyRecords c _)⟩
  | settleEnd c => exact ⟨_, rfl, s.stepWhen_safetyRecords _ _ (s.setChannel_safetyRecords c _)⟩
  | releaseEnd c => exact ⟨_, rfl, s.stepWhen_safetyRecords _ _ (s.setChannel_safetyRecords c _)⟩
  | dimSettleEnd => exact ⟨_, rfl, s.stepWhen_safetyRecords _ _ s.settleTick_safetyRecords⟩
  | openReturnConfirm k => exact ⟨_, rfl, s.stepWhen_safetyRecords _ _ (s.confirmOpen_safetyRecords k)⟩
  | balanceConfirm k => exact ⟨_, rfl, s.stepWhen_safetyRecords _ _ (s.confirmBalance_safetyRecords k)⟩
  | provenConflict a b => exact ⟨_, rfl, s.stepWhen_safetyRecords _ _ (s.provenConflict_safetyRecords a b)⟩
  | tenthTick source input => exact tenthTick_keepsSafety s source input
  | leavingEnd g => exact ⟨_, rfl, s.stepWhen_safetyRecords _ _ (s.stepOne_safetyRecords g)⟩
  | prepStart g => exact ⟨_, rfl, s.stepWhen_safetyRecords _ _ (s.stepOne_safetyRecords g)⟩
  | greenStart g => exact ⟨_, rfl, s.stepWhen_safetyRecords _ _ (s.stepOne_safetyRecords g)⟩
  | minGreenEnd => exact ⟨_, rfl, s.stepWhen_safetyRecords _ _ s.endMinGreen_safetyRecords⟩
  | maxOut => exact ⟨_, rfl, s.stepWhen_safetyRecords _ _ s.leaveStage_safetyRecords⟩
  | gapOut => exact ⟨_, rfl, s.stepWhen_safetyRecords _ _ s.leaveStage_safetyRecords⟩
  | detectorFaulty d => exact ⟨_, rfl, s.stepWhen_safetyRecords _ _ (s.detectorFaulty_safetyRecords d)⟩
  | testStart bref => exact ⟨_, rfl, s.stepWhen_safetyRecords _ _ (s.arbitrate_safetyRecords bref)⟩
  | chargeEnd => exact ⟨_, rfl, s.stepWhen_safetyRecords _ _ s.chargeEnd_safetyRecords⟩
  | testComplete bmeas => exact ⟨_, rfl, s.stepWhen_safetyRecords _ _ (s.completeTest_safetyRecords bmeas)⟩
  | testTimeout k => exact ⟨_, rfl, s.stepWhen_safetyRecords _ _ (s.removeEntry_safetyRecords k _)⟩
  | darkTestEnd => exact ⟨_, rfl, s.stepWhen_safetyRecords _ _ s.beginAllRed_safetyRecords⟩
  | darkTestLimit => exact ⟨_, rfl, s.stepWhen_safetyRecords _ _ s.limitDarkTest_safetyRecords⟩
  | allRedEnd => exact ⟨_, rfl, s.stepWhen_safetyRecords _ _ s.enterPlan_safetyRecords⟩
  | samplePosition frame => exact ⟨_, rfl, s.whenPowered_safetyRecords _ rfl⟩

/-- Settles O59: every command but MAIN_RESET keeps the safety records of a frozen state, row by row of the dispatch. -/
theorem safetyRecordsFrozen : Obligations.SafetyRecordsFrozen := by
  unfold Obligations.SafetyRecordsFrozen
  intro c s t hc ht hs
  obtain ⟨u, hu, hkeeps⟩ := exec_keepsSafety c s hc hs
  obtain rfl : u = t := Host.Outcome.next.inj (hu.symm.trans ht)
  obtain ⟨hgroups, hconflicts, hprofiles, hcables⟩ := (safetyRecords_eq_iff u s).1 hkeeps
  exact ⟨hgroups, hconflicts, hprofiles, fun k => (Cable.written_eq_iff _ _).1 (hcables k)⟩

end Sys2Proof.Machine
end

section
/-! The time of day, the key and the supplies (R27, R29, R33, R184). -/

namespace Sys2Proof.Machine

/-! ## The time of day -/

/-- A tenth later is a time of day (R29). -/
theorem TimeOfDay.advance_inRange (t : TimeOfDay) (h : t.inRange = true) : t.advance.inRange = true := by
  rw [TimeOfDay.inRange_iff] at h ⊢
  unfold TimeOfDay.advance
  repeat' split
  all_goals
    simp only
    omega

/-- A tenth later in the week, which begins again at its end (R29). -/
theorem TimeOfDay.advance_instant (t : TimeOfDay) (h : t.inRange = true) :
    t.advance.instant = (t.instant + 1) % tenthsPerWeek := by
  rw [TimeOfDay.inRange_iff] at h
  unfold TimeOfDay.advance TimeOfDay.instant tenthsPerWeek
  repeat' split
  all_goals
    simp only
    omega

/-! ## The supplies -/

theorem State.whenPowered_on (s : State) (f : State → State) (h : s.base.mainPower = true) : s.whenPowered f = f s :=
  if_pos h

theorem State.whenPowered_off (s : State) (f : State → State) (h : s.base.mainPower = false) : s.whenPowered f = s := by
  rw [State.whenPowered, h, if_neg Bool.false_ne_true]

theorem TimeBase.losePower_cycles (b : TimeBase) (h : b.source = .cycles) :
    b.losePower = { b with mainPower := false, source := .crystal, divider := 0, crystalCount := 0 } := by
  unfold TimeBase.losePower
  rw [h]
  rfl

theorem TimeBase.losePower_crystal (b : TimeBase) (h : b.source = .crystal) :
    b.losePower = { b with mainPower := false } := by
  unfold TimeBase.losePower
  rw [h]

theorem exec_mainPowerLoss (s : State) :
    exec .mainPowerLoss s = .next (s.whenPowered fun u => u.mapBase TimeBase.losePower) := rfl

/-- Settles O35: each event of a pin or a supply, with main power present and absent. -/
theorem keyAndSupplies : Obligations.KeyAndSupplies := by
  unfold Obligations.KeyAndSupplies
  intro s
  refine ⟨fun _ => rfl, ⟨_, rfl, rfl⟩, fun hon => ⟨fun hsrc => ?cycles, fun hsrc => ?crystal, ?retentionKept, ?noTenth⟩,
    fun hoff => ⟨?noLoss, ?retentionLost, s.base.time.advance, ?tenth,
      fun h => ⟨s.base.time.advance_inRange h, s.base.time.advance_instant h⟩⟩⟩
  case cycles =>
    rw [exec_mainPowerLoss, s.whenPowered_on _ hon, State.mapBase, TimeBase.losePower_cycles _ hsrc]
  case crystal =>
    rw [exec_mainPowerLoss, s.whenPowered_on _ hon, State.mapBase, TimeBase.losePower_crystal _ hsrc]
  case retentionKept => exact congrArg _ (if_pos hon)
  case noTenth => exact congrArg _ (if_pos hon)
  case noLoss => rw [exec_mainPowerLoss, s.whenPowered_off _ hoff]
  case retentionLost => exact congrArg _ (if_neg (Bool.eq_false_iff.1 hoff))
  case tenth => exact congrArg _ (if_neg (Bool.eq_false_iff.1 hoff))

end Sys2Proof.Machine
end

section
/-! WRITE of JUNCTION 0 (R25, R147, R182, R188). -/

namespace Sys2Proof.Machine

/-! ## The settings -/

theorem clampRed_eq (n : Nat) : clampRed n = max 30 (min 200 n) := by
  unfold clampRed
  repeat' split
  all_goals omega

theorem TimeBase.setFrequency_same (b : TimeBase) : b.setFrequency b.frequency = b := if_pos rfl

theorem TimeBase.setFrequency_lost (b : TimeBase) (f : Frequency) (hf : f ≠ b.frequency) (ht : b.tracker = .mainsLost) :
    b.setFrequency f = { b with frequency := f } := by
  simp only [TimeBase.setFrequency, if_neg hf, ht]

/-- A tracker with mains starts again in ACQUIRING, its tenths from the crystal (R25). -/
theorem TimeBase.setFrequency_restarts (b : TimeBase) (f : Frequency) (hf : f ≠ b.frequency)
    (ht : b.tracker ≠ .mainsLost) :
    b.setFrequency f = { b with
      frequency := f, tracker := .acquiring, reference := none, goodCount := 0
      source := .crystal, divider := 0, crystalCount := 0 } := by
  simp only [TimeBase.setFrequency, if_neg hf]
  cases htr : b.tracker with
  | locked => rfl
  | slip1 => rfl
  | acquiring => rw [TimeBase.toCrystal, htr]
  | mainsLost => exact absurd htr ht

theorem TimeBase.setFrequency_frequency (b : TimeBase) (f : Frequency) : (b.setFrequency f).frequency = f := by
  unfold TimeBase.setFrequency
  split
  · next h => exact h.symm
  · cases b.tracker <;> rfl

/-! ## The event of the write -/

/-- The settings of JUNCTION 0 that a WRITE changes are the only settled fields it changes: with the frequency, the
tracker's state (R25, R146). -/
theorem State.writeJunction_settled (s : State) (cfg : JunctionConfig) :
    s.junctionSettled = (s.writeJunction cfg).junctionSettled ↔
      s.sup.startRed = clampRed cfg.startRed ∧ s.sup.sweep = cfg.sweep ∧ s.base.frequency = cfg.frequency := by
  constructor
  · intro h
    simp only [State.junctionSettled, State.writeJunction, State.mapBase_sup, State.mapSup_sup, State.mapBase_base,
      State.mapSup_base, TimeBase.setFrequency_frequency, JunctionSettled.mk.injEq] at h
    obtain ⟨_, _, _, _, _, _, hfreq, _, _, _, _, _, _, _, hred, hsweep, _⟩ := h
    exact ⟨hred, hsweep, hfreq⟩
  · rintro ⟨hred, hsweep, hfreq⟩
    simp only [State.junctionSettled, State.writeJunction, State.mapBase_sup, State.mapSup_sup, State.mapBase_base,
      State.mapSup_base, State.mapBase_sched, State.mapSup_sched, State.mapBase_seq, State.mapSup_seq,
      State.mapBase_bridge, State.mapSup_bridge, ← hfreq, TimeBase.setFrequency_same, hred, hsweep]

/-- The state after the event of a WRITE of JUNCTION 0. -/
theorem State.writeJunction_event (s : State) (cfg : JunctionConfig) :
    event (fun v => v.writeJunction cfg) s =
      { s with
        sup := { s.sup with startRed := clampRed cfg.startRed, sweep := cfg.sweep }
        base := s.base.setFrequency cfg.frequency
        junctionRev :=
          if s.sup.startRed = clampRed cfg.startRed ∧ s.sup.sweep = cfg.sweep ∧ s.base.frequency = cfg.frequency then
            s.junctionRev
          else s.junctionRev + 1 } := by
  simp only [event, closeEvent, junctionMoved, s.writeJunction_settled cfg, nextRev]
  simp only [State.writeJunction, State.mapBase, State.mapSup, groups_moved_self, cables_moved_self]

/-! ## The frame -/

theorem State.recordRev_junction (s : State) : s.recordRev (nameOf .junction 0) = s.junctionRev := rfl

theorem Frequency.ofByte_eq_none (b : Byte) (h50 : b ≠ 50) (h60 : b ≠ 60) : Frequency.ofByte b = none := by
  rw [Frequency.ofByte, if_neg h50, if_neg h60]

theorem JunctionConfig.parse_eq_none_of_length (p : List Byte) (h : p.length ≠ 3) : JunctionConfig.parse p = none := by
  unfold JunctionConfig.parse
  split
  · exact absurd rfl h
  · rfl

theorem JunctionConfig.parse_eq_none (red sweep frequency : Byte)
    (h : 1 < sweep.toNat ∨ (frequency ≠ 50 ∧ frequency ≠ 60)) :
    JunctionConfig.parse [red, sweep, frequency] = none := by
  simp only [JunctionConfig.parse]
  cases hs : ofFirst sweep with
  | none => rfl
  | some sw =>
    rcases h with hbig | ⟨h50, h60⟩
    · exact absurd (ofFirst_le sweep sw hs) (Nat.not_le.2 hbig)
    · rw [Frequency.ofByte_eq_none frequency h50 h60]

section Frame

variable (s : State) (h : Header) (hr : s.ready) (hn : h.names .junction 0) (hk : s.link.mkey = true)
  (hm : s.sup.mode = .unconfigured ∨ s.sup.mode = .standby) (hf : s.revisionMatches h (nameOf .junction 0))

include hr hn hk hm hf

theorem exec_writeJunction_taken (cfg : JunctionConfig) (hred : cfg.startRed < 256) :
    exec (.writeJunction h cfg.bytes) s =
      .next ((event (fun v => v.writeJunction cfg) (s.shiftOut h.clocked)).returning h 2
        (if clampRed cfg.startRed = cfg.startRed then .ok else .clamped) (nameOf .junction 0)) := by
  refine congrArg _ (s.write_answers _ h .junction (0 : Fin 1) _ _ _ hr hn hk ((Mode.commissioning_iff _).2 hm) hf ?_)
  simp only [JunctionConfig.parse_bytes cfg hred]
  rfl

theorem exec_writeJunction_outOfRange (p : List Byte) (hp : JunctionConfig.parse p = none) :
    exec (.writeJunction h p) s = .next (s.refusing h 2 .range s.junctionRev) := by
  rw [← s.recordRev_junction]
  refine congrArg _ (s.write_outOfRange h .junction (0 : Fin 1) _ _ hr hn hk ((Mode.commissioning_iff _).2 hm) hf ?_)
  simp only [hp]
  rfl

end Frame

/-- Settles O18: the event of the write, with the three ways the frequency acts on the time base, and the refusals. -/
theorem writeJunctionSettings : Obligations.WriteJunctionSettings := by
  unfold Obligations.WriteJunctionSettings
  refine ⟨fun s h cfg hr hn hk hm hf hred => ?taken, fun s h hr hn hk hm hf => ?refused⟩
  case taken =>
    refine ⟨clampRed cfg.startRed, s.base.setFrequency cfg.frequency, clampRed_eq _, fun hsame => ?_,
      fun hne hlost => s.base.setFrequency_lost _ hne hlost,
      fun hne hmains => s.base.setFrequency_restarts _ hne hmains, ?_⟩
    · rw [hsame, TimeBase.setFrequency_same]
    · rw [exec_writeJunction_taken s h hr hn hk hm hf cfg hred, State.writeJunction_event]
      rfl
  case refused =>
    have refused := exec_writeJunction_outOfRange s h hr hn hk hm hf
    exact ⟨fun p hp => refused p (JunctionConfig.parse_eq_none_of_length p hp),
      fun _ _ _ hb => refused _ (JunctionConfig.parse_eq_none _ _ _ hb)⟩

end Sys2Proof.Machine
end

section
/-! The time base at a crossing, an expiry and a tenth (R18 to R24, R26, R27, R29). -/

namespace Sys2Proof.Machine

/-! ## Windows (R18) -/

/-- The four windows of R18, in nanoseconds times ten for one hertz: P is 10,000,000,000. -/
theorem classOf_windows (f : Frequency) (n : Nat) :
    (classOf f n = .early ↔ n * f.hz * 10 < 9000000000) ∧
    (classOf f n = .good ↔ 9000000000 ≤ n * f.hz * 10 ∧ n * f.hz * 10 ≤ 11000000000) ∧
    (classOf f n = .late ↔ 11000000000 < n * f.hz * 10 ∧ n * f.hz * 10 ≤ 15000000000) ∧
    (classOf f n = .overdue ↔ 15000000000 < n * f.hz * 10) := by
  unfold classOf inPeriods
  repeat' split
  all_goals
    simp only [reduceCtorEq, false_iff, true_iff]
    omega

theorem classOf_early_iff (f : Frequency) (n : Nat) : classOf f n = .early ↔ n * f.hz * 10 < 9000000000 :=
  (classOf_windows f n).1

theorem classOf_good_iff (f : Frequency) (n : Nat) :
    classOf f n = .good ↔ 9000000000 ≤ n * f.hz * 10 ∧ n * f.hz * 10 ≤ 11000000000 := (classOf_windows f n).2.1

theorem classOf_late_iff (f : Frequency) (n : Nat) :
    classOf f n = .late ↔ 11000000000 < n * f.hz * 10 ∧ n * f.hz * 10 ≤ 15000000000 := (classOf_windows f n).2.2.1

theorem classOf_overdue_iff (f : Frequency) (n : Nat) : classOf f n = .overdue ↔ 15000000000 < n * f.hz * 10 :=
  (classOf_windows f n).2.2.2

theorem pastSecond_iff (f : Frequency) (n : Nat) : pastSecond f n = true ↔ 25000000000 < n * f.hz * 10 :=
  decide_eq_true_iff

/-! ## The tenth cascade (R26, R27) -/

theorem Frequency.top_eq (f : Frequency) : f.top = if f = .hz50 then 4 else 5 := by cases f <;> rfl

/-- The cascade after one more cycle tick. -/
theorem TimeBase.cascade_eq (b : TimeBase) : b.cascade =
    { b with
      source := .cycles
      divider :=
        if b.source = .crystal then 1
        else if b.divider < (if b.frequency = .hz50 then 4 else 5) then b.divider + 1 else 0 } := by
  unfold TimeBase.cascade
  rw [← b.frequency.top_eq]
  split
  · next h => simp only [h, if_true]
  · next h => simp only [h, reduceCtorEq, if_false]

theorem TimeBase.tenthDue_iff (b : TimeBase) :
    b.tenthDue = true ↔ b.source = .cycles ∧ (if b.frequency = .hz50 then 4 else 5) ≤ b.divider := by
  rw [TimeBase.tenthDue, ← b.frequency.top_eq]
  simp only [Bool.and_eq_true, beq_iff_eq, Bool.not_eq_true', decide_eq_false_iff_not, Nat.not_lt]

theorem TimeBase.measured_eq (b : TimeBase) : b.measured = decide (b.opening = .crossing) := by
  rw [TimeBase.measured, Bool.eq_iff_iff, beq_iff_eq, decide_eq_true_iff]

/-! ## The time base over a tenth tick -/

theorem State.clockTenth_base (s : State) :
    s.clockTenth.base = { s.base with time := s.base.time.advance } := by
  simp only [State.clockTenth]
  split <;> simp

/-- A tenth tick takes the time of day one tenth on and changes nothing else of the time base (R28, R29). -/
theorem State.tenth_base (s : State) (i : TenthInput) :
    (s.tenth i).base = { s.base with time := s.base.time.advance } := by
  simp only [State.tenth]
  split <;> simp [State.clockTenth_base]

/-! ## The tracker's own work -/

/-- A change of the tracker state alone moves the JUNCTION revision (R24, R146). -/
theorem State.setTracker_changed (s : State) (m : MainsState) (h : s.base.tracker ≠ m) : s.setTracker m =
    { s with base := { s.base with tracker := m }, junctionRev := s.junctionRev + 1 } := by
  have hsettled : ¬s.junctionSettled = (s.mapBase fun b => { b with tracker := m }).junctionSettled := fun he =>
    h (congrArg JunctionSettled.mains he)
  simp only [State.setTracker, event, closeEvent, junctionMoved, if_neg hsettled]
  simp only [State.mapBase, groups_moved_self, cables_moved_self, nextRev]

/-- The state after the cycle tick of an accepted crossing: the crossing is the reference (R19, R20, R22, R26). -/
def State.accepted (s : State) (x : CrossingInput) : State :=
  (s.endCycle s.base.measured x.tick).refer x.instant

theorem State.endCycle_eq (s : State) (measured : Bool) (i : TickInput) : s.endCycle measured i =
    { s.cycleTick measured i with
      base := { s.base with
        source := .cycles
        divider :=
          if s.base.source = .crystal then 1
          else if s.base.divider < (if s.base.frequency = .hz50 then 4 else 5) then s.base.divider + 1 else 0 } } := by
  rw [State.endCycle, State.mapBase, State.cycleTick_base, TimeBase.cascade_eq]

theorem State.accepted_eq (s : State) (x : CrossingInput) : s.accepted x =
    { s.cycleTick (decide (s.base.opening = .crossing)) x.tick with
      base := { s.base with
        reference := some x.instant, opening := .crossing, source := .cycles
        divider :=
          if s.base.source = .crystal then 1
          else if s.base.divider < (if s.base.frequency = .hz50 then 4 else 5) then s.base.divider + 1 else 0 } } := by
  rw [State.accepted, TimeBase.measured_eq, State.endCycle_eq]
  rfl

/-- An accepted crossing, with the tenth tick that its cycle tick causes where the count is complete. -/
theorem State.acceptCrossing_eq (s : State) (x : CrossingInput) (after : State → State) : s.acceptCrossing x after =
    if s.base.tenthDue = true then
      (if x.tick.order.returnFirst = true then (after (s.accepted x)).tenth x.tick.tenth
        else after ((s.accepted x).tenth x.tick.tenth))
    else after (s.accepted x) := by
  simp only [State.acceptCrossing, State.causedTenth, State.accepted]
  cases s.base.tenthDue <;> simp

/-- What follows an accepted crossing matters only on the states the crossing can leave. -/
theorem State.acceptCrossing_congr (s : State) (x : CrossingInput) (f g : State → State)
    (h : ∀ u : State, u.base.goodCount = s.base.goodCount → f u = g u) :
    s.acceptCrossing x f = s.acceptCrossing x g := by
  have haccepted : (s.accepted x).base.goodCount = s.base.goodCount := by rw [s.accepted_eq]
  have htenth : ((s.accepted x).tenth x.tick.tenth).base.goodCount = s.base.goodCount := by
    rw [State.tenth_base, haccepted]
  rw [s.acceptCrossing_eq, s.acceptCrossing_eq, h _ haccepted, h _ htenth]

/-! ## The expiries before a crossing (R18) -/

theorem State.expireBefore_none (s : State) (x : CrossingInput) (h : s.base.reference = none) :
    s.expireBefore x = s := by
  simp only [State.expireBefore, h]

section Expiries

variable (s : State) (x : CrossingInput) (r : Nat) (hr : s.base.reference = some r)

include hr

/-- No expiry is due before a crossing up to 2.5 P, but the first-window expiry in LOCKED after 1.5 P. -/
theorem State.expireBefore_within
    (hfirst : s.base.tracker = .locked → (x.instant - r) * s.base.frequency.hz * 10 ≤ 15000000000)
    (hsecond : (x.instant - r) * s.base.frequency.hz * 10 ≤ 25000000000) : s.expireBefore x = s := by
  have hnot : ¬(classOf s.base.frequency (x.instant - r) = .overdue ∧ s.base.tracker = .locked) := fun ⟨hc, ht⟩ =>
    absurd (hfirst ht) (Nat.not_le.2 ((classOf_overdue_iff _ _).1 hc))
  have hpast : ¬pastSecond s.base.frequency (x.instant - r) = true := fun hp =>
    absurd hsecond (Nat.not_le.2 ((pastSecond_iff _ _).1 hp))
  simp only [State.expireBefore, hr, if_neg hnot, if_neg hpast]

theorem State.expireBefore_first (ht : s.base.tracker = .locked)
    (hfirst : 15000000000 < (x.instant - r) * s.base.frequency.hz * 10)
    (hsecond : (x.instant - r) * s.base.frequency.hz * 10 ≤ 25000000000) : s.expireBefore x = s.firstWindow x.tick := by
  have hpast : ¬pastSecond s.base.frequency (x.instant - r) = true := fun hp =>
    absurd hsecond (Nat.not_le.2 ((pastSecond_iff _ _).1 hp))
  simp only [State.expireBefore, hr, if_pos (And.intro ((classOf_overdue_iff _ _).2 hfirst) ht), if_neg hpast]

theorem State.expireBefore_both (ht : s.base.tracker = .locked)
    (hsecond : 25000000000 < (x.instant - r) * s.base.frequency.hz * 10) :
    s.expireBefore x = (s.firstWindow x.tick).secondWindow := by
  have hover : classOf s.base.frequency (x.instant - r) = .overdue := (classOf_overdue_iff _ _).2 (by omega)
  simp only [State.expireBefore, hr, if_pos (And.intro hover ht), if_pos ((pastSecond_iff _ _).2 hsecond)]

theorem State.expireBefore_second (ht : s.base.tracker ≠ .locked)
    (hsecond : 25000000000 < (x.instant - r) * s.base.frequency.hz * 10) : s.expireBefore x = s.secondWindow := by
  simp only [State.expireBefore, hr, if_neg fun h : _ ∧ s.base.tracker = .locked => ht h.2,
    if_pos ((pastSecond_iff _ _).2 hsecond)]

end Expiries

theorem exec_zeroCrossing (s : State) (x : CrossingInput) (h : s.base.mainPower = true) :
    exec (.zeroCrossing x) s = .next ((s.expireBefore x).cross x) := congrArg _ (s.whenPowered_on _ h)

end Sys2Proof.Machine
end

section
/-! Crossings in MAINS_LOST and ACQUIRING (R21 to R24, R47, R150). -/

namespace Sys2Proof.Machine

/-! ## What the tracker does in ACQUIRING after a cycle tick (R22) -/

/-- A change of the good count alone. -/
def State.withGoodCount (s : State) (n : Nat) : State := { s with base := { s.base with goodCount := n } }

/-- The lock, with the mains-return told to the schedule unit and to the supervisor (R22, R24). -/
def State.locks (s : State) (o : TickOrder) : State :=
  let v := event (fun w => { w with base := { w.base with tracker := .locked } }) (s.withGoodCount 0)
  if o.scheduleFirst = true then v.workOutEntry.mainsReturn else v.mainsReturn.workOutEntry

/-- What a crossing of a class does after its cycle tick, the good count being n before it (R22). -/
def acquireStep (o : TickOrder) (n : Nat) : CrossingClass → State → State
  | .good => if n < 7 then fun u => u.withGoodCount (u.base.goodCount + 1) else fun u => u.locks o
  | .early | .late | .overdue => fun u => u.withGoodCount 0

/-- The good count rises below the eighth good crossing, and the eighth locks (R22). -/
theorem State.countGood_eq (s : State) (o : TickOrder) (n : Nat) (hn : s.base.goodCount = n) (h : n ≤ 7) :
    s.countGood o = acquireStep o n .good s := by
  simp only [State.countGood, acquireStep, State.mapBase_base, hn]
  split
  case isTrue h8 =>
    rw [if_neg (by omega : ¬n < 7)]
    rfl
  case isFalse h8 =>
    rw [if_pos (by omega : n < 7), State.withGoodCount, hn]
    simp only [State.mapBase, hn]

/-! ## Crossings in ACQUIRING -/

section Acquiring

variable (s : State) (x : CrossingInput)

theorem State.acquire_first (h : s.base.reference = none) : s.acquire x = s.openAt x.instant := by
  simp only [State.acquire, h]

variable (r : Nat) (hr : s.base.reference = some r)

include hr

theorem State.acquire_early (h : classOf s.base.frequency (x.instant - r) = .early) :
    s.acquire x = s.withGoodCount 0 := by
  simp only [State.acquire, hr, h]
  rfl

theorem State.acquire_overdue (h : classOf s.base.frequency (x.instant - r) = .overdue) :
    s.acquire x = s.openAt x.instant := by
  simp only [State.acquire, hr, h]

/-- A good or a late crossing is accepted (R22). -/
theorem State.acquire_accepts (hcount : s.base.goodCount ≤ 7)
    (h : classOf s.base.frequency (x.instant - r) = .good ∨ classOf s.base.frequency (x.instant - r) = .late) :
    s.acquire x = s.acceptCrossing x
      (acquireStep x.tick.order s.base.goodCount (classOf s.base.frequency (x.instant - r))) := by
  rcases h with hgood | hlate
  · simp only [State.acquire, hr, hgood]
    exact s.acceptCrossing_congr x _ _ fun u hu => u.countGood_eq x.tick.order _ hu hcount
  · simp only [State.acquire, hr, hlate]
    exact s.acceptCrossing_congr x _ _ fun u hu => rfl

end Acquiring

/-! ## The edge on ZX -/

section Edge

variable (s : State) (x : CrossingInput) (hp : s.base.mainPower = true)

include hp

theorem exec_zeroCrossing_mainsLost (ht : s.base.tracker = .mainsLost) :
    exec (.zeroCrossing x) s = .next ((s.setTracker .acquiring).openAt x.instant) := by
  have hsecond : s.secondWindow = s := by simp only [State.secondWindow, ht]
  have hexpire : s.expireBefore x = s := by
    cases hr : s.base.reference with
    | none => exact s.expireBefore_none x hr
    | some r =>
      rcases Nat.lt_or_ge 25000000000 ((x.instant - r) * s.base.frequency.hz * 10) with hpast | hpast
      · rw [s.expireBefore_second x r hr (by simp [ht]) hpast, hsecond]
      · exact s.expireBefore_within x r hr (by simp [ht]) hpast
  rw [exec_zeroCrossing s x hp, hexpire]
  simp only [State.cross, ht]

variable (ht : s.base.tracker = .acquiring)

include ht

theorem exec_zeroCrossing_first (hr : s.base.reference = none) :
    exec (.zeroCrossing x) s = .next (s.openAt x.instant) := by
  rw [exec_zeroCrossing s x hp, s.expireBefore_none x hr]
  simp only [State.cross, ht, s.acquire_first x hr]

/-- In ACQUIRING no expiry comes between the reference and a crossing up to 2.5 P after it. -/
theorem exec_zeroCrossing_acquiring (r : Nat) (hr : s.base.reference = some r)
    (hpast : (x.instant - r) * s.base.frequency.hz * 10 ≤ 25000000000) :
    exec (.zeroCrossing x) s = .next (s.acquire x) := by
  rw [exec_zeroCrossing s x hp, s.expireBefore_within x r hr (by simp [ht]) hpast]
  simp only [State.cross, ht]

end Edge

/-! ## The eighth good crossing -/

theorem State.eighthGood_iff (s : State) (x : CrossingInput) : s.eighthGood x = true ↔
    s.base.tracker = .acquiring ∧ s.base.goodCount = 7 ∧
      ∃ r, s.base.reference = some r ∧ classOf s.base.frequency (x.instant - r) = .good := by
  simp only [State.eighthGood, Bool.and_eq_true, beq_iff_eq, and_assoc]
  cases s.base.reference <;> simp

theorem exec_lockAcquired (s : State) (x : CrossingInput) (hp : s.base.mainPower = true) :
    exec (.lockAcquired x) s = if s.eighthGood x = true then exec (.zeroCrossing x) s else .next s := by
  have hzero : exec (.zeroCrossing x) s = .next (s.zeroCrossing x) := congrArg _ (s.whenPowered_on _ hp)
  have hlock : exec (.lockAcquired x) s = .next (if s.eighthGood x = true then s.zeroCrossing x else s) :=
    congrArg _ (s.whenPowered_on _ hp)
  rw [hlock, hzero]
  split <;> rfl

/-- Settles O38: each class of crossing in MAINS_LOST and ACQUIRING. -/
theorem crossingsRegainTheMains : Obligations.CrossingsRegainTheMains := by
  unfold Obligations.CrossingsRegainTheMains
  intro s x hp
  refine ⟨_, rfl, fun ht => ?lost, fun ht hr => ?first,
    fun r ns ht hr hns => ⟨fun hlt => ?early, fun hlo hhi => ?overdue,
    fun hlo hhi => ?accepted⟩, fun hnot => ?notEighth⟩
  case lost =>
    rw [exec_zeroCrossing_mainsLost s x hp ht, s.setTracker_changed .acquiring (by simp [ht])]
    rfl
  case first => exact exec_zeroCrossing_first s x hp ht hr
  case early =>
    rw [hns] at hlt
    rw [exec_zeroCrossing_acquiring s x hp ht r hr (by omega), s.acquire_early x r hr ((classOf_early_iff _ _).2 hlt)]
    rfl
  case overdue =>
    rw [hns] at hlo hhi
    rw [exec_zeroCrossing_acquiring s x hp ht r hr hhi, s.acquire_overdue x r hr ((classOf_overdue_iff _ _).2 hlo)]
    rfl
  case accepted =>
    rw [hns] at hlo hhi ⊢
    refine ⟨s.accepted x, s.base.tenthDue,
      acquireStep x.tick.order s.base.goodCount (classOf s.base.frequency (x.instant - r)), s.accepted_eq x,
      s.base.tenthDue_iff, fun hlate => ?_, fun hgood hcount => ?_, fun hgood hcount => ⟨?_, ?_⟩, fun hcount => ?_⟩
    · rw [(classOf_late_iff _ _).2 ⟨hlate, hhi⟩]
      rfl
    · rw [(classOf_good_iff _ _).2 ⟨hlo, hgood⟩, acquireStep, if_pos hcount]
      rfl
    · rw [(classOf_good_iff _ _).2 ⟨hlo, hgood⟩, acquireStep, if_neg (by omega)]
      rfl
    · have heighth := (s.eighthGood_iff x).2 ⟨ht, hcount, r, hr, (classOf_good_iff _ _).2 ⟨hlo, hgood⟩⟩
      rw [exec_lockAcquired s x hp, if_pos heighth]
    · have hclass : classOf s.base.frequency (x.instant - r) = .good ∨
          classOf s.base.frequency (x.instant - r) = .late := by
        rw [classOf_good_iff, classOf_late_iff]
        omega
      rw [exec_zeroCrossing_acquiring s x hp ht r hr (by omega), s.acquire_accepts x r hr hcount hclass,
        s.acceptCrossing_eq]
  case notEighth =>
    rw [exec_lockAcquired s x hp, if_neg fun h => ?_]
    obtain ⟨ht, hcount, r, hr, _⟩ := (s.eighthGood_iff x).1 h
    rcases hnot with hnot | hnot | hnot
    · exact hnot ht
    · exact hnot hcount
    · rw [hr] at hnot
      cases hnot

end Sys2Proof.Machine
end

section
/-! SET_TIME, the entry in force and the working-out it brings (R29, R30, R46, R47, R49, R51, R52, R121). -/

namespace Sys2Proof.Machine

/-! ## The frame -/

theorem TimeOfDay.parse_eq_none_of_length (p : List Byte) (h : p.length ≠ 5) : TimeOfDay.parse p = none := by
  unfold TimeOfDay.parse
  split
  · exact absurd rfl h
  · rfl

/-- A time of day out of range is refused, where its five values are bytes (R30). -/
theorem TimeOfDay.parse_eq_none (t : TimeOfDay) (h : t.inRange = false) (hday : t.day < 256) (hhour : t.hour < 256)
    (hminute : t.minute < 256) (hsecond : t.second < 256) (htenth : t.tenth < 256) :
    TimeOfDay.parse t.bytes = none := by
  simp only [TimeOfDay.bytes, TimeOfDay.parse, b8_toNat hday, b8_toNat hhour, b8_toNat hminute, b8_toNat hsecond,
    b8_toNat htenth, h, Bool.false_eq_true, if_false]

theorem exec_setTime_taken (s : State) (h : Header) (time : TimeOfDay) (hr : s.ready) (ht : time.inRange = true) :
    exec (.setTime h time.bytes) s = .next (((s.shiftOut h.clocked).setTime time).returningJunction h 24) := by
  refine congrArg _ ((s.onJunction_taken 24 h false Mode.every _ hr nofun rfl).trans ?_)
  simp only [TimeOfDay.parse_bytes time ht]
  rfl

theorem exec_setTime_outOfRange (s : State) (h : Header) (p : List Byte) (hr : s.ready)
    (hp : TimeOfDay.parse p = none) : exec (.setTime h p) s = .next (s.refusing h 24 .range 0) := by
  refine congrArg _ ((s.onJunction_taken 24 h false Mode.every _ hr nofun rfl).trans ?_)
  simp only [hp]
  rfl

/-! ## The age of an entry (R47) -/

/-- The instant of an entry's hour and minute on a day, in tenths of the week. -/
def ScheduleConfig.instantOn (e : ScheduleConfig) (day : Nat) : Nat := (((day - 1) * 24 + e.hour) * 60 + e.minute) * 600

/-- An instant of the entry on one of its days lies a tenths, or whole weeks more, before now. -/
def ScheduleConfig.since (e : ScheduleConfig) (now : TimeOfDay) (day a : Nat) : Prop :=
  1 ≤ day ∧ day ≤ 7 ∧ e.days.getLsbD (day - 1) = true ∧ (e.instantOn day + a) % 6048000 = now.instant % 6048000

theorem TimeOfDay.instant_eq (t : TimeOfDay) :
    t.instant = (((t.day - 1) * 24 + t.hour) * 60 + t.minute) * 600 + t.second * 10 + t.tenth := by
  unfold TimeOfDay.instant
  omega

theorem ScheduleConfig.onDay_iff (e : ScheduleConfig) (day : Nat) :
    e.onDay day = true ↔ 1 ≤ day ∧ e.days.getLsbD (day - 1) = true := by
  rw [ScheduleConfig.onDay, Bool.and_eq_true, decide_eq_true_iff]

/-- On each day of the week the age is the least number of tenths since the entry's instant. -/
theorem ScheduleConfig.ageOn_least (e : ScheduleConfig) (now : TimeOfDay) (day : Nat) (hday : day ≤ 7)
    (hhour : e.hour ≤ 23) (hminute : e.minute ≤ 59) :
    ageOn now day e.hour e.minute < 6048000 ∧
    (e.instantOn day + ageOn now day e.hour e.minute) % 6048000 = now.instant % 6048000 ∧
    ∀ b, (e.instantOn day + b) % 6048000 = now.instant % 6048000 → ageOn now day e.hour e.minute ≤ b := by
  unfold ageOn ScheduleConfig.instantOn tenthsPerWeek tenthsPerMinute
  refine ⟨by omega, by omega, fun b hb => by omega⟩

/-- The days of the week an entry names. -/
theorem ScheduleConfig.mem_days_iff (e : ScheduleConfig) (day : Nat) :
    day ∈ [1, 2, 3, 4, 5, 6, 7].filter e.onDay ↔ 1 ≤ day ∧ day ≤ 7 ∧ e.days.getLsbD (day - 1) = true := by
  rw [List.mem_filter, e.onDay_iff]
  simp only [List.mem_cons, List.not_mem_nil, or_false]
  constructor
  · rintro ⟨hmem, hpos, hbit⟩
    exact ⟨hpos, by omega, hbit⟩
  · rintro ⟨hpos, hle, hbit⟩
    exact ⟨by omega, hpos, hbit⟩

theorem ScheduleConfig.age_eq_none_iff (e : ScheduleConfig) (now : TimeOfDay) : e.age now = none ↔ e.days = 0 := by
  rw [ScheduleConfig.age, List.min?_eq_none_iff, List.map_eq_nil_iff, List.eq_nil_iff_forall_not_mem]
  constructor
  · refine fun hnone => BitVec.eq_of_getLsbD_eq fun i hi => ?_
    have hday := hnone (i + 1)
    rw [e.mem_days_iff] at hday
    simpa [show i + 1 ≤ 7 by omega] using hday
  · intro hzero day hday
    rw [e.mem_days_iff, hzero] at hday
    simp at hday

/-- The age is the least among the entry's days (R47). -/
theorem ScheduleConfig.age_some (e : ScheduleConfig) (now : TimeOfDay) (a : Nat) (hhour : e.hour ≤ 23)
    (hminute : e.minute ≤ 59) (h : e.age now = some a) :
    a < 6048000 ∧ (∃ day, e.since now day a) ∧ ∀ day b, e.since now day b → a ≤ b := by
  rw [ScheduleConfig.age, List.min?_eq_some_iff] at h
  obtain ⟨hmem, hleast⟩ := h
  obtain ⟨day, hday, rfl⟩ := List.mem_map.1 hmem
  obtain ⟨hpos, hle, hbit⟩ := (e.mem_days_iff day).1 hday
  obtain ⟨hweek, hsince, _⟩ := e.ageOn_least now day hle hhour hminute
  refine ⟨hweek, ⟨day, hpos, hle, hbit, hsince⟩, fun other b hother => ?_⟩
  obtain ⟨opos, ole, obit, osince⟩ := hother
  have hage := hleast _ (List.mem_map_of_mem ((e.mem_days_iff other).2 ⟨opos, ole, obit⟩))
  exact hage.trans ((e.ageOn_least now other ole hhour hminute).2.2 b osince)

/-! ## The entry in force (R47) -/

theorem State.consideredAge_eq_some_iff (s : State) (e : Fin 24) (a : Nat) : s.consideredAge e = some a ↔
    s.schedule[e].cfg.state = .enabled ∧ s.plans[s.schedule[e].cfg.plan].loaded = true ∧
      s.schedule[e].cfg.age s.base.time = some a := by
  simp only [State.consideredAge]
  split
  case isTrue h => simp only [h, true_and]
  case isFalse h => simp only [reduceCtorEq, ← and_assoc, h, false_and]

theorem State.consideredAge_eq_none_iff (s : State) (e : Fin 24) : s.consideredAge e = none ↔
    (s.schedule[e].cfg.state = .enabled → s.plans[s.schedule[e].cfg.plan].loaded = true →
      s.schedule[e].cfg.days = 0) := by
  simp only [State.consideredAge]
  split
  case isTrue h => simp only [ScheduleConfig.age_eq_none_iff, h, true_implies]
  case isFalse h => exact iff_of_true rfl fun hstate hloaded => absurd ⟨hstate, hloaded⟩ h

theorem State.youngest_eq_none_iff (s : State) (l : List (Fin 24)) :
    s.youngest l = none ↔ ∀ e ∈ l, s.consideredAge e = none := by
  induction l with
  | nil => simp [State.youngest]
  | cons e rest ih =>
    rw [List.forall_mem_cons, ← ih, State.youngest]
    cases s.consideredAge e with
    | none => simp
    | some a =>
      cases s.youngest rest with
      | none => simp
      | some p => by_cases hle : a ≤ p.2 <;> simp [hle]

/-- The age a of e is the least of those of the list, and e the lowest-numbered entry of that age (R47). -/
def State.LeastAge (s : State) (l : List (Fin 24)) (e : Fin 24) (a : Nat) : Prop :=
  e ∈ l ∧ s.consideredAge e = some a ∧ ∀ f ∈ l, ∀ b, s.consideredAge f = some b → a ≤ b ∧ (f < e → a < b)

theorem State.LeastAge.head {s : State} {l : List (Fin 24)} {e : Fin 24} {a : Nat} (he : s.consideredAge e = some a)
    (hfirst : ∀ f ∈ l, e < f) (hleast : ∀ f ∈ l, ∀ b, s.consideredAge f = some b → a ≤ b) :
    s.LeastAge (e :: l) e a := by
  refine ⟨List.mem_cons_self, he, List.forall_mem_cons.2 ⟨fun b hb => ?_, fun f hf b hb => ?_⟩⟩
  · rw [he] at hb
    exact ⟨(Option.some.inj hb).le, fun hlt => absurd hlt (lt_irrefl _)⟩
  · exact ⟨hleast f hf b hb, fun hlt => absurd (hfirst f hf) hlt.asymm⟩

theorem State.LeastAge.tail {s : State} {l : List (Fin 24)} {e : Fin 24} {a : Nat} (h : s.LeastAge l e a) {d : Fin 24}
    (hd : ∀ b, s.consideredAge d = some b → a < b) : s.LeastAge (d :: l) e a := by
  obtain ⟨hmem, hage, hleast⟩ := h
  exact ⟨List.mem_cons_of_mem d hmem, hage,
    List.forall_mem_cons.2 ⟨fun b hb => ⟨(hd b hb).le, fun _ => hd b hb⟩, hleast⟩⟩

theorem State.youngest_some (s : State) (l : List (Fin 24)) (hl : l.Pairwise (· < ·)) (e : Fin 24) (a : Nat)
    (h : s.youngest l = some (e, a)) : s.LeastAge l e a := by
  induction l generalizing e a with
  | nil => cases h
  | cons d rest ih =>
    obtain ⟨hfirst, hrest⟩ := List.pairwise_cons.1 hl
    rw [State.youngest] at h
    cases hd : s.consideredAge d with
    | none =>
      rw [hd] at h
      exact (ih hrest e a h).tail fun b hb => absurd (hd.symm.trans hb) (by simp)
    | some ad =>
      rw [hd] at h
      cases hy : s.youngest rest with
      | none =>
        rw [hy] at h
        obtain ⟨rfl, rfl⟩ := Prod.mk.inj (Option.some.inj h)
        have hnone := (s.youngest_eq_none_iff rest).1 hy
        exact .head hd hfirst fun f hf b hb => absurd ((hnone f hf).symm.trans hb) (by simp)
      | some p =>
        have hrestLeast : s.LeastAge rest p.1 p.2 := ih hrest p.1 p.2 hy
        rw [hy] at h
        simp only at h
        split at h
        case isTrue hle =>
          obtain ⟨rfl, rfl⟩ := Prod.mk.inj (Option.some.inj h)
          obtain ⟨_, _, hleast⟩ := hrestLeast
          exact .head hd hfirst fun f hf b hb => hle.trans (hleast f hf b hb).1
        case isFalse hle =>
          obtain ⟨rfl, rfl⟩ := Prod.mk.inj (Option.some.inj h)
          refine hrestLeast.tail fun b hb => ?_
          rw [hd] at hb
          exact Option.some.inj hb ▸ Nat.lt_of_not_le hle

theorem allEntries_rising : allEntries.Pairwise (· < ·) := List.pairwise_lt_finRange 24

theorem State.entryInForce_invalid (s : State) (h : s.base.timeValid = false) : s.entryInForce = none := by
  rw [State.entryInForce, h, if_neg Bool.false_ne_true]

theorem State.entryInForce_eq_none_iff (s : State) (h : s.base.timeValid = true) :
    s.entryInForce = none ↔ ∀ e, s.consideredAge e = none := by
  rw [State.entryInForce, if_pos h, Option.map_eq_none_iff, s.youngest_eq_none_iff]
  simp only [allEntries, List.mem_finRange, true_implies]

theorem State.entryInForce_some (s : State) (e : Fin 24) (h : s.entryInForce = some e) :
    ∃ a, s.consideredAge e = some a ∧ ∀ f b, s.consideredAge f = some b → a ≤ b ∧ (f < e → a < b) := by
  unfold State.entryInForce at h
  split at h
  case isFalse => cases h
  case isTrue =>
    obtain ⟨⟨f, a⟩, hy, rfl⟩ := Option.map_eq_some_iff.1 h
    obtain ⟨_, hage, hleast⟩ := s.youngest_some _ allEntries_rising f a hy
    exact ⟨a, hage, fun g => hleast g (List.mem_finRange g)⟩

theorem State.workOutEntry_none (s : State) (h : s.entryInForce = none) :
    s.workOutEntry = s.setScheduled 0 .bright := by
  simp only [State.workOutEntry, h]

theorem State.workOutEntry_some (s : State) (e : Fin 24) (h : s.entryInForce = some e) :
    s.workOutEntry = s.setScheduled s.schedule[e].cfg.plan s.schedule[e].cfg.dimming := by
  simp only [State.workOutEntry, h]

/-! ## The scheduled plan and dimming (R46, R49, R51, R52, R121) -/

theorem dimmingFor_eq (o : DimOverride) (d : Dimming) : dimmingFor o d = match o with
    | .follow => d
    | .bright => .bright
    | .dim => .dim := by cases o <;> rfl

theorem State.workOutDimming_keeps (s : State)
    (h : dimmingFor s.sched.dimOverride s.sched.scheduledDimming = s.sched.dimState) :
    event State.workOutDimming s = s := event_of_work _ s (if_pos h) rfl rfl rfl

/-- A change of the dimming state is an event that moves the JUNCTION revision (R52, R121, R146). -/
theorem State.workOutDimming_changes (s : State) (d : Dimming)
    (hd : d = dimmingFor s.sched.dimOverride s.sched.scheduledDimming) (h : d ≠ s.sched.dimState) :
    event State.workOutDimming s = { s with
      sched := { s.sched with dimState := d, dimSettle := 50, dimPin := decide (d = .dim) }
      channels := s.channels.map Channel.dimChanged
      junctionRev := s.junctionRev + 1 } := by
  have hwork : s.workOutDimming = s.changeDimming d := by rw [State.workOutDimming, ← hd, if_neg h]
  have hsettled : ¬s.junctionSettled = (s.changeDimming d).junctionSettled := fun he =>
    h.symm (congrArg JunctionSettled.dimState he)
  have hpin : (d == Dimming.dim) = decide (d = .dim) := by rw [Bool.eq_iff_iff, beq_iff_eq, decide_eq_true_iff]
  simp only [event, hwork, closeEvent, junctionMoved, if_neg hsettled]
  simp only [State.changeDimming, State.mapSched, groups_moved_self, cables_moved_self, hpin, nextRev]

/-- The event that sets the scheduled plan and dimming changes of the schedule unit only them and the requested plan. -/
theorem State.schedulePlan_unit (s : State) (p : Fin 8) (d : Dimming) :
    (s.schedulePlan p d).sched = { s.sched with
      scheduledPlan := p, scheduledDimming := d, requested := (s.schedulePlan p d).sched.requested } := by
  simp only [State.schedulePlan, State.workOutRequested, State.workOutPending, State.refresh_sched,
    State.mapSeq_sched, State.mapSched_sched]

/-- Settles O28: the frame, the age of an entry, the choice of the entry in force and what it brings. -/
theorem setTime : Obligations.SetTime := by
  unfold Obligations.SetTime
  refine ⟨fun s h time hr => ⟨fun h1 h2 h3 h4 h5 h6 => ?taken, fun hout h1 h2 h3 h4 h5 => ?outOfRange,
      fun p hp => ?length⟩,
    fun e now hhour hminute => ⟨now.instant, e.since now, now.instant_eq, fun _ _ => Iff.rfl, e.age_eq_none_iff now,
      fun a ha => e.age_some now a hhour hminute ha⟩,
    fun s => ⟨s.entryInForce_invalid, fun hv => ?noEntry, fun e he => ?entry, s.workOutEntry_none,
      s.workOutEntry_some⟩,
    fun s plan dimming => ?scheduled⟩
  case taken => exact exec_setTime_taken s h time hr (time.inRange_iff.2 ⟨h1, h2, h3, h4, h5, h6⟩)
  case outOfRange =>
    refine exec_setTime_outOfRange s h _ hr (time.parse_eq_none (Bool.eq_false_iff.2 fun hin => ?_) h1 h2 h3 h4 h5)
    have hranges := time.inRange_iff.1 hin
    omega
  case length => exact exec_setTime_outOfRange s h p hr (TimeOfDay.parse_eq_none_of_length p hp)
  case noEntry => exact (s.entryInForce_eq_none_iff hv).trans (forall_congr' s.consideredAge_eq_none_iff)
  case entry =>
    obtain ⟨a, hage, hleast⟩ := s.entryInForce_some e he
    obtain ⟨hstate, hloaded, ha⟩ := (s.consideredAge_eq_some_iff e a).1 hage
    exact ⟨hstate, hloaded, a, ha, fun f b hf hl hb =>
      hleast f b ((s.consideredAge_eq_some_iff f b).2 ⟨hf, hl, hb⟩)⟩
  case scheduled =>
    let t := event (fun u => u.schedulePlan plan dimming) s
    have hunit : t.sched = { s.sched with
        scheduledPlan := plan, scheduledDimming := dimming, requested := t.sched.requested } :=
      s.schedulePlan_unit plan dimming
    have hchannels : t.channels = s.channels := s.schedulePlan_channels plan dimming
    refine ⟨dimmingFor s.sched.dimOverride dimming, t, s.channels.map Channel.dimChanged, rfl, dimmingFor_eq _ _,
      fun c => Vector.getElem_map _ c.isLt, fun hkept => ?_, fun hchanged => ?_⟩
    · refine t.workOutDimming_keeps ?_
      rw [hunit]
      exact hkept
    · refine (t.workOutDimming_changes (dimmingFor s.sched.dimOverride dimming) ?_ ?_).trans ?_
      · rw [hunit]
      · rw [hunit]
        exact hchanged
      · rw [hchannels]

end Sys2Proof.Machine
end

section
/-! The window expiries (R19, R20, R22, R24, R26, R27), and the works of a cycle tick in their order (R23). -/

namespace Sys2Proof.Machine

/-! ## The expiries -/

theorem State.firstWindow_locked (s : State) (i : TickInput) (r : Nat) (ht : s.base.tracker = .locked)
    (hr : s.base.reference = some r) : s.firstWindow i = s.slip i := by
  simp only [State.firstWindow, ht, hr]

theorem State.firstWindow_acquiring (s : State) (i : TickInput) (r : Nat) (ht : s.base.tracker = .acquiring)
    (hr : s.base.reference = some r) :
    s.firstWindow i = { s with base := { s.base with goodCount := 0 } } := by
  have hclears : s.firstWindow i = s.mapBase fun b => { b with goodCount := 0 } := by
    simp only [State.firstWindow, ht, hr]
  exact hclears

theorem State.firstWindow_none (s : State) (i : TickInput)
    (h : s.base.tracker = .slip1 ∨ s.base.tracker = .mainsLost ∨ s.base.reference = none) : s.firstWindow i = s := by
  unfold State.firstWindow
  rcases h with ht | ht | hr
  · simp only [ht]
  · simp only [ht]
  · rw [hr]
    cases s.base.tracker <;> rfl

theorem State.secondWindow_due (s : State) (r : Nat)
    (ht : s.base.tracker = .slip1 ∨ s.base.tracker = .acquiring) (hr : s.base.reference = some r) :
    s.secondWindow = s.loseMains := by
  unfold State.secondWindow
  rcases ht with ht | ht <;> simp only [ht, hr]

theorem State.secondWindow_none (s : State)
    (h : s.base.tracker = .locked ∨ s.base.tracker = .mainsLost ∨ s.base.reference = none) : s.secondWindow = s := by
  unfold State.secondWindow
  rcases h with ht | ht | hr
  · simp only [ht]
  · simp only [ht]
  · rw [hr]
    cases s.base.tracker <;> rfl

/-- The state after a substitute tick, its tenth tick apart (R19). -/
def State.slipped (s : State) (i : TickInput) : State :=
  ((s.endCycle false i).mapBase fun b => { b with opening := .substitute }).setTracker .slip1

theorem State.slip_eq (s : State) (i : TickInput) :
    s.slip i = if s.base.tenthDue = true then (s.slipped i).tenth i.tenth else s.slipped i := rfl

theorem State.slipped_eq (s : State) (i : TickInput) : s.slipped i =
    event (fun u => { u with base := { u.base with tracker := .slip1 } })
      { s.cycleTick false i with
        base := { s.base with
          opening := .substitute, source := .cycles
          divider :=
            if s.base.source = .crystal then 1
            else if s.base.divider < (if s.base.frequency = .hz50 then 4 else 5) then s.base.divider + 1
            else 0 } } := by
  rw [State.slipped, State.endCycle_eq]
  rfl

theorem exec_firstWindowExpiry (s : State) (i : TickInput) (h : s.base.mainPower = true) :
    exec (.firstWindowExpiry i) s = .next (s.firstWindow i) := congrArg _ (s.whenPowered_on _ h)

theorem exec_secondWindowExpiry (s : State) (h : s.base.mainPower = true) :
    exec .secondWindowExpiry s = .next s.secondWindow := congrArg _ (s.whenPowered_on _ h)

/-! ## Works taken in turn -/

/-- The works of a tick, one after the other. -/
def runWorks (works : List (State → State)) (s : State) : State := works.foldl (fun u f => f u) s

/-- The works of a tick, the one of a fixed turn taken where its turn has come after each of the others. -/
def runTurns (turn : Nat) (f : State → State) (works : List (State → State)) (p : Nat × State) : State :=
  (works.foldl (fun (p : Nat × State) work => (p.1 + 1, if turn = p.1 + 1 then f (work p.2) else work p.2)) p).2

theorem runTurns_past (turn : Nat) (f : State → State) (works : List (State → State)) (n : Nat) (u : State)
    (h : turn ≤ n) : runTurns turn f works (n, u) = runWorks works u := by
  induction works generalizing n u with
  | nil => rfl
  | cons work rest ih =>
    have hstep : runTurns turn f (work :: rest) (n, u) = runTurns turn f rest (n + 1, work u) := by
      simp only [runTurns, List.foldl_cons, if_neg (show ¬turn = n + 1 by omega)]
    rw [hstep, ih (n + 1) (work u) (by omega)]
    rfl

/-- A work whose turn comes among the others is one work more in their list. -/
theorem runTurns_eq (turn : Nat) (f : State → State) (works : List (State → State)) (n : Nat) (u : State)
    (hlo : n ≤ turn) (hhi : turn ≤ n + works.length) :
    runTurns turn f works (n, if turn = n then f u else u) = runWorks (works.insertIdx (turn - n) f) u := by
  induction works generalizing n u with
  | nil =>
    obtain rfl : turn = n := Nat.le_antisymm hhi hlo
    rw [if_pos rfl, Nat.sub_self]
    rfl
  | cons work rest ih =>
    by_cases hturn : turn = n
    · subst hturn
      rw [if_pos rfl, runTurns_past turn f _ turn _ le_rfl, Nat.sub_self]
      rfl
    · have hstep : runTurns turn f (work :: rest) (n, u) =
          runTurns turn f rest (n + 1, if turn = n + 1 then f (work u) else work u) := rfl
      rw [if_neg hturn, hstep, ih (n + 1) (work u) (by omega) (by simp only [List.length_cons] at hhi; omega),
        show turn - n = turn - (n + 1) + 1 by omega, List.insertIdx_succ_cons]
      rfl

/-! ## The works of a cycle tick (R23, log entry 11) -/

theorem insertIdx_eq_take_drop {α : Type} (a : α) (l : List α) (n : Nat) (h : n ≤ l.length) :
    l.insertIdx n a = l.take n ++ a :: l.drop n := by
  induction l generalizing n with
  | nil =>
    obtain rfl : n = 0 := Nat.le_zero.1 h
    rfl
  | cons x rest ih =>
    cases n with
    | zero => rfl
    | succ n =>
      rw [List.insertIdx_succ_cons, ih n (Nat.le_of_succ_le_succ h)]
      rfl

theorem tickWorks_eq (o : TickOrder) (verdicts cables evidence : State → State) :
    tickWorks o verdicts cables evidence =
      (if o.cablesFirst = true then [cables, evidence] else [evidence, cables]).insertIdx
        o.verdictTurn.val verdicts := by
  have hturn := o.verdictTurn.isLt
  rw [insertIdx_eq_take_drop]
  · rfl
  · split <;> simp only [List.length_cons, List.length_nil] <;> omega

theorem tickWorks_length (o : TickOrder) (verdicts cables evidence : State → State) :
    (tickWorks o verdicts cables evidence).length = 3 := by
  have hturn := o.verdictTurn.isLt
  rw [tickWorks_eq]
  split <;> rw [List.length_insertIdx_of_le_length] <;> simp only [List.length_cons, List.length_nil] <;> omega

/-- The readings a cycle tick delivers: none where it is not measured (R105). -/
def State.readingsIf (s : State) (measured : Bool) : Option Readings :=
  if measured = true then some s.sampler.readings else none

/-- The five works of a cycle tick in the order its operand gives, where `found` is the state at the proving unit's turn
and `ended` the commands of the cycle that ends (R94, R127, R131, R154, R155, R158). -/
def tickOrder (s : State) (measured : Bool) (i : TickInput) (raised : Bool) (opening ended : Vector Bool 64) :
    List (State → State) :=
  ((fun u => u.proveTick (s.readingsIf measured) opening) ::
    (if i.order.cablesFirst = true then
      [fun u => u.cableTick (s.readingsIf measured), fun u => u.evidenceTick s.sup measured ended]
    else [fun u => u.evidenceTick s.sup measured ended, fun u => u.cableTick (s.readingsIf measured)]).insertIdx
      i.order.verdictTurn.val fun u => u.verdictTick raised).insertIdx i.order.sequencerTurn.val
    fun u => u.sequencerCycle measured i.det

theorem State.atTurn_first (s : State) (measured : Bool) (i : TickInput) : s.atTurn measured i 0 =
    if i.order.sequencerTurn = 0 then s.sequencerCycle measured i.det else s := by
  simp only [State.atTurn, Fin.ext_iff, Fin.val_zero]

theorem State.tickBlocks_eq (s : State) (measured : Bool) (i : TickInput) (opening ended : Vector Bool 64) :
    s.tickBlocks measured i opening ended =
      runWorks (tickOrder s measured i ((s.atTurn measured i 0).raisesVerdict (s.readingsIf measured) opening) opening
        ended) s := by
  have hturn := i.order.sequencerTurn.isLt
  have hrun := runTurns_eq i.order.sequencerTurn.val (fun u => u.sequencerCycle measured i.det)
    ((fun u => u.proveTick (s.readingsIf measured) opening) :: tickWorks i.order
      (fun u => u.verdictTick ((s.atTurn measured i 0).raisesVerdict (s.readingsIf measured) opening))
      (fun u => u.cableTick (s.readingsIf measured)) (fun u => u.evidenceTick s.sup measured ended))
    0 s (Nat.zero_le _) (by rw [List.length_cons, tickWorks_length]; omega)
  rw [tickWorks_eq] at hrun
  exact Eq.trans (by rw [← tickWorks_eq]; rfl) hrun

/-- The state a cycle tick's works begin with: the channels counted on their cables, and the dim settle counted down
where its turn is first (R52, R85). -/
def State.tickStart (s : State) (i : TickInput) : State :=
  if i.order.settleFirst = true then s.countChannels.settleTick else s.countChannels

theorem State.tickStart_eq (s : State) (i : TickInput) : s.tickStart i =
    { s with
      counted := s.channels.map fun c => c.cfg.cable
      sched :=
        if i.order.settleFirst = true then { s.sched with dimSettle := s.sched.dimSettle - 1 } else s.sched } := by
  unfold State.tickStart
  split <;> rfl

/-- The state after a cycle tick's works, the dim settle and the cycle opening apart. -/
def State.tickDone (s : State) (measured : Bool) (i : TickInput) : State :=
  (s.tickStart i).tickBlocks measured i s.port (s.channels.map Channel.command)

theorem State.cycleTick_eq (s : State) (measured : Bool) (i : TickInput) : s.cycleTick measured i =
    (if i.order.settleFirst = true then s.tickDone measured i else (s.tickDone measured i).settleTick).openCycle := by
  simp only [State.cycleTick, State.tickDone, State.tickStart]
  split <;> rfl

theorem State.tickStart_readings (s : State) (measured : Bool) (i : TickInput) :
    (s.tickStart i).readingsIf measured = s.readingsIf measured := by
  rw [State.tickStart_eq]
  rfl

theorem State.tickStart_sup (s : State) (i : TickInput) : (s.tickStart i).sup = s.sup := by
  rw [State.tickStart_eq]

/-- The state the proving unit finds at its turn raises a verdict (R119). -/
def State.tickRaises (s : State) (measured : Bool) (i : TickInput) : Bool :=
  ((s.tickStart i).atTurn measured i 0).raisesVerdict (s.readingsIf measured) s.port

theorem State.tickDone_eq (s : State) (measured : Bool) (i : TickInput) : s.tickDone measured i =
    runWorks (tickOrder s measured i (s.tickRaises measured i) s.port (s.channels.map Channel.command))
      (s.tickStart i) := by
  rw [State.tickDone, State.tickBlocks_eq]
  simp only [tickOrder, State.tickStart_readings, State.tickStart_sup, State.tickRaises]

theorem State.raisesVerdict_iff (s : State) (readings : Option Readings) (opening : Vector Bool 64) :
    s.raisesVerdict readings opening = true ↔ ∃ c : Fin 64, (s.proveChannel readings opening c).raised = true := by
  simp only [State.raisesVerdict, allChannels, List.any_eq_true, List.mem_finRange, true_and]

/-- Settles O39: the two expiries by the tracker's state, and the list of a cycle tick's works. -/
theorem windowExpiries : Obligations.WindowExpiries := by
  unfold Obligations.WindowExpiries
  refine ⟨fun s hp => ⟨fun i r ht hr => ?slip, fun i r ht hr => ?good, fun i h => ?idle, fun r ht hr => ?lost,
    fun h => ?quiet⟩, fun s measured i => ?works⟩
  case slip =>
    refine ⟨s.slipped i, s.slipped_eq i, ?_⟩
    simp only [exec_firstWindowExpiry s i hp, s.firstWindow_locked i r ht hr, s.slip_eq, s.base.tenthDue_iff]
  case good => rw [exec_firstWindowExpiry s i hp, s.firstWindow_acquiring i r ht hr]
  case idle => rw [exec_firstWindowExpiry s i hp, s.firstWindow_none i h]
  case lost =>
    rw [exec_secondWindowExpiry s hp, s.secondWindow_due r ht hr]
    rfl
  case quiet => rw [exec_secondWindowExpiry s hp, s.secondWindow_none h]
  case works =>
    refine ⟨_, _, _, s.tickDone measured i, s.tickRaises measured i, _, _, _, _, _, rfl, rfl, rfl, rfl, ?_, rfl, rfl,
      rfl, rfl, ?_, ?_⟩
    · rw [← s.tickStart_eq, ← State.atTurn_first (s.tickStart i) measured i]
      exact State.raisesVerdict_iff _ _ _
    · rw [← s.tickStart_eq]
      exact s.tickDone_eq measured i
    · exact s.cycleTick_eq measured i

end Sys2Proof.Machine
end

section
/-! What the works of a cycle tick leave unchanged, and what the one work that changes a part makes of it (R23). -/

namespace Sys2Proof.Machine

/-! ## A part of State that one work alone changes -/

theorem runWorks_keeps {β : Type} (g : State → β) (works : List (State → State))
    (h : ∀ f ∈ works, ∀ u, g (f u) = g u) (s : State) : g (runWorks works s) = g s := by
  induction works generalizing s with
  | nil => rfl
  | cons f rest ih =>
    obtain ⟨hf, hrest⟩ := List.forall_mem_cons.1 h
    exact (ih hrest (f s)).trans (hf s)

/-- Where one work alone changes a part, it finds the part as the works found it, and leaves it as they leave it. -/
theorem runWorks_once {β : Type} (g : State → β) (works others : List (State → State)) (w : State → State)
    (hp : works.Perm (w :: others)) (hk : ∀ f ∈ others, ∀ u, g (f u) = g u) (s : State) :
    ∃ u, g u = g s ∧ g (runWorks works s) = g (w u) := by
  obtain ⟨before, after, rfl⟩ := List.append_of_mem (hp.mem_iff.2 List.mem_cons_self)
  have hothers : (before ++ after).Perm others := (List.perm_middle.symm.trans hp).cons_inv
  have hkeeps (f : State → State) (hf : f ∈ before ++ after) (u : State) : g (f u) = g u :=
    hk f (hothers.mem_iff.1 hf) u
  refine ⟨runWorks before s, runWorks_keeps g before (fun f hf => hkeeps f (List.mem_append_left _ hf)) s, ?_⟩
  have hsplit : runWorks (before ++ w :: after) s = runWorks after (w (runWorks before s)) := by
    simp only [runWorks, List.foldl_append, List.foldl_cons]
  rw [hsplit]
  exact runWorks_keeps g after (fun f hf => hkeeps f (List.mem_append_right _ hf)) _

theorem insertIdx_perm {α : Type} (a : α) (l : List α) (n : Nat) (h : n ≤ l.length) :
    (l.insertIdx n a).Perm (a :: l) := by
  rw [insertIdx_eq_take_drop a l n h]
  exact List.perm_middle.trans (by rw [List.take_append_drop])

/-- Whatever their order, the works of a cycle tick are these five. -/
theorem tickOrder_perm (s : State) (measured : Bool) (i : TickInput) (raised : Bool) (opening ended : Vector Bool 64) :
    (tickOrder s measured i raised opening ended).Perm
      [fun u => u.sequencerCycle measured i.det, fun u => u.proveTick (s.readingsIf measured) opening,
        fun u => u.verdictTick raised, fun u => u.cableTick (s.readingsIf measured),
        fun u => u.evidenceTick s.sup measured ended] := by
  have hverdict := i.order.verdictTurn.isLt
  have hsequencer := i.order.sequencerTurn.isLt
  unfold tickOrder
  refine (insertIdx_perm _ _ _ ?_).trans (.cons _ (.cons _ ((insertIdx_perm _ _ _ ?_).trans (.cons _ ?_))))
  · rw [List.length_cons, List.length_insertIdx_of_le_length] <;>
      split <;> simp only [List.length_cons, List.length_nil] <;> omega
  · split <;> simp only [List.length_cons, List.length_nil] <;> omega
  · split
    · exact .refl _
    · exact .swap _ _ _

/-! ## The detectors -/

theorem State.sequencerCycle_detectors (s : State) (measured : Bool) (det : Set16) :
    (s.sequencerCycle measured det).detectors =
      if measured = true then (s.sampleDetectors det).detectors else s.detectors := by
  simp only [State.sequencerCycle]
  split <;> simp

theorem Detector.sample_previous (d : Detector) (pin : Bool) :
    (d.sample pin).previous = if d.cfg.enabled = true then pin != d.cfg.invert else d.previous := by
  simp only [Detector.sample, Detector.moved]
  repeat' split
  all_goals rfl

theorem State.sampleDetectors_previous (s : State) (det : Set16) (d : Fin 16) :
    (s.sampleDetectors det).detectors[d].previous =
      if s.detectors[d].cfg.enabled = true then has det d != s.detectors[d].cfg.invert
      else s.detectors[d].previous :=
  (congrArg Detector.previous (ofFn_get (fun n : Fin 16 => s.detectors[n].sample (has det n)) d)).trans
    (Detector.sample_previous _ _)

/-! ## The cables' readings (R126) -/

/-- The two readings each cable record holds (R126). -/
def State.cableReadings (s : State) : Vector (Reading × Reading) 16 :=
  s.cables.map fun k => (k.lastReturn, k.lastResidual)

theorem State.cableReadings_get (s : State) (k : Fin 16) :
    s.cableReadings[k] = (s.cables[k].lastReturn, s.cables[k].lastResidual) := Vector.getElem_map _ k.isLt

theorem cableReadings_ext {a : State} {v : Vector (Reading × Reading) 16}
    (h : ∀ k : Fin 16, (a.cables[k].lastReturn, a.cables[k].lastResidual) = v[k]) : a.cableReadings = v :=
  Vector.ext fun k hk => (a.cableReadings_get ⟨k, hk⟩).trans (h ⟨k, hk⟩)

theorem cableReadings_of_cables {a b : State} (h : a.cables = b.cables) : a.cableReadings = b.cableReadings :=
  congrArg (Vector.map fun k : Cable => (k.lastReturn, k.lastResidual)) h

@[simp] theorem event_cableReadings (f : State → State) (s : State) :
    (event f s).cableReadings = (f s).cableReadings := by
  refine cableReadings_ext fun k => ?_
  rw [State.cableReadings_get, event_cable, Cable.moved_eq]
  split <;> rfl

/-- An event that is taken where it is due. -/
theorem eventIf_cableReadings (due : Prop) [Decidable due] (f : State → State) (s : State)
    (h : ∀ u, (f u).cableReadings = u.cableReadings) :
    (if due then event f s else s).cableReadings = s.cableReadings := by
  split
  · rw [event_cableReadings, h]
  · rfl

/-- A change of one cable's record that keeps its two readings. -/
theorem State.setCable_cableReadings (s : State) (k : Fin 16) (x : Cable)
    (h : (x.lastReturn, x.lastResidual) = (s.cables[k].lastReturn, s.cables[k].lastResidual)) :
    (s.setCable k x).cableReadings = s.cableReadings := by
  refine cableReadings_ext fun j => ?_
  rw [State.cableReadings_get]
  by_cases hj : k = j
  · subst hj
    exact (congrArg (fun c : Cable => (c.lastReturn, c.lastResidual)) (Vector.getElem_set_self k.isLt)).trans h
  · exact congrArg (fun c : Cable => (c.lastReturn, c.lastResidual))
      (Vector.getElem_set_ne k.isLt j.isLt fun he => hj (Fin.ext he))

@[simp] theorem State.removeEntry_cableReadings (s : State) (k : Fin 16) (t : TestStatus) :
    (s.removeEntry k t).cableReadings = s.cableReadings := by
  unfold State.removeEntry
  split
  case h_1 => rfl
  case h_2 => exact (cableReadings_of_cables (State.postIf_cables ..)).trans (State.setCable_cableReadings _ k _ rfl)

@[simp] theorem State.abandonTest_cableReadings (s : State) : s.abandonTest.cableReadings = s.cableReadings := by
  simp only [State.abandonTest]
  split
  · rfl
  · exact s.removeEntry_cableReadings _ _

@[simp] theorem State.yieldBridge_cableReadings (s : State) (set : Vector Bool 64) :
    (s.yieldBridge set).cableReadings = s.cableReadings := by
  unfold State.yieldBridge
  split
  case h_1 => rfl
  case h_2 =>
    split
    · exact s.abandonTest_cableReadings
    · rfl

@[simp] theorem State.examine_cableReadings (s : State) (set : Vector Bool 64) :
    (s.examine set).cableReadings = s.cableReadings := by
  unfold State.examine
  split
  case isTrue => exact cableReadings_of_cables s.withhold_cables
  case isFalse => exact State.yieldBridge_cableReadings _ _

@[simp] theorem State.sequencerCycle_cableReadings (s : State) (measured : Bool) (det : Set16) :
    (s.sequencerCycle measured det).cableReadings = s.cableReadings := by
  have hdark (t : State) : (event (fun v => v.darkStep.indicate) t).cableReadings = t.cableReadings := by
    rw [event_cableReadings]
    exact cableReadings_of_cables (t.darkStep.indicate_cables.trans t.darkStep_cables)
  simp only [State.sequencerCycle, event_cableReadings (fun v => v.examine v.proposed), State.examine_cableReadings,
    hdark]
  split <;> rfl

@[simp] theorem State.confirmFault_cableReadings (s : State) (k : Fin 16) (f : CableFault) :
    (s.confirmFault k f).cableReadings = s.cableReadings := by
  have hfault : ((s.setCable k { s.cables[k] with faults := s.cables[k].faults.add f }).post
      s.cables[k].route.cls .cable k.val).cableReadings = s.cableReadings := s.setCable_cableReadings k _ rfl
  simp only [State.confirmFault]
  split
  case isTrue => rfl
  case isFalse =>
    split
    case isTrue =>
      rw [← hfault, State.isolate]
      exact (cableReadings_of_cables (State.darkCauses_cables _)).trans (State.setCable_cableReadings _ k _ rfl)
    case isFalse => exact hfault

@[simp] theorem State.proveTick_cableReadings (s : State) (readings : Option Readings) (opening : Vector Bool 64) :
    (s.proveTick readings opening).cableReadings = s.cableReadings :=
  cableReadings_of_cables (s.proveTick_cables readings opening)

theorem State.confirmOpen_cableReadings (s : State) (k : Fin 16) : (s.confirmOpen k).cableReadings = s.cableReadings :=
  (State.confirmFault_cableReadings _ k _).trans (s.setCable_cableReadings k _ rfl)

theorem State.confirmBalance_cableReadings (s : State) (k : Fin 16) :
    (s.confirmBalance k).cableReadings = s.cableReadings :=
  (State.confirmFault_cableReadings _ k _).trans (s.setCable_cableReadings k _ rfl)

theorem State.openBad_cableReadings (s : State) (k : Fin 16) : (s.openBad k).cableReadings = s.cableReadings :=
  (eventIf_cableReadings _ _ _ fun u => u.confirmOpen_cableReadings k).trans (s.setCable_cableReadings k _ rfl)

theorem State.judgeBalance_cableReadings (s : State) (k : Fin 16) :
    (s.judgeBalance k).cableReadings = s.cableReadings :=
  (eventIf_cableReadings _ _ _ fun u => u.confirmBalance_cableReadings k).trans (s.setCable_cableReadings k _ rfl)

theorem State.evaluateCable_cableReadings (s : State) (k : Fin 16) :
    (s.evaluateCable k).cableReadings = s.cableReadings := by
  simp only [State.evaluateCable]
  split
  · split
    · exact s.openBad_cableReadings k
    · exact s.judgeBalance_cableReadings k
  · rfl

theorem State.recordCables_cable (s : State) (r : Readings) (k : Fin 16) : (s.recordCables r).cables[k] =
    { s.cables[k] with lastReturn := r.returns[k], lastResidual := r.residuals[k] } := Vector.getElem_ofFn k.isLt

/-- The readings of a measured cycle are recorded for every cable (R126). -/
theorem State.cableTick_cableReadings (s : State) (readings : Option Readings) (k : Fin 16) :
    (s.cableTick readings).cableReadings[k] = match readings with
      | none => s.cableReadings[k]
      | some r => (r.returns[k], r.residuals[k]) := by
  cases readings with
  | none => rfl
  | some r =>
    have hfold : (s.cableTick (some r)).cableReadings = (s.recordCables r).cableReadings :=
      foldl_keeps State.cableReadings _ State.evaluateCable_cableReadings _ _
    rw [hfold, State.cableReadings_get, State.recordCables_cable]

@[simp] theorem State.verdictTick_cableReadings (s : State) (raised : Bool) :
    (s.verdictTick raised).cableReadings = s.cableReadings :=
  eventIf_cableReadings _ _ _ fun u => cableReadings_of_cables u.verdictChanged_cables

@[simp] theorem State.evidenceTick_cableReadings (s : State) (found : Supervisor) (measured : Bool)
    (ended : Vector Bool 64) : (s.evidenceTick found measured ended).cableReadings = s.cableReadings := by
  have hraise (t : State) (x y : Fin 16) :
      (event (fun u => u.provenConflict x y) t).cableReadings = t.cableReadings := by
    rw [event_cableReadings]
    exact cableReadings_of_cables (t.provenConflict_cables x y)
  simp only [State.evidenceTick]
  split
  case isFalse => rfl
  case isTrue =>
    split
    · split <;> rfl
    · rw [hraise]
      split <;> rfl

end Sys2Proof.Machine
end

section
/-! What a cycle tick leaves of each channel (R90, R94, R109), and the crossings in LOCKED and SLIP1 (R18 to R20). -/

namespace Sys2Proof.Machine

/-! ## The envelope phase and the command (R90 to R92) -/

/-- The phase machine reads only the command, the phase and what remains of it, and changes only these. -/
theorem Channel.advance_eq (a b : Channel) (f : ProfileConfig) (opening : Bool) (hc : a.command = b.command)
    (hp : a.phase = b.phase) (hr : a.remaining = b.remaining) : a.advance f opening =
      { a with
        command := opening, phase := (b.advance f opening).phase, remaining := (b.advance f opening).remaining } := by
  simp only [Channel.advance, Channel.countCycle, Channel.switch, Channel.enterSurge, Channel.enterSettle,
    Channel.enterRelease, Channel.endSurge, Channel.endSettle, Channel.endRelease, Channel.setPhase, hc, hp, hr]
  repeat' split
  all_goals simp only [hp, hr]

/-! ## A judgement leaves the command, the phase and the reading -/

/-- What the judgement of a reading finds of a channel and leaves as it is: its written fields, its command and phase,
and the reading taken (R109). -/
structure ChannelHeld where
  cfg : ChannelConfig
  command : Bool
  phase : Phase
  remaining : Nat
  lastReading : Reading
  seenLit : Bool

def Channel.held (c : Channel) : ChannelHeld :=
  { cfg := c.cfg, command := c.command, phase := c.phase, remaining := c.remaining, lastReading := c.lastReading
    seenLit := c.seenLit }

theorem Channel.setActive_held (c : Channel) (d : Dimming) (p : Part) : (c.setActive d p).held = c.held := by
  unfold Channel.setActive
  split <;> rfl

theorem Channel.applyResult_held (c : Channel) (r : Result) : (c.applyResult r).held = c.held := by
  cases r <;> rfl

theorem Channel.completeLearning_held (c : Channel) (f : ProfileConfig) (d : Dimming) :
    (c.completeLearning f d).held = c.held := by
  simp only [Channel.completeLearning]
  split
  · exact c.setActive_held d _
  · exact c.setActive_held d _

theorem Channel.settleStreak_held (c : Channel) (f : ProfileConfig) (failed : Bool) :
    (c.settleStreak f failed).channel.held = c.held := by
  unfold Channel.settleStreak
  split <;> rfl

theorem Channel.judge_held (c : Channel) (f : ProfileConfig) (d : Dimming) (r : Reading) :
    (c.judge f d r).channel.held = c.held := by
  unfold Channel.judge
  split
  case h_1 =>
    split
    · rw [Channel.judgeClass, Channel.settleStreak_held, Channel.applyResult_held, Channel.setActive_held]
    · simp only [Channel.judgeLearning]
      split <;>
        simp only [Channel.settleStreak_held, Channel.completeLearning_held, Channel.applyResult_held,
          Channel.setActive_held]
  case h_2 => rw [Channel.judgeOff, Channel.settleStreak_held, Channel.applyResult_held]
  all_goals rfl

theorem State.judgeChannel_held (s : State) (c : Fin 64) (r : Reading) :
    (s.judgeChannel c r).channel.held = (s.channels[c].take (s.profileOf c) r).held := by
  simp only [State.judgeChannel]
  split
  · exact Channel.judge_held _ _ _ _
  · rfl

theorem Channel.moved_held (old new : Channel) : (Channel.moved old new).held = new.held := by
  unfold Channel.moved
  split <;> rfl

/-! ## One channel at a cycle tick -/

/-- The channel with the command of the cycle that opens and its next phase (R90, R91, R92). -/
def State.advanced (s : State) (opening : Vector Bool 64) (c : Fin 64) (x : Channel) : Channel :=
  { x with
    command := opening[c]
    phase := (s.channels[c].advance (s.profileOf c) opening[c]).phase
    remaining := (s.channels[c].advance (s.profileOf c) opening[c]).remaining }

theorem State.proveChannel_measured (s : State) (r : Readings) (opening : Vector Bool 64) (c : Fin 64) :
    (s.proveChannel (some r) opening c).channel.held =
      (s.advanced opening c (s.channels[c].take (s.profileOf c) r.channels[c])).held := by
  have hjudged := s.judgeChannel_held c r.channels[c]
  have hadvance := Channel.advance_eq (s.judgeChannel c r.channels[c]).channel s.channels[c] (s.profileOf c) opening[c]
    (congrArg ChannelHeld.command hjudged) (congrArg ChannelHeld.phase hjudged)
    (congrArg ChannelHeld.remaining hjudged)
  simp only [State.proveChannel, Channel.moved_held]
  rw [hadvance]
  have hkept (x y : Channel) (h : x.held = y.held) : (s.advanced opening c x).held = (s.advanced opening c y).held := by
    simp only [Channel.held, ChannelHeld.mk.injEq] at h
    simp only [State.advanced, Channel.held, h]
  exact hkept _ _ hjudged

/-- A tick without measurement moves no revision: the settled fields stay (R82, R94). -/
theorem State.proveChannel_unmeasured (s : State) (opening : Vector Bool 64) (c : Fin 64) :
    (s.proveChannel none opening c).channel = s.advanced opening c s.channels[c] := by
  have hadvance := Channel.advance_eq s.channels[c] s.channels[c] (s.profileOf c) opening[c] rfl rfl rfl
  simp only [State.proveChannel]
  rw [hadvance]
  exact if_pos rfl

theorem State.proveTick_channel (s : State) (readings : Option Readings) (opening : Vector Bool 64) (c : Fin 64) :
    (s.proveTick readings opening).channels[c] = (s.proveChannel readings opening c).channel := by
  have hfold : (s.proveTick readings opening).channels =
      (Vector.ofFn (s.proveChannel readings opening)).map Judged.channel :=
    foldl_keeps State.channels _ (fun t c => t.postIf_channels _ _ _ _) _ _
  rw [hfold]
  exact (Vector.getElem_map _ c.isLt).trans (congrArg Judged.channel (ofFn_get _ c))

/-! ## The whole tick -/

section Tick

variable (s : State) (measured : Bool) (i : TickInput)

theorem State.cycleTick_channels : (s.cycleTick measured i).channels = (s.tickDone measured i).channels := by
  rw [State.cycleTick_eq]
  split <;> rfl

theorem State.cycleTick_cables : (s.cycleTick measured i).cables = (s.tickDone measured i).cables := by
  rw [State.cycleTick_eq]
  split <;> rfl

theorem State.cycleTick_detectors : (s.cycleTick measured i).detectors = (s.tickDone measured i).detectors := by
  rw [State.cycleTick_eq]
  split <;> rfl

theorem State.cycleTick_counted : (s.cycleTick measured i).counted = s.channels.map fun c => c.cfg.cable := by
  have hdone : (s.tickDone measured i).counted = s.channels.map fun c => c.cfg.cable := by
    rw [State.tickDone, State.tickBlocks_counted, State.tickStart_eq]
  rw [State.cycleTick_eq]
  split
  · exact hdone
  · exact hdone

/-- The dim settle falls by one, whichever turn it has (R52). -/
theorem State.cycleTick_sched :
    (s.cycleTick measured i).sched = { s.sched with dimSettle := s.sched.dimSettle - 1 } := by
  have hdone : (s.tickDone measured i).sched = (s.tickStart i).sched := State.tickBlocks_sched ..
  rw [State.cycleTick_eq]
  by_cases hfirst : i.order.settleFirst = true
  · rw [if_pos hfirst, State.openCycle_sched, hdone, State.tickStart_eq, if_pos hfirst]
  · rw [if_neg hfirst, State.openCycle_sched, State.settleTick_sched, hdone, State.tickStart_eq, if_neg hfirst]

/-- The sampler's next cycle opens with the channels on the cables they have after the tick (R102, R104). -/
theorem State.cycleTick_sampler : (s.cycleTick measured i).sampler =
    { position := some 0, spacing := s.base.frequency
      inputs := Vector.replicate 80 { sum := 0, saturated := false }
      residuals := Vector.replicate 16 { sum := 0, saturated := false }
      carriedBy := (s.cycleTick measured i).channels.map fun c => c.cfg.cable } := by
  have hbase := s.cycleTick_base measured i
  rw [State.cycleTick_eq] at hbase ⊢
  exact congrArg (fun b : TimeBase =>
    ({ position := some 0, spacing := b.frequency
       inputs := Vector.replicate 80 Accumulator.zero
       residuals := Vector.replicate 16 Accumulator.zero
       carriedBy := _ } : Sampler)) hbase

/-- A state of a tick that holds the channels and profiles as the tick found them proves channel c. -/
theorem State.cycleTick_channel : ∃ u : State, u.channels = s.channels ∧ u.profiles = s.profiles ∧
    ∀ c : Fin 64, (s.cycleTick measured i).channels[c] =
      (u.proveChannel (s.readingsIf measured) s.port c).channel := by
  obtain ⟨u, hu, hdone⟩ := runWorks_once (fun u => (u.channels, u.profiles)) _ _ _
    ((tickOrder_perm s measured i (s.tickRaises measured i) s.port (s.channels.map Channel.command)).trans
      (.swap _ _ _))
    (by simp) (s.tickStart i)
  rw [State.tickStart_eq] at hu
  obtain ⟨hchannels, hprofiles⟩ := Prod.mk.inj hu
  refine ⟨u, hchannels, hprofiles, fun c => ?_⟩
  rw [State.cycleTick_channels, State.tickDone_eq, (Prod.mk.inj hdone).1]
  exact u.proveTick_channel _ _ c

theorem State.cycleTick_cableReadings (k : Fin 16) : (s.cycleTick measured i).cableReadings[k] =
    match s.readingsIf measured with
    | none => s.cableReadings[k]
    | some r => (r.returns[k], r.residuals[k]) := by
  obtain ⟨u, hu, hdone⟩ := runWorks_once State.cableReadings _ _ _
    ((tickOrder_perm s measured i (s.tickRaises measured i) s.port (s.channels.map Channel.command)).trans
      (List.perm_middle (l₁ := [_, _, _])))
    (by simp) (s.tickStart i)
  have hstart : u.cableReadings = s.cableReadings := by
    rw [hu, State.tickStart_eq]
    rfl
  rw [cableReadings_of_cables (s.cycleTick_cables measured i), State.tickDone_eq, hdone,
    State.cableTick_cableReadings, hstart]

theorem State.cycleTick_detectors_eq : (s.cycleTick measured i).detectors =
    if measured = true then (s.sampleDetectors i.det).detectors else s.detectors := by
  obtain ⟨u, hu, hdone⟩ := runWorks_once State.detectors _ _ _
    (tickOrder_perm s measured i (s.tickRaises measured i) s.port (s.channels.map Channel.command))
    (by simp) (s.tickStart i)
  have hstart : u.detectors = s.detectors := by rw [hu, State.tickStart_eq]
  rw [State.cycleTick_detectors, State.tickDone_eq, hdone, State.sequencerCycle_detectors]
  simp only [State.sampleDetectors, hstart]

end Tick

/-! ## Each channel over a tick -/

theorem State.advanced_congr (a b : State) (opening : Vector Bool 64) (c : Fin 64) (x : Channel)
    (hc : a.channels = b.channels) (hp : a.profiles = b.profiles) :
    a.advanced opening c x = b.advanced opening c x := by
  simp only [State.advanced, State.profileOf, hc, hp]

theorem State.profileOf_congr (a b : State) (c : Fin 64) (hc : a.channels = b.channels) (hp : a.profiles = b.profiles) :
    a.profileOf c = b.profileOf c := by
  simp only [State.profileOf, hc, hp]

/-- A measured tick takes the channel's reading and works seen lit out (R94, R108). -/
theorem State.cycleTick_channel_measured (s : State) (i : TickInput) (c : Fin 64) :
    (s.cycleTick true i).channels[c].held = (s.advanced s.port c
      (s.channels[c].take (s.profileOf c) (s.sampler.inputs[c.val]).reading)).held := by
  obtain ⟨u, hchannels, hprofiles, hprove⟩ := s.cycleTick_channel true i
  have hreading : s.sampler.readings.channels[c] = (s.sampler.inputs[c.val]).reading :=
    ofFn_get (fun c : Fin 64 => (s.sampler.inputs[c.val]).reading) c
  rw [hprove c, State.readingsIf, if_pos rfl, State.proveChannel_measured, hreading,
    u.advanced_congr s s.port c _ hchannels hprofiles, u.profileOf_congr s c hchannels hprofiles, hchannels]

theorem State.cycleTick_channel_unmeasured (s : State) (i : TickInput) (c : Fin 64) :
    (s.cycleTick false i).channels[c] = s.advanced s.port c s.channels[c] := by
  obtain ⟨u, hchannels, hprofiles, hprove⟩ := s.cycleTick_channel false i
  rw [hprove c, State.readingsIf, if_neg Bool.false_ne_true, State.proveChannel_unmeasured,
    u.advanced_congr s s.port c _ hchannels hprofiles, hchannels]

/-- Measured or not, a tick gives the channel its command and its phase, and keeps its written fields (R90, R92). -/
theorem State.cycleTick_channel_advanced (s : State) (measured : Bool) (i : TickInput) (c : Fin 64) :
    (s.cycleTick measured i).channels[c].command = s.port[c] ∧
    (s.cycleTick measured i).channels[c].phase = (s.channels[c].advance (s.profileOf c) s.port[c]).phase ∧
    (s.cycleTick measured i).channels[c].remaining = (s.channels[c].advance (s.profileOf c) s.port[c]).remaining ∧
    (s.cycleTick measured i).channels[c].cfg = s.channels[c].cfg := by
  have hheld : ∃ x : Channel, x.cfg = s.channels[c].cfg ∧
      (s.cycleTick measured i).channels[c].held = (s.advanced s.port c x).held := by
    cases measured with
    | true => exact ⟨s.channels[c].take _ _, rfl, s.cycleTick_channel_measured i c⟩
    | false => exact ⟨_, rfl, congrArg Channel.held (s.cycleTick_channel_unmeasured i c)⟩
  obtain ⟨x, hx, hheld⟩ := hheld
  exact ⟨congrArg ChannelHeld.command hheld, congrArg ChannelHeld.phase hheld, congrArg ChannelHeld.remaining hheld,
    (congrArg ChannelHeld.cfg hheld).trans hx⟩

theorem State.cycleTick_lastReturn (s : State) (measured : Bool) (i : TickInput) (k : Fin 16) :
    (s.cycleTick measured i).cables[k].lastReturn =
      if measured = true then (s.sampler.inputs[64 + k.val]).reading else s.cables[k].lastReturn := by
  have hreadings := s.cycleTick_cableReadings measured i k
  rw [State.cableReadings_get, State.cableReadings_get] at hreadings
  cases measured with
  | false => exact congrArg Prod.fst hreadings
  | true =>
    exact (congrArg Prod.fst hreadings).trans
      (ofFn_get (fun k : Fin 16 => (s.sampler.inputs[64 + k.val]).reading) k)

theorem State.cycleTick_lastResidual (s : State) (measured : Bool) (i : TickInput) (k : Fin 16) :
    (s.cycleTick measured i).cables[k].lastResidual =
      if measured = true then (s.sampler.residuals[k]).reading else s.cables[k].lastResidual := by
  have hreadings := s.cycleTick_cableReadings measured i k
  rw [State.cableReadings_get, State.cableReadings_get] at hreadings
  cases measured with
  | false => exact congrArg Prod.snd hreadings
  | true => exact (congrArg Prod.snd hreadings).trans (Vector.getElem_map _ k.isLt)

/-! ## Crossings in LOCKED and SLIP1 (R19, R20) -/

section Locked

variable (s : State) (x : CrossingInput) (r : Nat) (hp : s.base.mainPower = true) (hr : s.base.reference = some r)

include hp hr

theorem exec_zeroCrossing_early (ht : s.base.tracker = .locked)
    (hlt : (x.instant - r) * s.base.frequency.hz * 10 < 9000000000) : exec (.zeroCrossing x) s = .next s := by
  rw [exec_zeroCrossing s x hp, s.expireBefore_within x r hr (fun _ => by omega) (by omega)]
  simp only [State.cross, ht, State.crossLocked, hr, (classOf_early_iff _ _).2 hlt]

theorem exec_zeroCrossing_locked (ht : s.base.tracker = .locked)
    (hlo : 9000000000 ≤ (x.instant - r) * s.base.frequency.hz * 10)
    (hhi : (x.instant - r) * s.base.frequency.hz * 10 ≤ 15000000000) :
    exec (.zeroCrossing x) s = .next (s.acceptCrossing x id) := by
  rw [exec_zeroCrossing s x hp, s.expireBefore_within x r hr (fun _ => hhi) (by omega)]
  simp only [State.cross, ht, State.crossLocked, hr]
  cases hclass : classOf s.base.frequency (x.instant - r) with
  | early => exact absurd ((classOf_early_iff _ _).1 hclass) (by omega)
  | good => rfl
  | late => rfl
  | overdue => rfl

theorem exec_zeroCrossing_slip1 (ht : s.base.tracker = .slip1)
    (hhi : (x.instant - r) * s.base.frequency.hz * 10 ≤ 25000000000) :
    exec (.zeroCrossing x) s = .next (s.acceptCrossing x fun t => t.setTracker .locked) := by
  rw [exec_zeroCrossing s x hp, s.expireBefore_within x r hr (by simp [ht]) hhi]
  simp only [State.cross, ht]

end Locked

/-! ## A crossing after an expiry that was due (R18, log entry 13) -/

/-- A substitute tick keeps the reference, the frequency and the main power, and leaves SLIP1 (R19). -/
theorem State.slip_base (s : State) (i : TickInput) : (s.slip i).base.tracker = .slip1 ∧
    (s.slip i).base.reference = s.base.reference ∧ (s.slip i).base.frequency = s.base.frequency ∧
    (s.slip i).base.mainPower = s.base.mainPower := by
  rw [State.slip_eq]
  split
  · rw [State.tenth_base, s.slipped_eq]
    exact ⟨rfl, rfl, rfl, rfl⟩
  · rw [s.slipped_eq]
    exact ⟨rfl, rfl, rfl, rfl⟩

theorem State.loseMains_base (s : State) :
    s.loseMains.base.reference = none ∧ s.loseMains.base.mainPower = s.base.mainPower := by
  have hbase : s.loseMains.base =
      { s.base.toCrystal with tracker := .mainsLost, reference := none, goodCount := 0 } := by
    simp [State.loseMains]
  rw [hbase]
  exact ⟨rfl, rfl⟩

section Expired

variable (s : State) (x : CrossingInput) (r : Nat) (hp : s.base.mainPower = true) (hr : s.base.reference = some r)

include hp hr

/-- Between the two windows the crossing is that of the state after the first-window expiry. -/
theorem exec_zeroCrossing_afterFirst (ht : s.base.tracker = .locked)
    (hlo : 15000000000 < (x.instant - r) * s.base.frequency.hz * 10)
    (hhi : (x.instant - r) * s.base.frequency.hz * 10 ≤ 25000000000) :
    exec (.zeroCrossing x) s = exec (.zeroCrossing x) (s.firstWindow x.tick) := by
  rw [exec_zeroCrossing s x hp, s.expireBefore_first x r hr ht hlo hhi, s.firstWindow_locked x.tick r ht hr]
  obtain ⟨htracker, hreference, hfrequency, hpower⟩ := s.slip_base x.tick
  rw [exec_zeroCrossing _ x (hpower.trans hp), (s.slip x.tick).expireBefore_within x r (hreference.trans hr)
    (by simp [htracker]) (by rw [hfrequency]; exact hhi)]

/-- After the second window of a state that is not LOCKED the crossing is that of the state after its expiry. -/
theorem exec_zeroCrossing_afterSecond (ht : s.base.tracker = .slip1 ∨ s.base.tracker = .acquiring)
    (hlo : 25000000000 < (x.instant - r) * s.base.frequency.hz * 10) :
    exec (.zeroCrossing x) s = exec (.zeroCrossing x) s.secondWindow := by
  have hunlocked : s.base.tracker ≠ .locked := by rcases ht with ht | ht <;> simp [ht]
  obtain ⟨hreference, hpower⟩ := s.loseMains_base
  rw [exec_zeroCrossing s x hp, s.expireBefore_second x r hr hunlocked hlo, s.secondWindow_due r ht hr,
    exec_zeroCrossing _ x (hpower.trans hp), State.expireBefore_none _ x hreference]

theorem exec_zeroCrossing_afterBoth (ht : s.base.tracker = .locked)
    (hlo : 25000000000 < (x.instant - r) * s.base.frequency.hz * 10) :
    exec (.zeroCrossing x) s = exec (.zeroCrossing x) (s.firstWindow x.tick).secondWindow := by
  rw [exec_zeroCrossing s x hp, s.expireBefore_both x r hr ht hlo, s.firstWindow_locked x.tick r ht hr]
  obtain ⟨htracker, hreference, hfrequency, hpower⟩ := s.slip_base x.tick
  rw [← exec_zeroCrossing_afterSecond (s.slip x.tick) x r (hpower.trans hp) (hreference.trans hr) (.inl htracker)
      (by rw [hfrequency]; exact hlo),
    exec_zeroCrossing _ x (hpower.trans hp),
    (s.slip x.tick).expireBefore_second x r (hreference.trans hr) (by simp [htracker]) (by rw [hfrequency]; exact hlo)]

end Expired

/-- Settles O37: each class of crossing in LOCKED and SLIP1, those after an expiry, and the parts of a cycle tick. -/
theorem crossingsWhileLocked : Obligations.CrossingsWhileLocked := by
  unfold Obligations.CrossingsWhileLocked
  refine ⟨fun s x r ns hp hr hns => ?crossings, fun s measured i => ⟨_, rfl, fun c => ?channel, fun k =>
    ⟨s.cycleTick_lastReturn measured i k, s.cycleTick_lastResidual measured i k⟩, fun hm => ?unsampled,
    fun hm d => ?sampled, ?unchanged⟩⟩
  case crossings =>
    rw [hns]
    refine ⟨s.accepted x, _, s.base.tenthDue, s.accepted_eq x, s.base.tenthDue_iff, rfl, fun ht => ⟨fun hlt => ?_,
      fun hlo hhi => ?_⟩, fun ht hhi => ?_, fun ht hlo hhi u hu => ?_, fun ht hlo u v hu hv => ?_,
      fun ht hlo v hv => ?_⟩
    · exact exec_zeroCrossing_early s x r hp hr ht hlt
    · rw [exec_zeroCrossing_locked s x r hp hr ht hlo hhi, s.acceptCrossing_eq]
      simp only [id, ite_self]
    · rw [exec_zeroCrossing_slip1 s x r hp hr ht hhi, s.acceptCrossing_eq]
      rfl
    · obtain rfl := Host.Outcome.next.inj ((exec_firstWindowExpiry s x.tick hp).symm.trans hu)
      exact exec_zeroCrossing_afterFirst s x r hp hr ht hlo hhi
    · obtain rfl := Host.Outcome.next.inj ((exec_firstWindowExpiry s x.tick hp).symm.trans hu)
      have hpower : (s.firstWindow x.tick).base.mainPower = true := by
        rw [s.firstWindow_locked x.tick r ht hr, (s.slip_base x.tick).2.2.2, hp]
      obtain rfl := Host.Outcome.next.inj ((exec_secondWindowExpiry _ hpower).symm.trans hv)
      exact exec_zeroCrossing_afterBoth s x r hp hr ht hlo
    · obtain rfl := Host.Outcome.next.inj ((exec_secondWindowExpiry s hp).symm.trans hv)
      exact exec_zeroCrossing_afterSecond s x r hp hr ht hlo
  case channel =>
    obtain ⟨hcommand, hphase, hremaining, hcfg⟩ := s.cycleTick_channel_advanced measured i c
    refine ⟨hcommand, hphase, hremaining, hcfg, ?_, ?_, fun hm => ?_, fun hm => ?_⟩
    · rw [s.cycleTick_counted]
      exact Vector.getElem_map _ c.isLt
    · rw [s.cycleTick_sampler, ← hcfg]
      exact Vector.getElem_map _ c.isLt
    · subst hm
      have hheld := s.cycleTick_channel_measured i c
      exact ⟨congrArg ChannelHeld.lastReading hheld, congrArg ChannelHeld.seenLit hheld⟩
    · subst hm
      rw [s.cycleTick_channel_unmeasured]
      rfl
  case unsampled => rw [s.cycleTick_detectors_eq, hm, if_neg Bool.false_ne_true]
  case sampled =>
    rw [← s.sampleDetectors_previous i.det d]
    exact congrArg (fun v : Vector Detector 16 => v[d].previous)
      ((s.cycleTick_detectors_eq measured i).trans (if_pos hm))
  case unchanged =>
    rw [s.cycleTick_sampler]
    exact ⟨rfl, rfl, fun j => Vector.getElem_replicate _, fun k => Vector.getElem_replicate _,
      s.cycleTick_sched measured i, ((safetyRecords_eq_iff _ _).1 (s.cycleTick_safetyRecords measured i)).1,
      s.cycleTick_conflicts measured i, s.cycleTick_profiles measured i, s.cycleTick_plans measured i,
      s.cycleTick_stages measured i, s.cycleTick_schedule measured i, s.cycleTick_base measured i,
      s.cycleTick_link measured i, s.cycleTick_pending measured i⟩

end Sys2Proof.Machine
end

section
/-! The stuck check of the detectors at a tenth tick (R80), and the postings it makes (R173). -/

namespace Sys2Proof.Machine

/-! ## Posting -/

theorem mem_insertPair (r x : RecordName) (l : List RecordName) : x ∈ insertPair r l ↔ x = r ∨ x ∈ l := by
  induction l with
  | nil => simp [insertPair]
  | cons y rest ih =>
    unfold insertPair
    split
    case isTrue hy => simp [hy]
    case isFalse =>
      split
      · simp
      · simp only [List.mem_cons, ih]
        exact or_left_comm

theorem Attention.post_set (a : Attention) (c : AClass) (r : RecordName) :
    (a.post c r).sets[c.rank] = insertPair r a.sets[c.rank] := Vector.getElem_set_self c.rank.isLt

theorem AClass.all_rank (c : AClass) : AClass.all[c.rank.val]? = some c := by cases c <;> rfl

theorem AClass.rank_injective (c d : AClass) (h : c.rank = d.rank) : c = d := by
  have hsame := c.all_rank
  rw [h, d.all_rank] at hsame
  exact (Option.some.inj hsame).symm

theorem Attention.post_set_other (a : Attention) (c d : AClass) (r : RecordName) (h : d ≠ c) :
    (a.post c r).sets[d.rank] = a.sets[d.rank] :=
  Vector.getElem_set_ne c.rank.isLt d.rank.isLt fun he => h (AClass.rank_injective _ _ (Fin.ext he)).symm

/-! ## One detector (R80) -/

theorem Detector.tenth_eq (d : Detector) : d.tenth =
    { d with
      activeRun :=
        if d.cfg.enabled = true ∧ d.level = true then min (d.activeRun + 1) 65535 else d.activeRun } := by
  simp only [Detector.tenth, count16, Bool.and_eq_true]
  split <;> rfl

theorem Detector.stuck_iff (d : Detector) :
    d.stuck = true ↔ d.faulty = false ∧ 0 < d.cfg.stuckLimit ∧ d.cfg.stuckLimit * 600 < d.activeRun := by
  simp only [Detector.stuck, Bool.and_eq_true, Bool.not_eq_true', decide_eq_true_iff, and_assoc]

/-- Becoming faulty moves the record's revision (R78, R80). -/
theorem Detector.makeFaulty_eq (d : Detector) (h : d.stuck = true) :
    d.makeFaulty = { d with faulty := true, latch := true, rev := d.rev + 1 } := by
  obtain ⟨hfaulty, _, _⟩ := d.stuck_iff.1 h
  simp only [Detector.makeFaulty, Detector.moved, hfaulty]
  exact if_neg (by simp)

/-! ## The check of one detector after another -/

/-- The check of one detector (R80). -/
def State.stuckAt (s : State) (n : Fin 16) : State := if s.detectors[n].stuck = true then s.detectorFaulty n else s

theorem State.stuckCheck_eq (s : State) : s.stuckCheck = allGroups.foldl State.stuckAt s := rfl

theorem State.stuckAt_detector_self (s : State) (n : Fin 16) : (s.stuckAt n).detectors[n] =
    if s.detectors[n].stuck = true then s.detectors[n].makeFaulty else s.detectors[n] := by
  unfold State.stuckAt
  split
  · exact Vector.getElem_set_self n.isLt
  · rfl

theorem State.stuckAt_detector_other (s : State) (n d : Fin 16) (h : d ≠ n) :
    (s.stuckAt n).detectors[d] = s.detectors[d] := by
  unfold State.stuckAt
  split
  · exact Vector.getElem_set_ne n.isLt d.isLt fun he => h (Fin.ext he).symm
  · rfl

theorem State.mem_stuckAt_notice (s : State) (n : Fin 16) (r : RecordName) :
    r ∈ (s.stuckAt n).attn.sets[AClass.notice.rank] ↔
      r ∈ s.attn.sets[AClass.notice.rank] ∨ (s.detectors[n].stuck = true ∧ r = nameOf .detector n.val) := by
  unfold State.stuckAt
  split
  case isTrue h =>
    have hset : (s.detectorFaulty n).attn.sets[AClass.notice.rank] =
        insertPair (nameOf .detector n.val) s.attn.sets[AClass.notice.rank] := Attention.post_set _ _ _
    rw [hset, mem_insertPair, or_comm]
    simp only [h, true_and]
  case isFalse h => simp only [h, Bool.false_eq_true, false_and, or_false]

/-- Of the attention unit the check changes the pending set of NOTICE and the line alone. -/
theorem State.stuckAt_attn (s : State) (n : Fin 16) :
    (∀ c : AClass, c ≠ .notice → (s.stuckAt n).attn.sets[c.rank] = s.attn.sets[c.rank]) ∧
    (s.stuckAt n).attn.masked = s.attn.masked ∧ (s.stuckAt n).attn.chain = s.attn.chain := by
  unfold State.stuckAt
  split
  · exact ⟨fun c hc => Attention.post_set_other s.attn .notice c _ hc, rfl, rfl⟩
  · exact ⟨fun _ _ => rfl, rfl, rfl⟩

section Fold

variable (l : List (Fin 16))

/-- Each detector is checked once, as the check found it. -/
theorem stuckFold_detector (hl : l.Nodup) (s : State) (d : Fin 16) : (l.foldl State.stuckAt s).detectors[d] =
    if d ∈ l ∧ s.detectors[d].stuck = true then s.detectors[d].makeFaulty else s.detectors[d] := by
  induction l generalizing s with
  | nil => simp
  | cons n rest ih =>
    obtain ⟨hn, hrest⟩ := List.nodup_cons.1 hl
    rw [List.foldl_cons, ih hrest]
    by_cases hd : d = n
    · subst hd
      rw [if_neg fun h => hn h.1, s.stuckAt_detector_self]
      simp only [List.mem_cons_self, true_and]
    · rw [s.stuckAt_detector_other n d hd]
      simp only [List.mem_cons, hd, false_or]

theorem mem_stuckFold_notice (hl : l.Nodup) (s : State) (r : RecordName) :
    r ∈ (l.foldl State.stuckAt s).attn.sets[AClass.notice.rank] ↔
      r ∈ s.attn.sets[AClass.notice.rank] ∨
        ∃ d ∈ l, s.detectors[d].stuck = true ∧ r = nameOf .detector d.val := by
  induction l generalizing s with
  | nil => simp
  | cons n rest ih =>
    obtain ⟨hn, hrest⟩ := List.nodup_cons.1 hl
    have hsame (d : Fin 16) (hd : d ∈ rest) : (s.stuckAt n).detectors[d] = s.detectors[d] :=
      s.stuckAt_detector_other n d fun he => hn (he ▸ hd)
    have hfound : (∃ d ∈ rest, (s.stuckAt n).detectors[d].stuck = true ∧ r = nameOf .detector d.val) ↔
        ∃ d ∈ rest, s.detectors[d].stuck = true ∧ r = nameOf .detector d.val :=
      exists_congr fun d => and_congr_right fun hd => by rw [hsame d hd]
    rw [List.foldl_cons, ih hrest, s.mem_stuckAt_notice, hfound, or_assoc, List.exists_mem_cons_iff]

/-- Nothing else of State changes. -/
theorem stuckFold_frame (s : State) : l.foldl State.stuckAt s =
    { s with
      detectors := (l.foldl State.stuckAt s).detectors
      attn := (l.foldl State.stuckAt s).attn } := by
  have hkeeps : ({ l.foldl State.stuckAt s with detectors := s.detectors, attn := s.attn } : State) = s :=
    foldl_keeps (fun u : State => ({ u with detectors := s.detectors, attn := s.attn } : State)) State.stuckAt
      (fun u n => by unfold State.stuckAt; split <;> rfl) l s
  have hrestored := congrArg (fun u : State => ({ u with
    detectors := (l.foldl State.stuckAt s).detectors, attn := (l.foldl State.stuckAt s).attn } : State)) hkeeps
  exact hrestored

theorem stuckFold_attn (s : State) :
    (∀ c : AClass, c ≠ .notice → (l.foldl State.stuckAt s).attn.sets[c.rank] = s.attn.sets[c.rank]) ∧
    (l.foldl State.stuckAt s).attn.masked = s.attn.masked ∧ (l.foldl State.stuckAt s).attn.chain = s.attn.chain :=
  ⟨fun c hc => foldl_keeps (fun u : State => u.attn.sets[c.rank]) _ (fun u n => (u.stuckAt_attn n).1 c hc) l s,
    foldl_keeps (fun u : State => u.attn.masked) _ (fun u n => (u.stuckAt_attn n).2.1) l s,
    foldl_keeps (fun u : State => u.attn.chain) _ (fun u n => (u.stuckAt_attn n).2.2) l s⟩

end Fold

/-! ## Step 1 of a tenth (R62) -/

theorem allGroups_nodup : allGroups.Nodup := List.nodup_finRange 16

theorem State.raiseTimers_detector (s : State) (d : Fin 16) : s.raiseTimers.detectors[d] = s.detectors[d].tenth :=
  Vector.getElem_map _ d.isLt

/-- The state step 1 of a tenth leaves: the timers and counters raised, the stuck detectors faulty (R62, R80). -/
def State.timersRaised (s : State) : State := s.raiseTimers.stuckCheck

theorem State.timersRaised_detector (s : State) (d : Fin 16) : s.timersRaised.detectors[d] =
    if s.detectors[d].tenth.stuck = true then s.detectors[d].tenth.makeFaulty else s.detectors[d].tenth := by
  rw [State.timersRaised, State.stuckCheck_eq, stuckFold_detector _ allGroups_nodup, State.raiseTimers_detector]
  simp only [allGroups, List.mem_finRange, true_and]

theorem State.mem_timersRaised_notice (s : State) (r : RecordName) :
    r ∈ s.timersRaised.attn.sets[AClass.notice.rank] ↔
      r ∈ s.attn.sets[AClass.notice.rank] ∨
        ∃ d : Fin 16, s.detectors[d].tenth.stuck = true ∧ r = nameOf .detector d.val := by
  rw [State.timersRaised, State.stuckCheck_eq, mem_stuckFold_notice _ allGroups_nodup, State.raiseTimers_attn]
  simp only [State.raiseTimers_detector, allGroups, List.mem_finRange, true_and]

theorem State.timersRaised_attn (s : State) :
    (∀ c : AClass, c ≠ .notice → s.timersRaised.attn.sets[c.rank] = s.attn.sets[c.rank]) ∧
    s.timersRaised.attn.masked = s.attn.masked ∧ s.timersRaised.attn.chain = s.attn.chain := by
  rw [State.timersRaised, State.stuckCheck_eq, ← s.raiseTimers_attn]
  exact stuckFold_attn allGroups s.raiseTimers

theorem State.timersRaised_groups (s : State) : s.timersRaised.groups = s.groups.map Group.tenth :=
  s.raiseTimers.stuckCheck_groups

theorem State.timersRaised_seq (s : State) : s.timersRaised.seq =
    { s.seq with
      interstage := s.seq.interstage.map fun r => { r with timer := r.timer + 1 }
      context := s.seq.context.map fun c =>
        { c with greenTimer := min (c.greenTimer + 1) 65535, maxTimer := c.maxTimer.map (· + 1) } } :=
  s.raiseTimers.stuckCheck_seq

theorem State.timersRaised_frame (s : State) : s.timersRaised =
    { s with
      seq := s.timersRaised.seq, groups := s.timersRaised.groups, detectors := s.timersRaised.detectors
      attn := s.timersRaised.attn } := by
  have hframe : s.timersRaised = { s.raiseTimers with
      detectors := s.timersRaised.detectors, attn := s.timersRaised.attn } := stuckFold_frame allGroups s.raiseTimers
  rw [s.timersRaised_seq, s.timersRaised_groups]
  exact hframe

theorem State.sequencerTenth_eq (s : State) :
    s.sequencerTenth = event State.greenStep (event State.interstageStep s.timersRaised) := by
  rw [State.sequencerTenth, State.timersRaised]

end Sys2Proof.Machine
end

section
/-! The tenth tick (R26 to R29, R46, R61, R62, R68, R80). -/

namespace Sys2Proof.Machine

/-! ## The clock's turn (R29, R46) -/

/-- The state whose time of day is one tenth later (R29). -/
def State.laterTenth (s : State) : State := { s with base := { s.base with time := s.base.time.advance } }

theorem ScheduleConfig.matches_iff (e : ScheduleConfig) (t : TimeOfDay) : e.matches t = true ↔
    e.state = .enabled ∧ 1 ≤ t.day ∧ e.days.getLsbD (t.day - 1) = true ∧ e.hour = t.hour ∧ e.minute = t.minute := by
  simp only [ScheduleConfig.matches, Bool.and_eq_true, beq_iff_eq, e.onDay_iff, and_assoc]

theorem State.clockTenth_eq (s : State) : s.clockTenth =
    if s.base.time.advance.onMinute = true then s.laterTenth.minuteBoundary else s.laterTenth := rfl

theorem TimeOfDay.onMinute_iff (t : TimeOfDay) : t.onMinute = true ↔ t.second = 0 ∧ t.tenth = 0 := by
  simp only [TimeOfDay.onMinute, Bool.and_eq_true, beq_iff_eq]

/-- No entry is due, or the time is not valid: nothing fires (R46). -/
theorem State.minuteBoundary_quiet (s : State)
    (h : s.base.timeValid = false ∨ ∀ e : Fin 24, ¬s.schedule[e].cfg.matches s.base.time = true) :
    s.minuteBoundary = s := by
  unfold State.minuteBoundary
  split
  case isFalse => rfl
  case isTrue hvalid =>
    rcases h with hinvalid | hnone
    · rw [hvalid] at hinvalid
      cases hinvalid
    · rw [List.find?_eq_none.2 fun e _ => hnone e]

/-- The lowest-numbered entry that matches fires (R46). -/
theorem State.minuteBoundary_fires (s : State) (e : Fin 24) (hvalid : s.base.timeValid = true)
    (he : s.schedule[e].cfg.matches s.base.time = true)
    (hlowest : ∀ f : Fin 24, f < e → ¬s.schedule[f].cfg.matches s.base.time = true) : s.minuteBoundary =
      if s.plans[s.schedule[e].cfg.plan].loaded = true then
        s.setScheduled s.schedule[e].cfg.plan s.schedule[e].cfg.dimming
      else { s with attn := s.attn.post .notice (nameOf .schedule e.val) } := by
  have hfound : allEntries.find? (fun e => s.schedule[e].cfg.matches s.base.time) = some e := by
    cases hfind : allEntries.find? (fun e => s.schedule[e].cfg.matches s.base.time) with
    | none => exact absurd he (List.find?_eq_none.1 hfind e (List.mem_finRange e))
    | some f =>
      obtain ⟨hf, hbefore⟩ := finRange_find?_eq_some hfind
      rcases lt_trichotomy f e with hlt | rfl | hgt
      · exact absurd hf (hlowest f hlt)
      · rfl
      · rw [hbefore e hgt] at he
        cases he
  simp only [State.minuteBoundary, hvalid, hfound, if_true]
  rfl

/-! ## Tenths of the two sources (R26 to R28) -/

theorem exec_tenthTick_cycles (s : State) (i : TenthInput) (hp : s.base.mainPower = true) :
    exec (.tenthTick .cycles i) s = .next (s.cascadeTenth i) := congrArg _ (s.whenPowered_on _ hp)

theorem exec_tenthTick_crystal (s : State) (i : TenthInput) (hp : s.base.mainPower = true) :
    exec (.tenthTick .crystal i) s = .next (s.crystalTenth i) := congrArg _ (s.whenPowered_on _ hp)

/-- The state a tenth tick of the current source begins with: the crystal's pattern goes one tenth on (R27). -/
def State.tenthStart (s : State) : State :=
  match s.base.source with
  | .cycles => s
  | .crystal => s.mapBase TimeBase.crystalStep

theorem exec_tenthTick_current (s : State) (i : TenthInput) (hp : s.base.mainPower = true) :
    exec (.tenthTick s.base.source i) s = .next (s.tenthStart.tenth i) := by
  unfold State.tenthStart
  cases hsource : s.base.source with
  | cycles => rw [exec_tenthTick_cycles s i hp, State.cascadeTenth, if_pos hsource]
  | crystal =>
    rw [exec_tenthTick_crystal s i hp]
    simp only [State.crystalTenth, if_pos hsource]

theorem State.tenthStart_cycles (s : State) (h : s.base.source = .cycles) : s.tenthStart = s := by
  simp only [State.tenthStart, h]

theorem State.tenthStart_crystal (s : State) (h : s.base.source = .crystal) :
    s.tenthStart = s.mapBase TimeBase.crystalStep := by
  simp only [State.tenthStart, h]

/-- Of the state only the crystal's pattern can differ where the tenth begins. -/
theorem State.tenthStart_frame (s : State) :
    ∃ b : TimeBase, s.tenthStart = { s with base := b } ∧ b.time = s.base.time := by
  unfold State.tenthStart
  cases s.base.source with
  | cycles => exact ⟨s.base, rfl, rfl⟩
  | crystal => exact ⟨s.base.crystalStep, rfl, rfl⟩

/-! ## A tenth with no stage served, no start phase and no test (R61) -/

/-- No stage is served, and no start phase is under way. -/
structure State.Quiet (s : State) : Prop where
  seq : s.seq.state = .stopped ∨ s.seq.state = .suspended
  mode : s.sup.mode ≠ .starting ∧ s.sup.mode ≠ .running
  phase : s.sup.phase = none

/-- The groups are the same, and so is all that makes a state quiet. -/
structure State.Still (a b : State) : Prop where
  groups : a.groups = b.groups
  seq : a.seq.state = b.seq.state
  mode : a.sup.mode = b.sup.mode
  phase : a.sup.phase = b.sup.phase

namespace State.Still

variable {a b c : State}

theorem trans (h : a.Still b) (k : b.Still c) : a.Still c where
  groups := h.groups.trans k.groups
  seq := h.seq.trans k.seq
  mode := h.mode.trans k.mode
  phase := h.phase.trans k.phase

theorem quiet (h : a.Still b) (q : b.Quiet) : a.Quiet where
  seq := by rw [h.seq]; exact q.seq
  mode := by rw [h.mode]; exact q.mode
  phase := h.phase.trans q.phase

end State.Still

/-- An event whose work leaves the groups moves no revision of theirs. -/
theorem event_still (f : State → State) (s : State) (h : (f s).Still s) : (event f s).Still s where
  groups := by rw [event_groups, h.groups, groups_moved_self]
  seq := h.seq
  mode := h.mode
  phase := h.phase

namespace State.Quiet

variable {s : State}

/-- Outside STARTING and RUNNING the causes change no mode and no group (R158). -/
theorem refresh_still (q : s.Quiet) : s.refresh.Still s := by
  rw [s.refresh_of_mode (s.refreshOnce_mode q.mode)]
  by_cases hfailsafe : s.sup.mode = .failsafe
  · rw [s.refreshOnce_failsafe hfailsafe]
    exact ⟨rfl, rfl, rfl, rfl⟩
  · rw [s.refreshOnce_quiet (.inr ⟨q.mode.1, q.mode.2, hfailsafe⟩)]
    exact ⟨rfl, rfl, rfl, rfl⟩

theorem schedulePlan_still (q : s.Quiet) (p : Fin 8) (d : Dimming) : (s.schedulePlan p d).Still s := by
  have hset : ((s.mapSched fun u => { u with scheduledPlan := p, scheduledDimming := d }).mapSched fun u =>
      { u with requested := (s.mapSched fun u =>
        { u with scheduledPlan := p, scheduledDimming := d }).requestedPlan }).workOutPending.Still s :=
    ⟨rfl, rfl, rfl, rfl⟩
  exact (hset.quiet q).refresh_still.trans hset

theorem setScheduled_still (q : s.Quiet) (p : Fin 8) (d : Dimming) : (s.setScheduled p d).Still s := by
  have hplan := event_still (fun t => t.schedulePlan p d) s (q.schedulePlan_still p d)
  refine (event_still State.workOutDimming _ ?_).trans hplan
  unfold State.workOutDimming
  simp only
  split <;> exact ⟨rfl, rfl, rfl, rfl⟩

theorem minuteBoundary_still (q : s.Quiet) : s.minuteBoundary.Still s := by
  unfold State.minuteBoundary
  split
  case isFalse => exact ⟨rfl, rfl, rfl, rfl⟩
  case isTrue =>
    split
    · exact ⟨rfl, rfl, rfl, rfl⟩
    · simp only
      split
      · exact q.setScheduled_still _ _
      · exact ⟨rfl, rfl, rfl, rfl⟩

theorem clockTenth_still (q : s.Quiet) : s.clockTenth.Still s := by
  have hlater : s.laterTenth.Still s := ⟨rfl, rfl, rfl, rfl⟩
  rw [s.clockTenth_eq]
  split
  · exact (hlater.quiet q).minuteBoundary_still.trans hlater
  · exact hlater

/-- With no start phase the supervisor's tenth judges nothing (R166). -/
theorem supervisorTenth_eq (q : s.Quiet) : s.supervisorTenth =
    s.mapSup fun u => { u with phaseTimer := u.phaseTimer.map (· + 1) } := by
  simp [State.supervisorTenth, State.judgePhase, State.darkTestOver, State.darkTestAtLimit, State.allRedOver, q.phase]

theorem supervisorTenth_still (q : s.Quiet) : s.supervisorTenth.Still s := by
  rw [q.supervisorTenth_eq]
  exact ⟨rfl, rfl, rfl, rfl⟩

/-- With no test under way the queue work changes no group, whatever it begins (R138). -/
theorem queueTenth_still (s : State) (i : TenthInput) (h : s.bridge.underTest = none) : (s.queueTenth i).Still s := by
  have hage : s.ageQueue.Still s := ⟨rfl, rfl, rfl, rfl⟩
  have hadvance : (s.ageQueue.advanceTest i.bmeas).Still s.ageQueue := by
    have hnone : s.ageQueue.bridge.underTest = none := h
    unfold State.advanceTest
    split
    · exact ⟨rfl, rfl, rfl, rfl⟩
    · split
      · simp only [State.completeTest, hnone]
        exact ⟨rfl, rfl, rfl, rfl⟩
      · exact ⟨rfl, rfl, rfl, rfl⟩
  have htimeOut (t : State) : t.timeOut.Still t :=
    ⟨t.timeOut_groups, congrArg Sequencer.state t.timeOut_seq, congrArg Supervisor.mode t.timeOut_sup,
      congrArg Supervisor.phase t.timeOut_sup⟩
  have harbitrate (t : State) : (t.arbitrate i.bref).Still t :=
    ⟨t.arbitrate_groups _, congrArg Sequencer.state (t.arbitrate_seq _), congrArg Supervisor.mode (t.arbitrate_sup _),
      congrArg Supervisor.phase (t.arbitrate_sup _)⟩
  exact (event_still _ _ (harbitrate _)).trans ((event_still _ _ (htimeOut _)).trans
    ((event_still _ _ hadvance).trans hage))

theorem queueAndPhase_still (q : s.Quiet) (i : TenthInput) (h : s.bridge.underTest = none) :
    (s.queueAndPhase i).Still s := by
  have hqueue := queueTenth_still s i h
  have hphase := q.supervisorTenth_still
  unfold State.queueAndPhase
  split
  · exact (hqueue.quiet q).supervisorTenth_still.trans hqueue
  · refine (queueTenth_still s.supervisorTenth i ?_).trans hphase
    rw [q.supervisorTenth_eq]
    exact h

/-- With no stage served the sequencer's tenth is step 1 alone (R62). -/
theorem sequencerTenth_eq (q : s.Quiet) : s.sequencerTenth = s.timersRaised := by
  have hstate : s.timersRaised.seq.state = s.seq.state := by rw [s.timersRaised_seq]
  have hinterstage : s.timersRaised.interstageStep = s.timersRaised := by
    unfold State.interstageStep
    rw [hstate]
    rcases q.seq with h | h <;> simp only [h]
  have hgreen : s.timersRaised.greenStep = s.timersRaised := by
    unfold State.greenStep
    rw [hstate]
    rcases q.seq with h | h <;> simp only [h, SeqState.inGreen, Bool.false_eq_true, if_false]
  rw [s.sequencerTenth_eq, event_of_work State.interstageStep _ hinterstage rfl rfl rfl,
    event_of_work State.greenStep _ hgreen rfl rfl rfl]

theorem timersRaised (q : s.Quiet) : s.timersRaised.Quiet where
  seq := by rw [s.timersRaised_seq]; exact q.seq
  mode := by rw [s.timersRaised_frame]; exact q.mode
  phase := by rw [s.timersRaised_frame]; exact q.phase

/-- In a quiet state each group counts the tenth, whatever the order of the blocks (R61). -/
theorem tenth_groups (q : s.Quiet) (i : TenthInput) (h : s.bridge.underTest = none) :
    (s.tenth i).groups = s.groups.map Group.tenth := by
  have hbridge : s.timersRaised.bridge.underTest = none := by rw [s.timersRaised_frame]; exact h
  unfold State.tenth
  split
  · have hclock := q.clockTenth_still
    have hquiet := hclock.quiet q
    have hbase : s.clockTenth.timersRaised.bridge.underTest = none := by
      rw [State.timersRaised_frame]
      exact (congrArg Bridge.underTest s.clockTenth_bridge).trans h
    rw [hquiet.sequencerTenth_eq, (hquiet.timersRaised.queueAndPhase_still i hbase).groups,
      State.timersRaised_groups, hclock.groups]
  · have hclock := q.timersRaised.clockTenth_still
    have hbase : s.timersRaised.clockTenth.bridge.underTest = none :=
      (congrArg Bridge.underTest s.timersRaised.clockTenth_bridge).trans hbridge
    rw [q.sequencerTenth_eq, ((hclock.quiet q.timersRaised).queueAndPhase_still i hbase).groups, hclock.groups,
      State.timersRaised_groups]
  · have hothers := q.timersRaised.queueAndPhase_still i hbridge
    rw [q.sequencerTenth_eq, (hothers.quiet q.timersRaised).clockTenth_still.groups, hothers.groups,
      State.timersRaised_groups]

end State.Quiet

/-! ## The parts of a tenth, together -/

theorem State.queueAndPhase_first (s : State) (i : TenthInput) (h : i.queueFirst = true) :
    s.queueAndPhase i = (s.queueTenth i).supervisorTenth := if_pos h

theorem State.queueAndPhase_second (s : State) (i : TenthInput) (h : i.queueFirst = false) :
    s.queueAndPhase i = s.supervisorTenth.queueTenth i := if_neg (Bool.eq_false_iff.1 h)

/-- A tenth tick of the current source in a quiet state (R61). -/
theorem State.tenthStart_groups (s : State) (i : TenthInput) (q : s.Quiet) (h : s.bridge.underTest = none)
    (g : Fin 16) :
    (s.tenthStart.tenth i).groups[g] = { s.groups[g] with
      sinceGreen := min (s.groups[g].sinceGreen + 1) 250, stateTimer := min (s.groups[g].stateTimer + 1) 65535 } := by
  obtain ⟨b, hstart, _⟩ := s.tenthStart_frame
  have hquiet : ({ s with base := b } : State).Quiet := ⟨q.seq, q.mode, q.phase⟩
  rw [hstart, hquiet.tenth_groups i h]
  exact Vector.getElem_map _ g.isLt

/-- Settles O41: the two sources, the order of the blocks, the clock's turn and step 1 of the sequencer's. -/
theorem tenthTick : Obligations.TenthTick := by
  unfold Obligations.TenthTick
  refine ⟨fun s i hp => ⟨fun hsource => ?pattern, fun hsource => ?stale, ?current⟩,
    fun s i => ⟨_, _, fun u => u.queueAndPhase i, rfl, rfl, fun h => funext fun u => u.queueAndPhase_first i h,
      fun h => funext fun u => u.queueAndPhase_second i h, fun h => ?beforeAll, fun h => ?afterSequencer,
      fun h => ?afterAll⟩,
    fun s => ⟨s.laterTenth, fun e => s.schedule[e].cfg.matches s.base.time.advance = true, rfl,
      fun e => ScheduleConfig.matches_iff _ _, fun hnone => ?nothingDue,
      fun hsecond htenth hvalid e he hlowest => ?fires⟩,
    fun s => ⟨s.timersRaised, fun d => s.detectors[d].tenth.activeRun, fun d => s.detectors[d].tenth.stuck = true,
      s.sequencerTenth_eq, fun d => ?run, fun d => ?stuck, fun d => ⟨fun hd => ?faulty, fun hd => ?sound⟩,
      fun g => ?group,
      s.timersRaised_seq, s.mem_timersRaised_notice, s.timersRaised_attn.1, s.timersRaised_attn.2.1,
      s.timersRaised_attn.2.2, s.timersRaised_frame⟩⟩
  case pattern =>
    rw [exec_tenthTick_crystal s i hp, State.crystalTenth, hsource]
    rfl
  case stale =>
    rw [exec_tenthTick_cycles s i hp, State.cascadeTenth, hsource]
    rfl
  case current =>
    obtain ⟨b, hstart, htime⟩ := s.tenthStart_frame
    refine ⟨s.tenthStart.tenth i, s.tenthStart, s.base.time.advance, exec_tenthTick_current s i hp,
      fun h => ⟨s.base.time.advance_inRange h, s.base.time.advance_instant h⟩, s.tenthStart_cycles,
      s.tenthStart_crystal, ?_, rfl, ?_, ?_, ?_, ?_, ?_,
      fun hseq hstarting hrunning hphase htest => s.tenthStart_groups i ⟨hseq, ⟨hstarting, hrunning⟩, hphase⟩ htest⟩
    · rw [State.tenth_base, hstart, htime]
    all_goals rw [hstart]
    · exact State.tenth_link _ i
    · exact State.tenth_conflicts _ i
    · exact State.tenth_profiles _ i
    · exact State.tenth_sampler _ i
    · exact State.tenth_counted _ i
  case beforeAll => simp only [State.tenth, h]
  case afterSequencer => simp only [State.tenth, h]
  case afterAll => simp only [State.tenth, h]
  case nothingDue =>
    rw [s.clockTenth_eq]
    split
    case isFalse => rfl
    case isTrue honMinute =>
      obtain ⟨hsecond, htenth⟩ := (TimeOfDay.onMinute_iff _).1 honMinute
      rcases hnone with hnot | hnot | hnot
      · exact absurd hsecond hnot
      · exact absurd htenth hnot
      · exact s.laterTenth.minuteBoundary_quiet hnot
  case fires =>
    have hfires := s.laterTenth.minuteBoundary_fires e hvalid he hlowest
    have honMinute : s.base.time.advance.onMinute = true := (TimeOfDay.onMinute_iff _).2 ⟨hsecond, htenth⟩
    rw [s.clockTenth_eq, if_pos honMinute, hfires]
    exact ⟨fun hloaded => if_pos hloaded, fun hempty => if_neg (Bool.eq_false_iff.1 hempty)⟩
  case run => exact congrArg Detector.activeRun (Detector.tenth_eq _)
  case stuck => exact (Detector.stuck_iff _).trans (by simp only [Detector.tenth_eq])
  case faulty => rw [s.timersRaised_detector, if_pos hd, Detector.makeFaulty_eq _ hd]; simp only [Detector.tenth_eq]
  case sound => rw [s.timersRaised_detector, if_neg hd]; simp only [Detector.tenth_eq]
  case group =>
    rw [s.timersRaised_groups]
    exact Vector.getElem_map _ g.isLt

end Sys2Proof.Machine
end

section
/-! What every command keeps of the test queue and the bridge, the channels and the detectors (R78, R79, R82, R133 to
R135, R139). -/

namespace Sys2Proof.Machine

/-! ## A vector with one element replaced -/

theorem set_get {α : Type} {n : Nat} (v : Vector α n) (i j : Fin n) (x : α) :
    (v.set i x)[j] = if i = j then x else v[j] := by
  simp only [Fin.ext_iff]
  exact Vector.getElem_set i.isLt j.isLt

theorem set_related {α : Type} {n : Nat} {R : α → α → Prop} (hR : ∀ a, R a a) (v : Vector α n) (i : Fin n) {x : α}
    (h : R v[i] x) (j : Fin n) : R v[j] (v.set i x)[j] := by
  rw [set_get]
  split
  · next hij => exact hij ▸ h
  · exact hR _

/-! ## The test queue and the bridge (R133 to R135, R139) -/

/-- The test queue holds at most one entry for each cable (R135). -/
def Bridge.Single (b : Bridge) : Prop := (b.queue.map QueueEntry.cable).Nodup

/-- What a cable under test makes of the bridge's state, its timer, its selection and its queue (R133, R134, R139). -/
structure Bridge.Tests (b : Bridge) : Prop where
  state : b.underTest.isSome = true ↔ b.state = .charging ∨ b.state = .measuring
  timer : b.timer.isSome = b.underTest.isSome
  selection : b.selection = match b.underTest with
    | none => .nothing
    | some k => .cable k
  marked : ∀ e ∈ b.queue, e.underTest = true ↔ b.underTest = some e.cable
  queued : ∀ k, b.underTest = some k → ∃ e ∈ b.queue, e.cable = k

theorem State.queueRight_iff (s : State) : s.queueRight ↔ s.bridge.Single := Iff.rfl

theorem State.bridgeRight_iff (s : State) : s.bridgeRight ↔ s.bridge.Tests :=
  ⟨fun ⟨hstate, htimer, hselection, hmarked, hqueued⟩ => ⟨hstate, htimer, hselection, hmarked, hqueued⟩,
    fun h => ⟨h.state, h.timer, h.selection, h.marked, h.queued⟩⟩

/-- What holds of the bridge `a` holds of `b`. -/
structure Bridge.Kept (a b : Bridge) : Prop where
  single : a.Single → b.Single
  tests : a.Tests → b.Tests

@[simp] theorem Bridge.Kept.rfl {b : Bridge} : b.Kept b := ⟨id, id⟩

theorem Bridge.Kept.trans {a b c : Bridge} (h : a.Kept b) (k : b.Kept c) : a.Kept c :=
  ⟨k.single ∘ h.single, k.tests ∘ h.tests⟩

/-- No test is under way outside CHARGING and MEASURING (R139). -/
theorem Bridge.Tests.resting {b : Bridge} (h : b.Tests) (hc : b.state ≠ .charging) (hm : b.state ≠ .measuring) :
    b.underTest = none :=
  Option.not_isSome_iff_eq_none.1 fun hs => (h.state.1 hs).elim hc hm

/-- With no cable under test the bridge has no timer, selects nothing and has no entry marked. -/
theorem Bridge.tests_of_none {b : Bridge} (hu : b.underTest = none) (hc : b.state ≠ .charging)
    (hm : b.state ≠ .measuring) (ht : b.timer = none) (hs : b.selection = .nothing)
    (hq : ∀ e ∈ b.queue, e.underTest = false) : b.Tests where
  state := by simp [hu, hc, hm]
  timer := by simp [ht, hu]
  selection := by rw [hs, hu]
  marked e he := by simp [hq e he, hu]
  queued k hk := absurd (hu.symm.trans hk) nofun

/-- The rest of the bridge stays, and so do the cable and the mark of every entry. -/
theorem Bridge.kept_of_map {b : Bridge} {t : Option Nat} {f : QueueEntry → QueueEntry}
    (hc : ∀ e, (f e).cable = e.cable) (hu : ∀ e, (f e).underTest = e.underTest)
    (ht : t.isSome = b.timer.isSome) : b.Kept { b with timer := t, queue := b.queue.map f } where
  single h := by
    have hmap : (b.queue.map f).map QueueEntry.cable = b.queue.map QueueEntry.cable := by
      rw [List.map_map]
      exact List.map_congr_left fun e _ => hc e
    rw [Bridge.Single, hmap]
    exact h
  tests h :=
    { state := h.state
      timer := ht.trans h.timer
      selection := h.selection
      marked := fun x hx => by
        obtain ⟨e, he, rfl⟩ := List.mem_map.1 hx
        rw [hu, hc]
        exact h.marked e he
      queued := fun k hk => by
        obtain ⟨e, he, rfl⟩ := h.queued k hk
        exact ⟨f e, List.mem_map_of_mem he, hc e⟩ }

theorem Bridge.entryOf_some {b : Bridge} {k : Fin 16} {e : QueueEntry} (h : b.entryOf k = some e) :
    e ∈ b.queue ∧ e.cable = k :=
  ⟨List.mem_of_find?_eq_some h, eq_of_beq (List.find?_some (p := fun x : QueueEntry => x.cable == k) h)⟩

theorem Bridge.entryOf_none {b : Bridge} {k : Fin 16} (h : b.entryOf k = none) : ∀ e ∈ b.queue, e.cable ≠ k :=
  fun e he hk => List.find?_eq_none.1 h e he (beq_iff_eq.2 hk)

/-- A new entry of a cable that has none (R135). -/
theorem Bridge.kept_append {b : Bridge} {x : QueueEntry} (hx : x.underTest = false)
    (hn : ∀ e ∈ b.queue, e.cable ≠ x.cable) : b.Kept { b with queue := b.queue ++ [x] } where
  single h := by
    have hnew : x.cable ∉ b.queue.map QueueEntry.cable := fun hm => by
      obtain ⟨e, he, hk⟩ := List.mem_map.1 hm
      exact hn e he hk
    rw [Bridge.Single, List.map_append]
    exact (List.nodup_append_comm.1 (List.nodup_cons.2 ⟨hnew, h⟩))
  tests h :=
    { state := h.state
      timer := h.timer
      selection := h.selection
      marked := fun e he => by
        rcases List.mem_append.1 he with he | he
        · exact h.marked e he
        · obtain rfl := List.mem_singleton.1 he
          refine iff_of_false (by simp [hx]) fun hk => ?_
          obtain ⟨y, hy, hc⟩ := h.queued _ hk
          exact hn y hy hc
      queued := fun k hk => by
        obtain ⟨e, he, hc⟩ := h.queued k hk
        exact ⟨e, List.mem_append_left _ he, hc⟩ }

theorem Bridge.single_filter {b c : Bridge} {p : QueueEntry → Bool} (hq : c.queue = b.queue.filter p) (h : b.Single) :
    c.Single := by
  rw [Bridge.Single, hq]
  exact h.sublist (List.filter_sublist.map _)

/-- The entry of cable k leaves the queue, and the bridge with it where it was under test (R142, R143). -/
theorem Bridge.kept_remove {b : Bridge} {k : Fin 16} {e : QueueEntry} (he : b.entryOf k = some e) :
    b.Kept { (if e.underTest then b.withdraw else b) with
      queue := (if e.underTest then b.withdraw else b).queue.filter fun x => x.cable != k } := by
  obtain ⟨hmem, hcable⟩ := Bridge.entryOf_some he
  by_cases hu : e.underTest = true
  · simp only [hu, if_true]
    refine ⟨Bridge.single_filter (b := b) rfl, fun h => Bridge.tests_of_none rfl nofun nofun rfl rfl fun x hx => ?_⟩
    obtain ⟨hx, hne⟩ := List.mem_filter.1 hx
    have htest : b.underTest = some k := hcable ▸ (h.marked e hmem).1 hu
    refine Bool.eq_false_iff.2 fun hxu => ?_
    have hxk := Option.some.inj (((h.marked x hx).1 hxu).symm.trans htest)
    simp [hxk] at hne
  · simp only [hu]
    refine ⟨Bridge.single_filter (b := b) rfl, fun h =>
      { state := h.state
        timer := h.timer
        selection := h.selection
        marked := fun x hx => h.marked x (List.mem_of_mem_filter hx)
        queued := fun j hj => ?_ }⟩
    obtain ⟨x, hx, hxj⟩ := h.queued j hj
    refine ⟨x, List.mem_filter.2 ⟨hx, ?_⟩, hxj⟩
    have hjk : j ≠ k := by
      rintro rfl
      exact hu ((h.marked e hmem).2 (hcable ▸ hj))
    simpa [hxj] using hjk

/-- The test under way ends with its entry (R142). -/
theorem Bridge.kept_complete {b : Bridge} {k : Fin 16} {p : QueueEntry → Bool} (hk : b.underTest = some k)
    (hp : ∀ e, p e = true → e.cable ≠ k) : b.Kept { b.withdraw with queue := b.queue.filter p } := by
  refine ⟨Bridge.single_filter (b := b) rfl, fun h => Bridge.tests_of_none rfl nofun nofun rfl rfl fun e he => ?_⟩
  obtain ⟨he, hpe⟩ := List.mem_filter.1 he
  exact Bool.eq_false_iff.2 fun hu => hp e hpe (Option.some.inj (((h.marked e he).1 hu).symm.trans hk))

/-- The bridge at rest takes an entry of its queue (R139). -/
theorem Bridge.kept_begin {b : Bridge} {e : QueueEntry} (hb : b.state = .idle) (he : e ∈ b.queue) :
    b.Kept { b with
      state := .charging, underTest := some e.cable, timer := some 0, selection := .cable e.cable
      queue := b.queue.map fun x => if x.cable = e.cable then { x with underTest := true } else x } := by
  have hcable (x : QueueEntry) : (if x.cable = e.cable then { x with underTest := true } else x).cable = x.cable := by
    split <;> rfl
  refine ⟨fun h => ?_, fun h => ?_⟩
  · have hmap : (b.queue.map fun x => if x.cable = e.cable then { x with underTest := true } else x).map
        QueueEntry.cable = b.queue.map QueueEntry.cable := by
      rw [List.map_map]
      exact List.map_congr_left fun x _ => hcable x
    rw [Bridge.Single, hmap]
    exact h
  · have hnone : b.underTest = none := h.resting (by rw [hb]; nofun) (by rw [hb]; nofun)
    exact
      { state := by simp
        timer := rfl
        selection := rfl
        marked := fun y hy => by
          obtain ⟨x, hx, rfl⟩ := List.mem_map.1 hy
          rw [hcable]
          by_cases hk : x.cable = e.cable
          · simp [hk]
          · have hxu : x.underTest ≠ true := fun hu => absurd ((h.marked x hx).1 hu) (by rw [hnone]; nofun)
            simpa [hk, hxu] using fun heq => hk heq.symm
        queued := fun j hj => by
          obtain rfl := Option.some.inj hj
          exact ⟨_, List.mem_map_of_mem he, hcable e⟩ }

/-- The bridge at rest finds its reference out of range (R139, R140). -/
theorem Bridge.kept_fault {b : Bridge} (hb : b.state = .idle) : b.Kept { b with
    state := .bridgeFault, underTest := none, timer := none, selection := .nothing } := by
  refine ⟨id, fun h => Bridge.tests_of_none rfl nofun nofun rfl rfl fun e he => ?_⟩
  have hnone : b.underTest = none := h.resting (by rw [hb]; nofun) (by rw [hb]; nofun)
  exact Bool.eq_false_iff.2 fun hu => absurd ((h.marked e he).1 hu) (by rw [hnone]; nofun)

theorem Bridge.kept_measure {b : Bridge} (hb : b.state = .charging) : b.Kept { b with state := .measuring } :=
  ⟨id, fun h =>
    { state := by simpa [hb] using h.state
      timer := h.timer
      selection := h.selection
      marked := h.marked
      queued := h.queued }⟩

theorem Bridge.kept_clear {b : Bridge} :
    b.Kept { b with state := if b.state = .bridgeFault then .idle else b.state } := by
  refine ⟨id, fun h =>
    { state := ?_
      timer := h.timer
      selection := h.selection
      marked := h.marked
      queued := h.queued }⟩
  by_cases hb : b.state = .bridgeFault
  · simpa [hb] using h.state
  · simpa [hb] using h.state

/-! ## The channels (R82) -/

/-- A channel's worst kind is none exactly while its bad streak is 0, and its dim part is present exactly while it is
dimmable (R82). -/
structure Channel.Right (c : Channel) : Prop where
  streak : c.badStreak = 0 ↔ c.worst = none
  dim : c.dim.isSome = c.cfg.dimmable

theorem State.channelsRight_iff (s : State) :
    s.streaksRight ∧ s.dimPartsRight ↔ ∀ c : Fin 64, s.channels[c].Right :=
  ⟨fun ⟨hs, hd⟩ c => ⟨hs c, hd c⟩, fun h => ⟨fun c => (h c).streak, fun c => (h c).dim⟩⟩

/-- What holds of the channel `a` holds of `b`. -/
def Channel.Kept (a b : Channel) : Prop := a.Right → b.Right

@[simp] theorem Channel.Kept.rfl {c : Channel} : c.Kept c := id

theorem Channel.Kept.trans {a b c : Channel} (h : a.Kept b) (k : b.Kept c) : a.Kept c := k ∘ h

/-- The dim part is as it was, or another in its place. -/
theorem Channel.kept_of_streak {a b : Channel} (hs : a.Right → (b.badStreak = 0 ↔ b.worst = none))
    (hd : b.dim.isSome = a.dim.isSome) (hc : b.cfg.dimmable = a.cfg.dimmable) : a.Kept b :=
  fun h => ⟨hs h, hd.trans (h.dim.trans hc.symm)⟩

/-- The streak ends (R85, R88, R96, R97, R119, R121). -/
theorem Channel.kept_of_ended {a b : Channel} (hs : b.badStreak = 0) (hw : b.worst = none)
    (hd : b.dim.isSome = a.dim.isSome) (hc : b.cfg.dimmable = a.cfg.dimmable) : a.Kept b :=
  Channel.kept_of_streak (fun _ => iff_of_true hs hw) hd hc

theorem Channel.moved_kept (a b : Channel) (h : a.Kept b) : a.Kept (Channel.moved a b) := by
  unfold Channel.moved
  split
  · exact h
  · exact fun ha => ⟨(h ha).streak, (h ha).dim⟩

theorem Channel.setActive_kept (c : Channel) (d : Dimming) (p : Part) : c.Kept (c.setActive d p) := by
  unfold Channel.setActive
  split
  · next hdim =>
    have hsome : c.dim.isSome = true := (Bool.and_eq_true_iff.1 hdim).2
    exact Channel.kept_of_streak Channel.Right.streak hsome.symm rfl
  · exact fun h => ⟨h.streak, h.dim⟩

theorem Channel.applyResult_kept (c : Channel) (r : Result) : c.Kept (c.applyResult r) := by
  cases r with
  | good => exact Channel.kept_of_ended rfl rfl rfl rfl
  | bad k =>
    refine Channel.kept_of_streak (fun _ => iff_of_false (Nat.succ_ne_zero _) ?_) rfl rfl
    cases hw : c.worst with
    | none => cases k <;> simp [Channel.applyResult, hw, severity]
    | some w =>
      simp only [Channel.applyResult, hw]
      split <;> nofun

theorem Channel.confirm_kept (c : Channel) : c.Kept c.confirm := Channel.kept_of_ended rfl rfl rfl rfl

theorem Channel.completeLearning_kept (c : Channel) (f : ProfileConfig) (d : Dimming) :
    c.Kept (c.completeLearning f d) := by
  unfold Channel.completeLearning
  split
  · exact fun h => ⟨(c.setActive_kept d _ h).streak, (c.setActive_kept d _ h).dim⟩
  · exact fun h => ⟨(c.setActive_kept d _ h).streak, (c.setActive_kept d _ h).dim⟩

theorem Channel.settleStreak_kept (c : Channel) (f : ProfileConfig) (failed : Bool) :
    c.Kept (c.settleStreak f failed).channel := by
  unfold Channel.settleStreak
  split
  · exact c.confirm_kept
  · exact .rfl

theorem Channel.judge_kept (c : Channel) (f : ProfileConfig) (d : Dimming) (r : Reading) :
    c.Kept (c.judge f d r).channel := by
  have hclass (p : Part) (x : Result) : c.Kept ((c.setActive d p).applyResult x) :=
    (c.setActive_kept d p).trans (Channel.applyResult_kept _ x)
  unfold Channel.judge
  split
  · split
    · exact (hclass _ _).trans (Channel.settleStreak_kept _ f false)
    · unfold Channel.judgeLearning
      dsimp only
      split
      · exact (hclass _ _).trans ((Channel.completeLearning_kept _ f d).trans (Channel.settleStreak_kept _ f _))
      · exact (hclass _ _).trans (Channel.settleStreak_kept _ f false)
  · exact (c.applyResult_kept _).trans (Channel.settleStreak_kept _ f false)
  all_goals exact .rfl

theorem Channel.advance_kept (c : Channel) (f : ProfileConfig) (opening : Bool) : c.Kept (c.advance f opening) := by
  rw [c.advance_eq c f opening rfl rfl rfl]
  exact fun h => ⟨h.streak, h.dim⟩

theorem Channel.configure_kept (c : Channel) (cfg : ChannelConfig) : c.Kept (c.configure cfg) := by
  refine fun h => ⟨?_, ?_⟩
  · unfold Channel.configure
    dsimp only
    split
    · exact iff_of_true rfl rfl
    · exact h.streak
  · unfold Channel.configure
    dsimp only
    split
    · next hd => exact h.dim.trans hd
    · split
      · next hd => exact hd.symm
      · next hd => exact (Bool.eq_false_iff.2 hd).symm

theorem Channel.relearn_kept (c : Channel) : c.Kept c.relearn :=
  Channel.kept_of_ended rfl rfl (Option.isSome_map ..) rfl

theorem Channel.dimChanged_kept (c : Channel) : c.Kept c.dimChanged := by
  unfold Channel.dimChanged
  split
  · exact Channel.kept_of_ended rfl rfl rfl rfl
  · exact .rfl

theorem Channel.profileChanged_kept (c : Channel) (f : Fin 8) : c.Kept (c.profileChanged f) := by
  unfold Channel.profileChanged
  split
  · exact Channel.kept_of_ended rfl rfl rfl rfl
  · exact .rfl

/-! ## The detectors (R78 to R80) -/

/-- A disabled detector input holds the cleared values (R78, R79). -/
structure Detector.Cleared (d : Detector) : Prop where
  latch : d.latch = false
  level : d.level = false
  previous : d.previous = false
  faulty : d.faulty = false
  activeRun : d.activeRun = 0

/-- What holds of the detector `a` holds of `b`: disabled, it is cleared. -/
def Detector.Kept (a b : Detector) : Prop :=
  (a.cfg.enabled = false → a.Cleared) → b.cfg.enabled = false → b.Cleared

theorem State.detectorsRight_iff (s : State) : s.detectorsRight ↔
    ∀ d : Fin 16, s.detectors[d].cfg.enabled = false → s.detectors[d].Cleared :=
  ⟨fun h d hd => by
      obtain ⟨h1, h2, h3, h4, h5⟩ := h d hd
      exact ⟨h1, h2, h3, h4, h5⟩,
    fun h d hd => ⟨(h d hd).latch, (h d hd).level, (h d hd).previous, (h d hd).faulty, (h d hd).activeRun⟩⟩

@[simp] theorem Detector.Kept.rfl {d : Detector} : d.Kept d := id

theorem Detector.Kept.trans {a b c : Detector} (h : a.Kept b) (k : b.Kept c) : a.Kept c := k ∘ h

/-- An enabled input is not asked for anything. -/
theorem Detector.kept_of_enabled {a b : Detector} (h : b.cfg.enabled = true) : a.Kept b :=
  fun _ hb => absurd (hb.symm.trans h) Bool.false_ne_true

theorem Detector.moved_kept (a b : Detector) (h : a.Kept b) : a.Kept (Detector.moved a b) := by
  unfold Detector.moved
  split
  · exact h
  · intro ha hb
    exact ⟨(h ha hb).latch, (h ha hb).level, (h ha hb).previous, (h ha hb).faulty, (h ha hb).activeRun⟩

theorem Detector.configure_kept (d : Detector) (cfg : DetectorConfig) : d.Kept (d.configure cfg) := by
  refine Detector.moved_kept d _ ?_
  split
  · next hsame =>
    intro hd hoff
    have h := hd (hsame.trans hoff)
    exact ⟨h.latch, h.level, h.previous, h.faulty, h.activeRun⟩
  · exact fun _ _ => ⟨rfl, rfl, rfl, rfl, rfl⟩

theorem Detector.sample_kept (d : Detector) (pin : Bool) : d.Kept (d.sample pin) := by
  unfold Detector.sample
  split
  · next hon => exact Detector.moved_kept d _ (Detector.kept_of_enabled hon)
  · exact .rfl

theorem Detector.tenth_kept (d : Detector) : d.Kept d.tenth := by
  unfold Detector.tenth
  split
  · next hon => exact Detector.kept_of_enabled (Bool.and_eq_true_iff.1 hon).1
  · exact .rfl

theorem Detector.served_kept (d : Detector) : d.Kept d.served := by
  unfold Detector.served
  split
  · exact .rfl
  · intro hd hoff
    exact ⟨rfl, (hd hoff).level, (hd hoff).previous, (hd hoff).faulty, (hd hoff).activeRun⟩

/-- A disabled input has counted nothing, so it does not become faulty (R80). -/
theorem Detector.makeFaulty_kept (d : Detector) (h : d.stuck = true) : d.Kept d.makeFaulty := by
  obtain ⟨-, -, hrun⟩ := d.stuck_iff.1 h
  refine Detector.moved_kept d _ fun hd hoff => ?_
  have hzero := (hd hoff).activeRun
  omega

end Sys2Proof.Machine
end

section
/-! The sequencer and the plans: what a context and an interstage record go with, and which plans are LOADED (R40, R42,
R49, R50, R55, R57, R64, R68, R166). -/

namespace Sys2Proof.Machine

/-! ## The invariant (R40, R42, R49, R50, R55, R57, R64, R68, R166) -/

/-- A stage context is held exactly in a green, and an interstage record exactly in INTERSTAGE; each is of the current
stage, and of a plan that runs (R55, R64, R68). -/
structure Sequencer.Shaped (q : Sequencer) : Prop where
  context : q.context.isSome = q.state.inGreen
  interstage : q.interstage.isSome = true ↔ q.state = .interstage
  green : ∀ c, q.context = some c → q.current = some c.descriptor
  entering : ∀ r, q.interstage = some r → q.current = some r.entering
  running : q.running = none → q.context = none ∧ q.interstage = none

/-- The sequencer is shaped, the start phase ALL_RED goes with its ALL_RED, the pending plan is as R50 gives it, and the
owners of stages, the running and the requested plan are LOADED. -/
structure State.Sequenced (s : State) : Prop where
  shaped : s.seq.Shaped
  phase : s.sup.phase = some .allRed → s.seq.state = .allRed
  pending : s.seq.pending = pendingFor s.seq.running s.sched.requested
  owner : ∀ (d : Fin 96) (p : Fin 8), s.stages[d].owner = some p → s.plans[p].loaded = true
  running : ∀ p : Fin 8, s.seq.running = some p → s.plans[p].loaded = true
  requested : ∀ p : Fin 8, s.sched.requested = some p → s.plans[p].loaded = true

/-- The table of R50. -/
theorem pendingFor_eq (running requested : Option (Fin 8)) : pendingFor running requested =
    if running = none ∨ requested = none ∨ requested = running then none else requested := by
  cases running <;> cases requested <;> simp [pendingFor]

theorem State.sequenced_iff (s : State) : s.sequencerRight ∧ s.plansRight ↔ s.Sequenced := by
  unfold State.sequencerRight
  rw [← pendingFor_eq]
  constructor
  · rintro ⟨⟨hcontext, hinterstage, hgreen, hentering, hrunning, hphase, hpending⟩, howner, hrun, hrequested⟩
    exact ⟨⟨hcontext, hinterstage, hgreen, hentering, hrunning⟩, hphase, hpending, howner, hrun, hrequested⟩
  · intro h
    exact ⟨⟨h.shaped.context, h.shaped.interstage, h.shaped.green, h.shaped.entering, h.shaped.running, h.phase,
      h.pending⟩, h.owner, h.running, h.requested⟩

namespace State.Sequenced

variable {s t : State}

theorem congr (h : s.Sequenced) (hseq : t.seq = s.seq) (hphase : t.sup.phase = s.sup.phase)
    (hsched : t.sched.requested = s.sched.requested) (hplans : t.plans = s.plans) (hstages : t.stages = s.stages) :
    t.Sequenced where
  shaped := hseq ▸ h.shaped
  phase := by rw [hseq, hphase]; exact h.phase
  pending := by rw [hseq, hsched]; exact h.pending
  owner := by rw [hstages, hplans]; exact h.owner
  running := by rw [hseq, hplans]; exact h.running
  requested := by rw [hsched, hplans]; exact h.requested

/-- The sequencer moves on with the running and the pending plan it has. -/
theorem moves (h : s.Sequenced) (hshaped : t.seq.Shaped) (hphase : t.sup.phase = some .allRed → t.seq.state = .allRed)
    (hrun : t.seq.running = s.seq.running) (hpending : t.seq.pending = s.seq.pending)
    (hsched : t.sched.requested = s.sched.requested) (hplans : t.plans = s.plans) (hstages : t.stages = s.stages) :
    t.Sequenced where
  shaped := hshaped
  phase := hphase
  pending := by rw [hpending, hrun, hsched]; exact h.pending
  owner := by rw [hstages, hplans]; exact h.owner
  running := by rw [hrun, hplans]; exact h.running
  requested := by rw [hsched, hplans]; exact h.requested

/-- Nothing runs any more (R56, R57). -/
theorem empties {q : SeqState} (h : s.Sequenced) (hq : q = .stopped ∨ q = .allRed) (hseq : t.seq = s.seq.emptied q)
    (hphase : t.sup.phase = some .allRed → q = .allRed) (hsched : t.sched.requested = s.sched.requested)
    (hplans : t.plans = s.plans) (hstages : t.stages = s.stages) : t.Sequenced where
  shaped := by
    rw [hseq]
    rcases hq with rfl | rfl <;>
      exact ⟨rfl, iff_of_false nofun nofun, nofun, nofun, fun _ => ⟨rfl, rfl⟩⟩
  phase hp := by rw [hseq]; exact hphase hp
  pending := by rw [hseq]; rfl
  owner := by rw [hstages, hplans]; exact h.owner
  running := by rw [hseq]; exact nofun
  requested := by rw [hsched, hplans]; exact h.requested

/-- Outside the sequencer's ALL_RED the start phase is not ALL_RED. -/
theorem phase_ne (h : s.Sequenced) (hstate : s.seq.state ≠ .allRed) : s.sup.phase ≠ some .allRed :=
  fun hp => hstate (h.phase hp)

theorem green_of_context (h : s.Sequenced) {c : Context} (hc : s.seq.context = some c) : s.seq.state.inGreen = true :=
  by
  rw [← h.shaped.context, hc]
  rfl

theorem phase_ne_of_context (h : s.Sequenced) {c : Context} (hc : s.seq.context = some c) :
    s.sup.phase ≠ some .allRed := by
  have hg := h.green_of_context hc
  exact h.phase_ne fun hs => by rw [hs] at hg; exact Bool.false_ne_true hg

end State.Sequenced

theorem Sequencer.shaped_suspended (q : Sequencer) : q.suspended.Shaped :=
  ⟨rfl, iff_of_false nofun nofun, nofun, nofun, fun _ => ⟨rfl, rfl⟩⟩

/-- One green gives way to another with the context it has (R69, R72). -/
theorem Sequencer.Shaped.regreen {q : Sequencer} (h : q.Shaped) {x : SeqState} (hq : q.state.inGreen = true)
    (hx : x.inGreen = true) : ({ q with state := x } : Sequencer).Shaped where
  context := h.context.trans (hq.trans hx.symm)
  interstage := by
    have hnot (y : SeqState) (hy : y.inGreen = true) : y ≠ .interstage := fun he => by
      rw [he] at hy
      exact Bool.false_ne_true hy
    exact iff_of_false (fun hi => hnot _ hq (h.interstage.1 hi)) (hnot x hx)
  green := h.green
  entering := h.entering
  running := h.running

/-- The context is worked on, and stays that of its stage (R68 to R70). -/
theorem Sequencer.Shaped.work {q : Sequencer} (h : q.Shaped) {f : Context → Context} {g : Interstage → Interstage}
    (hf : ∀ c, (f c).descriptor = c.descriptor) (hg : ∀ r, (g r).entering = r.entering) :
    ({ q with context := q.context.map f, interstage := q.interstage.map g } : Sequencer).Shaped where
  context := (Option.isSome_map ..).trans h.context
  interstage := by
    rw [← h.interstage]
    exact Eq.to_iff (congrArg (· = true) (Option.isSome_map ..))
  green c hc := by
    obtain ⟨x, hx, rfl⟩ := Option.map_eq_some_iff.1 hc
    rw [hf]
    exact h.green x hx
  entering r hr := by
    obtain ⟨x, hx, rfl⟩ := Option.map_eq_some_iff.1 hr
    rw [hg]
    exact h.entering x hx
  running hn := by
    obtain ⟨hc, hi⟩ := h.running hn
    exact ⟨by simp [hc], by simp [hi]⟩

end Sys2Proof.Machine
end

section
/-! What each operation keeps of the records (R49 to R52, R55, R57, R64, R68, R78, R79, R82, R133 to R135, R139,
R166). -/

namespace Sys2Proof.Machine

/-- What holds of the bridge, the dimming, the channels, the detectors and the sequencer in `s` holds in `t`. By
default a part that the operation leaves as it was. -/
structure State.Kept (s t : State) : Prop where
  bridge : s.bridge.Kept t.bridge := by simp
  dim : s.dimRight → t.dimRight := by simp [State.dimRight]
  channels : ∀ c : Fin 64, (s.channels[c]).Kept t.channels[c] := by simp
  detectors : ∀ d : Fin 16, (s.detectors[d]).Kept t.detectors[d] := by simp
  sequenced : s.Sequenced → t.Sequenced := by
    exact fun h => h.congr (by simp) (by simp) (by simp) (by simp) (by simp)

theorem State.Kept.rfl {s : State} : s.Kept s := {}

theorem State.Kept.trans {s t u : State} (h : s.Kept t) (k : t.Kept u) : s.Kept u where
  bridge := h.bridge.trans k.bridge
  dim := k.dim ∘ h.dim
  channels c := (h.channels c).trans (k.channels c)
  detectors d := (h.detectors d).trans (k.detectors d)
  sequenced := k.sequenced ∘ h.sequenced

/-- An event keeps what its work keeps: it moves only revisions of GROUP, CABLE and JUNCTION records. -/
theorem event_kept {f : State → State} {s : State} (h : s.Kept (f s)) : s.Kept (event f s) :=
  ⟨h.bridge, h.dim, h.channels, h.detectors, fun hs => (h.sequenced hs).congr rfl rfl rfl rfl rfl⟩

theorem foldl_kept {β : Type} {f : State → β → State} (h : ∀ (s : State) (b : β), s.Kept (f s b)) (l : List β) (s :
    State) :
    s.Kept (l.foldl f s) := by
  induction l generalizing s with
  | nil => exact .rfl
  | cons b l ih => exact (h s b).trans (ih _)

/-! ## Posting, cables and the bridge -/

theorem State.mapSup_kept (s : State) (f : Supervisor → Supervisor) (hf : (f s.sup).phase = s.sup.phase) :
    s.Kept (s.mapSup f) where
  sequenced h := h.congr rfl hf rfl rfl rfl

theorem State.post_kept (s : State) (c : AClass) (t : Table) (i : Nat) : s.Kept (s.post c t i) := {}

theorem State.postIf_kept (s : State) (b : Bool) (c : AClass) (t : Table) (i : Nat) : s.Kept (s.postIf b c t i) := {}

theorem State.darkCauses_kept (s : State) : s.Kept s.darkCauses := {}

theorem State.request_kept (s : State) (r : TestRequest) : s.Kept (s.request r) where
  bridge := by
    unfold State.request
    split
    · refine Bridge.kept_of_map (t := s.bridge.timer) (fun e => ?_) (fun e => ?_) rfl
      · split <;> rfl
      · split <;> rfl
    · next hnone => exact Bridge.kept_append rfl (Bridge.entryOf_none hnone)

theorem State.removeEntry_kept (s : State) (k : Fin 16) (t : TestStatus) : s.Kept (s.removeEntry k t) where
  bridge := by
    unfold State.removeEntry
    split
    · exact .rfl
    · next e he =>
      rw [State.postIf_bridge]
      exact Bridge.kept_remove he

theorem State.abandonTest_kept (s : State) : s.Kept s.abandonTest := by
  unfold State.abandonTest
  split
  · exact .rfl
  · exact s.removeEntry_kept _ _

theorem State.confirmFault_kept (s : State) (k : Fin 16) (f : CableFault) : s.Kept (s.confirmFault k f) := {}

theorem State.nextEntry_mem {s : State} {e : QueueEntry} (h : s.nextEntry = some e) : e ∈ s.bridge.queue := by
  unfold State.nextEntry at h
  dsimp only at h
  split at h
  · next hs => exact List.mem_of_find?_eq_some (hs.trans h)
  · split at h
    · next hr => exact List.mem_of_find?_eq_some (hr.trans h)
    · exact List.mem_of_find?_eq_some h

theorem State.arbitrate_kept (s : State) (bref : Microamps) : s.Kept (s.arbitrate bref) where
  bridge := by
    unfold State.arbitrate
    split
    · next hidle =>
      split
      · exact .rfl
      · next e he =>
        split
        · exact Bridge.kept_begin hidle (State.nextEntry_mem he)
        · exact Bridge.kept_fault hidle
    · exact .rfl

theorem State.chargeEnd_kept (s : State) (h : s.bridge.state = .charging) : s.Kept s.chargeEnd where
  bridge := Bridge.kept_measure h

theorem State.applyResult_kept (s : State) (k : Fin 16) (retest passed : Bool) :
    s.Kept (s.applyResult k retest passed) := by
  have hset (x : Cable) : s.Kept (s.setCable k x) := {}
  unfold State.applyResult
  dsimp only
  split
  · exact hset _
  · split
    · split
      · exact s.confirmFault_kept k _
      · exact s.request_kept _
    · exact (hset _).trans (State.request_kept _ _)

theorem State.completeTest_kept (s : State) (bmeas : Microamps) : s.Kept (s.completeTest bmeas) := by
  unfold State.completeTest
  split
  · exact .rfl
  · next k hk =>
    split
    · next hnone =>
      exact { bridge := ⟨id, fun h => by
        obtain ⟨e, he, hc⟩ := h.queued k hk
        exact absurd hc (Bridge.entryOf_none hnone e he)⟩ }
    · next e he =>
      have hwithdrawn : s.Kept (s.mapBridge fun b =>
          { b.withdraw with queue := b.queue.filter fun x => x.cable != k }) :=
        { bridge := Bridge.kept_complete hk fun x hx => by simpa using hx }
      exact (hwithdrawn.trans {}).trans ((State.applyResult_kept _ k _ _).trans (State.postIf_kept ..))

theorem State.advanceTest_kept (s : State) (bmeas : Microamps) : s.Kept (s.advanceTest bmeas) := by
  unfold State.advanceTest
  split
  · next h => exact s.chargeEnd_kept h.1
  · split
    · exact s.completeTest_kept bmeas
    · exact .rfl

theorem State.timeOut_kept (s : State) : s.Kept s.timeOut :=
  foldl_kept (fun t (e : QueueEntry) => t.removeEntry_kept e.cable .timedOut) _ s

theorem State.ageQueue_kept (s : State) : s.Kept s.ageQueue where
  bridge := Bridge.kept_of_map (fun _ => rfl) (fun _ => rfl) (Option.isSome_map ..)

theorem State.queueTenth_kept (s : State) (i : TenthInput) : s.Kept (s.queueTenth i) :=
  s.ageQueue_kept.trans <| (event_kept (State.advanceTest_kept _ _)).trans <|
    (event_kept (State.timeOut_kept _)).trans <| event_kept (State.arbitrate_kept _ _)

theorem State.startSweep_kept (s : State) : s.Kept s.startSweep :=
  foldl_kept (fun t k => by
    split
    · exact .rfl
    · exact t.request_kept _) _ s

/-! ## The mode and the causes (R148 to R150, R158, R165 to R169) -/

theorem State.enterMode_kept (s : State) (m : Mode) (hm : m ≠ .starting) : s.Kept (s.enterMode m) := by
  have hmoved : s.Kept (((s.mapSup fun u => u.toMode m).clearPortFor m).directFor m) :=
    { sequenced := fun h => by
        cases m with
        | unconfigured => exact h.empties (.inl rfl) rfl nofun rfl rfl rfl
        | standby => exact h.empties (.inl rfl) rfl nofun rfl rfl rfl
        | failsafe => exact h.empties (.inl rfl) rfl nofun rfl rfl rfl
        | starting => exact absurd rfl hm
        | running => exact h.moves h.shaped nofun rfl rfl rfl rfl rfl
        | dark => exact h.moves s.seq.shaped_suspended nofun rfl rfl rfl rfl rfl
        | mainsOut => exact h.moves s.seq.shaped_suspended nofun rfl rfl rfl rfl rfl }
  unfold State.enterMode
  dsimp only
  split
  · exact hmoved.trans (State.abandonTest_kept _)
  · exact hmoved

theorem State.changeMode_kept (s : State) (m : Mode) (c : AClass) (hm : m ≠ .starting) : s.Kept (s.changeMode m c) :=
  (s.enterMode_kept m hm).trans (State.post_kept ..)

theorem State.failSafe_kept (s : State) (first : Cause) : s.Kept (s.failSafe first) :=
  (s.mapSup_kept _ rfl).trans (State.changeMode_kept _ .failsafe .safety nofun)

theorem State.recordFurther_kept (s : State) (raised : CauseSet) : s.Kept (s.recordFurther raised) := by
  rw [State.recordFurther_eq]
  exact {}

theorem State.raise_kept (s : State) (raised : CauseSet) : s.Kept (s.raise raised) := by
  unfold State.raise
  split
  · exact .rfl
  · split
    · exact s.failSafe_kept _
    · exact s.failSafe_kept _
    · exact s.recordFurther_kept raised
    all_goals exact .rfl

theorem State.refreshOnce_kept (s : State) : s.Kept s.refreshOnce :=
  (s.mapSup_kept _ rfl).trans (State.raise_kept _ _)

theorem State.refresh_kept (s : State) : s.Kept s.refresh := by
  unfold State.refresh
  dsimp only
  split
  · exact s.refreshOnce_kept
  · exact s.refreshOnce_kept.trans (State.refreshOnce_kept _)

theorem State.raiseAck_kept (s : State) (c : Cause) : s.Kept (s.raiseAck c) :=
  (s.mapSup_kept _ rfl).trans ((State.raise_kept _ _).trans (State.refresh_kept _))

theorem State.raisePresent_kept (s : State) : s.Kept s.raisePresent :=
  (s.raise_kept _).trans (State.refresh_kept _)

theorem State.forceRaise_kept (s : State) : s.Kept s.forceRaise := by
  unfold State.forceRaise
  refine State.Kept.trans ?_ (State.refresh_kept _)
  split
  · exact (s.mapSup_kept _ rfl).trans (State.recordFurther_kept _ _)
  · exact (s.mapSup_kept _ rfl).trans (State.failSafe_kept _ _)

theorem State.beginStart_kept (s : State) : s.Kept s.beginStart := by
  have hstopped : s.Kept (((s.enterMode .starting).directStopped.mapSup fun u =>
      { u with phase := some .darkTest, phaseTimer := some 0, redInUse := none }).post .plan .junction 0) :=
    { bridge := by simp [State.enterMode_bridge]
      sequenced := fun h => h.empties (.inl rfl) rfl nofun rfl rfl rfl }
  unfold State.beginStart
  dsimp only
  split
  · exact hstopped.trans (State.startSweep_kept _)
  · exact hstopped

theorem State.beginAllRed_kept (s : State) : s.Kept s.beginAllRed where
  sequenced h := h.empties (.inr rfl) rfl (fun _ => rfl) rfl rfl rfl

theorem State.mainsLost_kept (s : State) : s.Kept s.mainsLost := by
  have hleft (f : Supervisor → Supervisor) (hf : (f s.sup).phase = s.sup.phase) :
      s.Kept ((s.mapSup f).changeMode .mainsOut .safety).refresh :=
    (s.mapSup_kept f hf).trans ((State.changeMode_kept _ .mainsOut .safety nofun).trans (State.refresh_kept _))
  unfold State.mainsLost
  split
  · exact hleft _ rfl
  · exact hleft _ rfl
  · exact hleft _ rfl
  all_goals exact .rfl

theorem State.returnMode_kept (s : State) : s.Kept s.returnMode := by
  unfold State.returnMode
  split
  · exact { sequenced := fun h => h.moves h.shaped nofun rfl rfl rfl rfl rfl }
  · exact
      { bridge := by simp [State.enterMode_bridge]
        sequenced := fun h => h.empties (.inr rfl) rfl (fun _ => rfl) rfl rfl rfl }

theorem State.mainsReturn_kept (s : State) : s.Kept s.mainsReturn := by
  unfold State.mainsReturn
  split
  · dsimp only
    split
    · exact (event_kept s.returnMode_kept).trans (event_kept (State.raisePresent_kept _))
    · exact event_kept s.returnMode_kept
  · exact .rfl

end Sys2Proof.Machine
end

section
/-! What the schedule unit, the sequencer, the proving unit and the supervisor keep of the records (R46 to R52, R57,
R62 to R77, R121, R153, R154, R168 to R170). -/

namespace Sys2Proof.Machine

/-! ## The schedule unit (R46 to R52, R121) -/

/-- The plan of the source in force (R49). -/
def ScheduleUnit.candidate (u : ScheduleUnit) : Fin 8 :=
  match u.source with
  | .override => u.overridePlan
  | .schedule => u.scheduledPlan

theorem State.requestedPlan_eq (s : State) : s.requestedPlan =
    if s.plans[s.sched.candidate].loaded then some s.sched.candidate else allPlans.find? fun p => s.plans[p].loaded :=
  rfl

theorem State.requestedPlan_loaded (s : State) (p : Fin 8) (h : s.requestedPlan = some p) : s.plans[p].loaded = true :=
  by
  rw [State.requestedPlan_eq] at h
  split at h
  · next hc => exact Option.some.inj h ▸ hc
  · exact List.find?_some (p := fun q : Fin 8 => s.plans[q].loaded) h

/-- Whatever plan was requested, the one worked out is LOADED, and the pending plan follows from it (R49, R50). -/
theorem State.workOutRequested_sequenced (s : State) (hshaped : s.seq.Shaped)
    (hphase : s.sup.phase = some .allRed → s.seq.state = .allRed)
    (howner : ∀ (d : Fin 96) (p : Fin 8), s.stages[d].owner = some p → s.plans[p].loaded = true)
    (hrun : ∀ p : Fin 8, s.seq.running = some p → s.plans[p].loaded = true) : s.workOutRequested.Sequenced :=
  (State.refresh_kept _).sequenced
    { shaped := ⟨hshaped.context, hshaped.interstage, hshaped.green, hshaped.entering, hshaped.running⟩
      phase := hphase
      pending := rfl
      owner := howner
      running := hrun
      requested := s.requestedPlan_loaded }

theorem State.workOutRequested_sched (s : State) :
    s.workOutRequested.sched = { s.sched with requested := s.requestedPlan } := State.refresh_sched _

/-- The working-out after a change of plans and stages alone. -/
theorem State.workOutRequested_kept_after (s t : State) (hbridge : t.bridge = s.bridge) (hsched : t.sched = s.sched)
    (hchannels : t.channels = s.channels) (hdetectors : t.detectors = s.detectors)
    (hsequenced : s.Sequenced → t.workOutRequested.Sequenced) : s.Kept t.workOutRequested where
  bridge := by simp [hbridge]
  dim := by
    unfold State.dimRight
    rw [State.workOutRequested_sched, hsched]
    exact id
  channels := by simp [hchannels]
  detectors := by simp [hdetectors]
  sequenced := hsequenced

theorem State.workOutRequested_kept (s : State) : s.Kept s.workOutRequested :=
  s.workOutRequested_kept_after s rfl rfl rfl rfl fun h =>
    s.workOutRequested_sequenced h.shaped h.phase h.owner h.running

theorem State.changeDimming_kept (s : State) (d : Dimming) : s.Kept (s.changeDimming d) where
  dim _ := rfl
  channels c := by
    have h : (s.changeDimming d).channels[c] = s.channels[c].dimChanged := Vector.getElem_map _ c.isLt
    rw [h]
    exact Channel.dimChanged_kept _
  sequenced h := h.congr rfl rfl rfl rfl rfl

theorem State.workOutDimming_kept (s : State) : s.Kept s.workOutDimming := by
  unfold State.workOutDimming
  dsimp only
  split
  · exact .rfl
  · exact s.changeDimming_kept _

theorem State.mapSched_kept (s : State) (f : ScheduleUnit → ScheduleUnit) (hp : (f s.sched).dimPin = s.sched.dimPin)
    (hd : (f s.sched).dimState = s.sched.dimState) (hr : (f s.sched).requested = s.sched.requested) :
    s.Kept (s.mapSched f) where
  dim h := hp.trans (h.trans (by rw [← hd]; rfl))
  sequenced h := h.congr rfl rfl hr rfl rfl

theorem State.schedulePlan_kept (s : State) (p : Fin 8) (d : Dimming) : s.Kept (s.schedulePlan p d) :=
  (s.mapSched_kept _ rfl rfl rfl).trans (State.workOutRequested_kept _)

theorem State.setScheduled_kept (s : State) (p : Fin 8) (d : Dimming) : s.Kept (s.setScheduled p d) :=
  (event_kept (s.schedulePlan_kept p d)).trans (event_kept (State.workOutDimming_kept _))

theorem State.minuteBoundary_kept (s : State) : s.Kept s.minuteBoundary := by
  unfold State.minuteBoundary
  split
  · split
    · exact .rfl
    · dsimp only
      split
      · exact s.setScheduled_kept _ _
      · exact s.post_kept ..
  · exact .rfl

theorem State.workOutEntry_kept (s : State) : s.Kept s.workOutEntry := by
  unfold State.workOutEntry
  split
  · exact s.setScheduled_kept _ _
  · exact s.setScheduled_kept _ _

theorem State.mapBase_kept (s : State) (f : TimeBase → TimeBase) : s.Kept (s.mapBase f) := {}

theorem State.clockTenth_kept (s : State) : s.Kept s.clockTenth := by
  unfold State.clockTenth
  dsimp only
  split
  · exact (s.mapBase_kept _).trans (State.minuteBoundary_kept _)
  · exact s.mapBase_kept _

/-! ## The sequencer: transitions (R57, R63 to R67) -/

/-- The sequencer moves on under the plans it has. -/
structure Sequencer.Steps (a b : Sequencer) : Prop where
  shaped : a.Shaped → b.Shaped
  running : b.running = a.running
  pending : b.pending = a.pending

theorem Sequencer.Steps.rfl {q : Sequencer} : q.Steps q := ⟨id, Eq.refl _, Eq.refl _⟩

theorem Sequencer.Steps.trans {a b c : Sequencer} (h : a.Steps b) (k : b.Steps c) : a.Steps c :=
  ⟨k.shaped ∘ h.shaped, k.running.trans h.running, k.pending.trans h.pending⟩

theorem State.endInterstage_cases (s : State) : s.endInterstage = s ∨
    ∃ r, s.seq.interstage = some r ∧ s.endInterstage = s.beginGreen r.entering := by
  unfold State.endInterstage
  split
  · next r _ hr =>
    split
    · exact .inr ⟨r, hr, rfl⟩
    · exact .inl rfl
  · exact .inl rfl

/-- The green of the entering stage begins with a context of its own (R66, R68). -/
theorem State.endInterstage_steps (s : State) : s.seq.Steps s.endInterstage.seq := by
  rcases s.endInterstage_cases with h | ⟨r, hr, h⟩ <;> rw [h]
  · exact .rfl
  · exact ⟨fun hs =>
      { context := rfl
        interstage := iff_of_false nofun nofun
        green := fun c hc => by
          obtain rfl := Option.some.inj hc
          exact hs.entering r hr
        entering := nofun
        running := fun hn => absurd ((hs.running hn).2.symm.trans hr) nofun }, rfl, rfl⟩

theorem State.endInterstage_detector (s : State) (d : Fin 16) :
    (s.detectors[d]).Kept s.endInterstage.detectors[d] := by
  rcases s.endInterstage_cases with h | ⟨r, -, h⟩ <;> rw [h]
  · exact .rfl
  · have hd : (s.beginGreen r.entering).detectors[d] =
        if has s.stages[r.entering].shape.calls d then s.detectors[d].served else s.detectors[d] := ofFn_get _ d
    rw [hd]
    split
    · exact Detector.served_kept _
    · exact .rfl

theorem State.interstageStep_cases (s : State) : s.interstageStep = s ∨ s.seq.state = .interstage ∧
    ∃ v : Vector Group 16, s.interstageStep = ({ s with groups := v } : State).endInterstage := by
  unfold State.interstageStep
  split
  · next hstate _ => exact .inr ⟨hstate, _, rfl⟩
  · exact .inl rfl

theorem State.interstageStep_steps (s : State) : s.seq.Steps s.interstageStep.seq := by
  rcases s.interstageStep_cases with h | ⟨-, v, h⟩ <;> rw [h]
  · exact .rfl
  · exact State.endInterstage_steps { s with groups := v }

theorem State.interstageStep_detector (s : State) (d : Fin 16) :
    (s.detectors[d]).Kept s.interstageStep.detectors[d] := by
  rcases s.interstageStep_cases with h | ⟨-, v, h⟩ <;> rw [h]
  · exact .rfl
  · exact State.endInterstage_detector { s with groups := v } d

theorem State.interstageStep_kept (s : State) : s.Kept s.interstageStep where
  detectors := s.interstageStep_detector
  sequenced h := by
    have hsteps := s.interstageStep_steps
    refine h.moves (hsteps.shaped h.shaped) (fun hp => ?_) hsteps.running hsteps.pending (by simp) (by simp) (by simp)
    rw [State.interstageStep_sup] at hp
    rcases s.interstageStep_cases with hsame | ⟨hstate, -⟩
    · rw [hsame]
      exact h.phase hp
    · exact absurd hp (h.phase_ne (by rw [hstate]; nofun))

theorem State.workGreen_steps (s : State) : s.seq.Steps s.workGreen.seq := by
  unfold State.workGreen
  split
  · exact .rfl
  · next c hc =>
    refine ⟨fun h => ?_, rfl, rfl⟩
    have hwork := h.work (f := fun x => x.work (s.extendActive c) (s.waitingDemand c.descriptor)) (g := id)
      (fun _ => rfl) (fun _ => rfl)
    rwa [Option.map_id, hc] at hwork

theorem State.workGreen_state (s : State) : s.workGreen.seq.state = s.seq.state := by
  unfold State.workGreen
  split <;> rfl

theorem State.workGreen_kept (s : State) : s.Kept s.workGreen where
  sequenced h := h.moves (s.workGreen_steps.shaped h.shaped)
    (fun hp => s.workGreen_state.trans (h.phase (by rwa [State.workGreen_sup] at hp)))
    s.workGreen_steps.running s.workGreen_steps.pending (by simp) (by simp) (by simp)

theorem State.freshGreen_steps (s : State) : s.seq.Steps s.freshGreen.seq := by
  unfold State.freshGreen
  split
  · exact s.workGreen_steps
  · exact .rfl

/-- The groups at the start of a transition to B: those that lose their green are LEAVING (R63). -/
def State.losing (s : State) (b : Fin 96) : State :=
  { s with groups := Vector.ofFn fun g =>
      if (s.losersOf b).contains g then s.groups[g].enter .leaving else s.groups[g] }

/-- The interstage record of a transition from A to B (R63, R64). -/
def State.interstageFor (s : State) (a : Option (Fin 96)) (b : Fin 96) : Interstage :=
  { leaving := a, entering := b, timer := 0, losers := s.losersOf b
    gainers := (s.gainersOf b).map (s.losing b).gainerOf }

/-- The sequencer at the start of a transition: INTERSTAGE, with the record of the stage entered (R63). -/
def Sequencer.entering (q : Sequencer) (r : Interstage) : Sequencer :=
  { q with state := .interstage, current := some r.entering, context := none, interstage := some r }

/-- The start of a transition from A to B, before step 2 is applied to it (R63). -/
def State.begun (s : State) (a : Option (Fin 96)) (b : Fin 96) : State :=
  { s.losing b with seq := s.seq.entering (s.interstageFor a b) }

theorem State.startTransition_eq (s : State) (a : Option (Fin 96)) (b : Fin 96) :
    s.startTransition a b = (s.begun a b).interstageStep.freshGreen := rfl

theorem State.begun_detectors (s : State) (a : Option (Fin 96)) (b : Fin 96) :
    (s.begun a b).detectors = s.detectors := by simp only [State.begun, State.losing]

theorem Sequencer.shaped_entering (q : Sequencer) (r : Interstage) (hrun : q.running ≠ none) :
    (q.entering r).Shaped where
  context := rfl
  interstage := iff_of_true rfl rfl
  green := nofun
  entering x hx := by
    obtain rfl := Option.some.inj hx
    rfl
  running hn := absurd hn hrun

theorem State.startTransition_steps (s : State) (a : Option (Fin 96)) (b : Fin 96) (hrun : s.seq.running ≠ none) :
    s.seq.Steps (s.startTransition a b).seq :=
  Sequencer.Steps.trans ⟨fun _ => s.seq.shaped_entering (s.interstageFor a b) hrun, rfl, rfl⟩
    ((s.begun a b).interstageStep_steps.trans (State.freshGreen_steps _))

theorem State.startTransition_detector (s : State) (a : Option (Fin 96)) (b : Fin 96) (d : Fin 16) :
    (s.detectors[d]).Kept (s.startTransition a b).detectors[d] := by
  have h := (s.begun a b).interstageStep_detector d
  rw [State.begun_detectors] at h
  rw [State.startTransition_eq, State.freshGreen_detectors]
  exact h

/-- A transition from a green of a plan that runs (R63, R73). -/
theorem State.startTransition_kept (s : State) (a : Option (Fin 96)) (b : Fin 96) {c : Context}
    (hrun : s.seq.running ≠ none) (hc : s.seq.context = some c) : s.Kept (s.startTransition a b) where
  detectors := s.startTransition_detector a b
  sequenced h := by
    have hsteps := s.startTransition_steps a b hrun
    refine h.moves (hsteps.shaped h.shaped) (fun hp => ?_) hsteps.running hsteps.pending (by simp) (by simp) (by simp)
    rw [State.startTransition_sup] at hp
    exact absurd hp (h.phase_ne_of_context hc)

theorem State.changeMode_running_phase (s : State) (c : AClass) : (s.changeMode .running c).sup.phase = none := rfl

/-- The transition with which the start sequence ends: the mode becomes RUNNING (R57, R170). -/
theorem State.startTransition_running_kept (s : State) (a : Option (Fin 96)) (b : Fin 96)
    (hrun : s.seq.running ≠ none) : s.Kept ((s.startTransition a b).changeMode .running .plan) where
  bridge := by simp [State.changeMode_bridge]
  detectors d := by
    rw [State.changeMode_detectors]
    exact s.startTransition_detector a b d
  sequenced h := by
    have hsteps := s.startTransition_steps a b hrun
    refine h.moves ?_ (fun hp => ?_) ?_ ?_ (by simp) (by simp) (by simp)
    · exact hsteps.shaped h.shaped
    · rw [State.changeMode_running_phase] at hp
      exact absurd hp nofun
    · exact hsteps.running
    · exact hsteps.pending

theorem State.inTransition_state {s : State} {r : Interstage} (h : s.inTransition = some r) : s.seq.state = .interstage
    := by
  unfold State.inTransition at h
  split at h
  case h_1 hstate => exact hstate
  all_goals exact absurd h nofun

/-- A group steps in INTERSTAGE, and the green may begin with it (R65, R66). -/
theorem State.groupStep_kept (s : State) (g : Fin 16) (x : Group) (hstate : s.seq.state = .interstage) :
    s.Kept ((s.setGroup g x).endInterstage).freshGreen where
  detectors d := by
    rw [State.freshGreen_detectors]
    exact (s.setGroup g x).endInterstage_detector d
  sequenced h := by
    have hsteps := (s.setGroup g x).endInterstage_steps.trans (State.freshGreen_steps _)
    refine h.moves (hsteps.shaped h.shaped) (fun hp => ?_) hsteps.running hsteps.pending (by simp) (by simp) (by simp)
    rw [State.freshGreen_sup, State.endInterstage_sup] at hp
    exact absurd hp (h.phase_ne (by rw [hstate]; nofun))

theorem State.stepOne_kept (s : State) (g : Fin 16) : s.Kept (s.stepOne g) := by
  unfold State.stepOne
  split
  · exact .rfl
  · next r hr => exact s.groupStep_kept g _ (State.inTransition_state hr)

/-! ## The sequencer: greens and plan changes (R50, R68 to R75) -/

theorem State.indicate_kept (s : State) : s.Kept s.indicate := by
  have hbarred : s.Kept (s.mapSeq fun q => { q with allBarred := s.barredIndication }) :=
    { sequenced := fun h => h.moves
        ⟨h.shaped.context, h.shaped.interstage, h.shaped.green, h.shaped.entering, h.shaped.running⟩ h.phase
        rfl rfl rfl rfl rfl }
  exact hbarred.trans (State.refresh_kept _)

theorem State.setSeqState_kept (s : State) (x : SeqState) {c : Context} (hx : x.inGreen = true)
    (hc : s.seq.context = some c) : s.Kept (s.setSeqState x) where
  sequenced h := h.moves (h.shaped.regreen (h.green_of_context hc) hx)
    (fun hp => absurd hp (h.phase_ne_of_context hc)) rfl rfl rfl rfl rfl

theorem pendingFor_some {running requested : Option (Fin 8)} {q : Fin 8} (h : pendingFor running requested = some q) :
    requested = some q := by
  rw [pendingFor_eq] at h
  split at h
  · exact absurd h nofun
  · exact h

/-- The pending plan is the requested one, so it is LOADED and may run (R50, R74). -/
theorem State.runPending_kept (s : State) (q : Fin 8) (hq : s.seq.pending = some q) :
    s.Kept ((s.mapSeq fun x => { x with running := some q }).workOutPending) where
  sequenced h :=
    { shaped := ⟨h.shaped.context, h.shaped.interstage, h.shaped.green, h.shaped.entering, nofun⟩
      phase := h.phase
      pending := rfl
      owner := h.owner
      running := fun p hp => by
        obtain rfl := Option.some.inj hp
        exact h.requested q (pendingFor_some (h.pending.symm.trans hq))
      requested := h.requested }

theorem State.changePlan_kept (s : State) (cur : Fin 96) (q : Fin 8) {c : Context} (hq : s.seq.pending = some q)
    (hc : s.seq.context = some c) : s.Kept (s.changePlan cur q) := by
  have hrun : s.Kept (((s.mapSeq fun x => { x with running := some q }).workOutPending).post .plan .plan q.val) :=
    (s.runPending_kept q hq).trans (State.post_kept ..)
  unfold State.changePlan
  dsimp only
  split
  · refine hrun.trans (State.Kept.trans (State.startTransition_kept _ _ _ (c := c) ?_ ?_) (State.indicate_kept _))
    · exact nofun
    · exact hc
  · refine hrun.trans (State.Kept.trans (State.setSeqState_kept _ _ (c := c) ?_ ?_) (State.indicate_kept _))
    · rfl
    · exact hc

theorem State.leaveStage_kept (s : State) : s.Kept s.leaveStage := by
  unfold State.leaveStage
  split
  · next p c hp hc =>
    have hstart (d : Fin 96) : s.Kept (s.startTransition (some c.descriptor) d) :=
      s.startTransition_kept _ d (by rw [hp]; nofun) hc
    split
    · exact .rfl
    · split
      · exact hstart _
      · next q hq =>
        split
        · exact s.changePlan_kept _ q hq hc
        · exact hstart _
  · exact .rfl

theorem State.judgeExtending_kept (s : State) : s.Kept s.judgeExtending := by
  unfold State.judgeExtending
  split
  · exact .rfl
  · next c hc =>
    repeat' split
    · exact s.setSeqState_kept _ rfl hc
    · exact s.leaveStage_kept
    · exact s.leaveStage_kept
    · exact .rfl

theorem State.extend_kept (s : State) {c : Context} (hc : s.seq.context = some c) :
    s.Kept (s.setSeqState .extending).judgeExtending :=
  (s.setSeqState_kept _ rfl hc).trans (State.judgeExtending_kept _)

theorem State.minGreenRun_context {s : State} (h : s.minGreenRun = true) : ∃ c, s.seq.context = some c := by
  unfold State.minGreenRun at h
  split at h
  · exact absurd h nofun
  · next c hc => exact ⟨c, hc⟩

theorem State.demandPresent_context {s : State} (h : s.demandPresent = true) : ∃ c, s.seq.context = some c := by
  unfold State.demandPresent at h
  split at h
  · exact absurd h nofun
  · next c hc => exact ⟨c, hc⟩

theorem State.endMinGreen_kept (s : State) (h : s.minGreenRun = true) : s.Kept s.endMinGreen := by
  obtain ⟨c, hc⟩ := State.minGreenRun_context h
  unfold State.endMinGreen
  split
  · exact s.extend_kept hc
  · exact s.setSeqState_kept _ rfl hc

theorem State.judgeGreen_kept (s : State) : s.Kept s.judgeGreen := by
  unfold State.judgeGreen
  split
  · split
    · next h => exact s.endMinGreen_kept h
    · exact .rfl
  · exact s.judgeExtending_kept
  · split
    · next h =>
      obtain ⟨c, hc⟩ := State.demandPresent_context h
      exact s.extend_kept hc
    · exact .rfl
  all_goals exact .rfl

theorem State.greenStep_kept (s : State) : s.Kept s.greenStep := by
  unfold State.greenStep
  split
  · exact s.workGreen_kept.trans (State.judgeGreen_kept _)
  · exact .rfl

/-- The requested plan, if any, runs from ALL_RED, where nothing ran (R57, R170). -/
theorem State.runRequested_kept (s : State) (hphase : s.sup.phase = some .allRed) :
    s.Kept ((s.mapSeq fun q => { q with running := s.sched.requested }).workOutPending) where
  sequenced h := by
    have hstate : s.seq.state = .allRed := h.phase hphase
    have hcontext : s.seq.context = none := by
      rw [← Option.not_isSome_iff_eq_none, h.shaped.context, hstate]
      exact Bool.false_ne_true
    have hinterstage : s.seq.interstage = none := by
      rw [← Option.not_isSome_iff_eq_none, h.shaped.interstage, hstate]
      exact nofun
    exact
      { shaped := ⟨h.shaped.context, h.shaped.interstage, h.shaped.green, h.shaped.entering,
          fun _ => ⟨hcontext, hinterstage⟩⟩
        phase := h.phase
        pending := rfl
        owner := h.owner
        running := h.requested
        requested := h.requested }

theorem State.enterPlan_kept (s : State) (hphase : s.sup.phase = some .allRed) : s.Kept s.enterPlan := by
  have hrun := s.runRequested_kept hphase
  unfold State.enterPlan
  dsimp only
  split
  · exact hrun.trans (State.indicate_kept _)
  · next p hp =>
    split
    · exact hrun.trans (State.indicate_kept _)
    · refine hrun.trans ((State.startTransition_running_kept _ _ _ ?_).trans
        ((State.indicate_kept _).trans (State.raisePresent_kept _)))
      exact fun hn => absurd (hp.symm.trans hn) nofun

/-! ## The sequencer: detectors and timers (R62, R67, R77 to R80) -/

theorem State.detectorFaulty_kept (s : State) (n : Fin 16) (h : s.detectors[n].stuck = true) :
    s.Kept (s.detectorFaulty n) where
  detectors := set_related (fun _ => .rfl) s.detectors n (Detector.makeFaulty_kept _ h)

theorem State.stuckCheck_kept (s : State) : s.Kept s.stuckCheck :=
  foldl_kept (fun t (n : Fin 16) => by
    split
    · next h => exact t.detectorFaulty_kept n h
    · exact .rfl) _ s

theorem State.sampleDetectors_kept (s : State) (pins : Set16) : s.Kept (s.sampleDetectors pins) where
  detectors d := by
    have h : (s.sampleDetectors pins).detectors[d] = s.detectors[d].sample (has pins d) := ofFn_get _ d
    rw [h]
    exact Detector.sample_kept _ _

theorem State.raiseTimers_kept (s : State) : s.Kept s.raiseTimers where
  detectors d := by
    rw [s.raiseTimers_detector d]
    exact Detector.tenth_kept _
  sequenced h := h.moves (h.shaped.work (fun _ => rfl) (fun _ => rfl)) h.phase rfl rfl rfl rfl rfl

theorem State.sequencerTenth_kept (s : State) : s.Kept s.sequencerTenth :=
  s.raiseTimers_kept.trans <| (State.stuckCheck_kept _).trans <|
    (event_kept (State.interstageStep_kept _)).trans <| event_kept (State.greenStep_kept _)

theorem State.darkStep_kept (s : State) : s.Kept s.darkStep where
  sequenced h := by
    have hwork := h.shaped.work (f := id) (g := fun r =>
      { r with
        losers := r.losers.filter fun g => !s.groups[g].goesDark
        gainers := r.gainers.filter fun x => !s.groups[x.group].goesDark }) (fun _ => rfl) (fun _ => rfl)
    rw [Option.map_id] at hwork
    exact h.moves hwork h.phase rfl rfl rfl rfl rfl

theorem State.putChannel_kept (s : State) (c : Fin 64) (x : Channel) (h : (s.channels[c]).Kept x) :
    s.Kept (s.putChannel c x) where
  channels := set_related (fun _ => .rfl) s.channels c (Channel.moved_kept _ _ h)

end Sys2Proof.Machine
end

section
/-! What every command keeps, continued: the proving unit, the cable monitor, the supervisor, the ticks, the tracker,
the writes and retirements, and the junction commands. -/

namespace Sys2Proof.Machine

/-! ## The proving unit (R109 to R119) -/

theorem State.proveTick_kept (s : State) (readings : Option Readings) (opening : Vector Bool 64) :
    s.Kept (s.proveTick readings opening) where
  channels c := by
    rw [s.proveTick_channel readings opening c]
    unfold State.proveChannel
    refine Channel.moved_kept _ _ ?_
    split
    · exact Channel.advance_kept _ _ _
    · refine Channel.Kept.trans ?_ (Channel.advance_kept _ _ _)
      unfold State.judgeChannel
      dsimp only
      have htake (f : ProfileConfig) (r : Reading) : (s.channels[c]).Kept (s.channels[c].take f r) :=
        fun h => ⟨h.streak, h.dim⟩
      split
      · exact (htake _ _).trans (Channel.judge_kept _ _ _ _)
      · exact htake _ _

theorem State.redCauses_kept (s : State) : s.Kept s.redCauses := {}

theorem State.verdictChanged_kept (s : State) : s.Kept s.verdictChanged :=
  s.redCauses_kept.trans (State.refresh_kept _)

theorem State.verdictTick_kept (s : State) (raised : Bool) : s.Kept (s.verdictTick raised) := by
  unfold State.verdictTick
  split
  · exact event_kept s.verdictChanged_kept
  · exact .rfl

theorem State.completeLearning_kept (s : State) (c : Fin 64) : s.Kept (s.completeLearning c) :=
  (s.putChannel_kept c _ (Channel.completeLearning_kept _ _ _)).trans (State.postIf_kept ..)

theorem State.confirmStreak_kept (s : State) (c : Fin 64) : s.Kept (s.confirmStreak c) := by
  have hconfirm : s.Kept ((s.putChannel c s.channels[c].confirm).postIf s.channels[c].verdictRises .lamp .channel
      c.val) := (s.putChannel_kept c _ (Channel.confirm_kept _)).trans (State.postIf_kept ..)
  unfold State.confirmStreak
  dsimp only
  split
  · exact hconfirm.trans (State.verdictChanged_kept _)
  · exact hconfirm

/-! ## The cable monitor and the supervisor (R127 to R131, R143, R153, R154, R166 to R170) -/

theorem State.cableTick_kept (s : State) (readings : Option Readings) : s.Kept (s.cableTick readings) := {}

theorem State.withhold_kept (s : State) : s.Kept s.withhold := by
  have hoff : s.Kept ({ s with port := Machine.allOff }.mapSup fun u => { u with fsr := false }) := {}
  exact hoff.trans (State.raiseAck_kept _ _)

theorem State.yieldBridge_kept (s : State) (set : Vector Bool 64) : s.Kept (s.yieldBridge set) := by
  unfold State.yieldBridge
  split
  · exact .rfl
  · split
    · exact s.abandonTest_kept
    · exact .rfl

theorem State.examine_kept (s : State) (set : Vector Bool 64) : s.Kept (s.examine set) := by
  unfold State.examine
  split
  · exact s.withhold_kept
  · have hport (v : Vector Bool 64) : s.Kept { s with port := v } := {}
    exact (hport _).trans (State.yieldBridge_kept _ _)

theorem State.sequencerCycle_kept (s : State) (measured : Bool) (det : Set16) :
    s.Kept (s.sequencerCycle measured det) := by
  have hcycle (t : State) : t.Kept (event (fun v => v.examine v.proposed) (event (fun v => v.darkStep.indicate) t)) :=
    (event_kept (t.darkStep_kept.trans (State.indicate_kept _))).trans (event_kept (State.examine_kept _ _))
  unfold State.sequencerCycle
  dsimp only
  split
  · exact (s.sampleDetectors_kept det).trans (hcycle _)
  · exact hcycle s

theorem State.provenConflict_kept (s : State) (i j : Fin 16) : s.Kept (s.provenConflict i j) :=
  (s.mapSup_kept _ rfl).trans (State.raiseAck_kept _ _)

theorem State.evidenceTick_kept (s : State) (found : Supervisor) (measured : Bool) (ended : Vector Bool 64) :
    s.Kept (s.evidenceTick found measured ended) := by
  have hcounts (v : Vector (Vector Nat 16) 16) :
      s.Kept (if s.sup.mode.countsEvidence then s.mapSup fun u => { u with evidence := v } else s) := by
    split
    · exact s.mapSup_kept _ rfl
    · exact .rfl
  unfold State.evidenceTick
  split
  · dsimp only
    split
    · exact hcounts _
    · exact (hcounts _).trans (event_kept (State.provenConflict_kept _ _ _))
  · exact .rfl

theorem State.limitDarkTest_kept (s : State) : s.Kept s.limitDarkTest :=
  (foldl_kept (fun t (e : QueueEntry) => t.removeEntry_kept e.cable .abandoned) _ s).trans
    ((State.post_kept ..).trans (State.beginAllRed_kept _))

theorem State.allRedOver_phase {s : State} (h : s.allRedOver = true) : s.sup.phase = some .allRed :=
  eq_of_beq (Bool.and_eq_true_iff.1 h).1

theorem State.judgePhase_kept (s : State) : s.Kept s.judgePhase := by
  unfold State.judgePhase
  repeat' split
  · exact event_kept s.beginAllRed_kept
  · exact event_kept s.limitDarkTest_kept
  · next h => exact event_kept (s.enterPlan_kept (State.allRedOver_phase h))
  · exact .rfl

theorem State.supervisorTenth_kept (s : State) : s.Kept s.supervisorTenth :=
  (s.mapSup_kept _ rfl).trans (State.judgePhase_kept _)

/-! ## The ticks (R23, R26 to R28) -/

theorem State.queueAndPhase_kept (s : State) (i : TenthInput) : s.Kept (s.queueAndPhase i) := by
  unfold State.queueAndPhase
  split
  · exact (s.queueTenth_kept i).trans (State.supervisorTenth_kept _)
  · exact s.supervisorTenth_kept.trans (State.queueTenth_kept _ i)

theorem State.tenth_kept (s : State) (i : TenthInput) : s.Kept (s.tenth i) := by
  unfold State.tenth
  split
  · exact s.clockTenth_kept.trans ((State.sequencerTenth_kept _).trans (State.queueAndPhase_kept _ i))
  · exact s.sequencerTenth_kept.trans ((State.clockTenth_kept _).trans (State.queueAndPhase_kept _ i))
  · exact s.sequencerTenth_kept.trans ((State.queueAndPhase_kept _ i).trans (State.clockTenth_kept _))

theorem runWorks_kept (works : List (State → State)) (h : ∀ f ∈ works, ∀ s : State, s.Kept (f s)) (s : State) :
    s.Kept (runWorks works s) := by
  induction works generalizing s with
  | nil => exact .rfl
  | cons f works ih =>
    exact (h f List.mem_cons_self s).trans (ih (fun g hg => h g (List.mem_cons_of_mem f hg)) _)

theorem State.tickBlocks_kept (s : State) (measured : Bool) (i : TickInput) (opening ended : Vector Bool 64) :
    s.Kept (s.tickBlocks measured i opening ended) := by
  rw [State.tickBlocks_eq]
  refine runWorks_kept _ (fun f hf u => ?_) s
  rw [(tickOrder_perm s measured i _ opening ended).mem_iff] at hf
  simp only [List.mem_cons, List.not_mem_nil, or_false] at hf
  rcases hf with rfl | rfl | rfl | rfl | rfl
  · exact u.sequencerCycle_kept measured i.det
  · exact u.proveTick_kept _ opening
  · exact u.verdictTick_kept _
  · exact u.cableTick_kept _
  · exact u.evidenceTick_kept _ measured ended

theorem State.settleTick_kept (s : State) : s.Kept s.settleTick := s.mapSched_kept _ rfl rfl rfl

theorem State.openCycle_kept (s : State) : s.Kept s.openCycle := {}

theorem State.tickStart_kept (s : State) (i : TickInput) : s.Kept (s.tickStart i) := by
  have hcount : s.Kept s.countChannels := {}
  unfold State.tickStart
  split
  · exact hcount.trans (State.settleTick_kept _)
  · exact hcount

theorem State.cycleTick_kept (s : State) (measured : Bool) (i : TickInput) : s.Kept (s.cycleTick measured i) := by
  have hdone : s.Kept (s.tickDone measured i) := (s.tickStart_kept i).trans (State.tickBlocks_kept _ _ _ _ _)
  rw [State.cycleTick_eq]
  refine State.Kept.trans ?_ (State.openCycle_kept _)
  split
  · exact hdone
  · exact hdone.trans (State.settleTick_kept _)

/-! ## The tracker (R17 to R25) -/

theorem State.setTracker_kept (s : State) (m : MainsState) : s.Kept (s.setTracker m) := event_kept (s.mapBase_kept _)

theorem State.endCycle_kept (s : State) (measured : Bool) (i : TickInput) : s.Kept (s.endCycle measured i) :=
  (s.cycleTick_kept measured i).trans (State.mapBase_kept _ _)

theorem State.causedTenth_kept (s : State) (before : TimeBase) (i : TickInput) : s.Kept (s.causedTenth before i) := by
  unfold State.causedTenth
  split
  · exact s.tenth_kept _
  · exact .rfl

theorem State.takeReturn_kept (s : State) (o : TickOrder) : s.Kept (s.takeReturn o) := by
  unfold State.takeReturn
  split
  · exact s.workOutEntry_kept.trans (State.mainsReturn_kept _)
  · exact s.mainsReturn_kept.trans (State.workOutEntry_kept _)

theorem State.lock_kept (s : State) (o : TickOrder) : s.Kept (s.lock o) :=
  (s.mapBase_kept _).trans ((State.setTracker_kept _ _).trans (State.takeReturn_kept _ o))

theorem State.loseMains_kept (s : State) : s.Kept s.loseMains :=
  (event_kept (s.mapBase_kept _)).trans (event_kept (State.mainsLost_kept _))

theorem State.slip_kept (s : State) (i : TickInput) : s.Kept (s.slip i) :=
  (s.endCycle_kept false i).trans <| (State.mapBase_kept _ _).trans <|
    (State.setTracker_kept _ _).trans (State.causedTenth_kept _ _ i)

theorem State.firstWindow_kept (s : State) (i : TickInput) : s.Kept (s.firstWindow i) := by
  unfold State.firstWindow
  split
  · exact s.slip_kept i
  · exact s.mapBase_kept _
  · exact .rfl

theorem State.secondWindow_kept (s : State) : s.Kept s.secondWindow := by
  unfold State.secondWindow
  split
  · exact s.loseMains_kept
  · exact s.loseMains_kept
  · exact .rfl

theorem State.acceptCrossing_kept (s : State) (x : CrossingInput) (after : State → State)
    (h : ∀ t : State, t.Kept (after t)) : s.Kept (s.acceptCrossing x after) := by
  have htick : s.Kept ((s.endCycle s.base.measured x.tick).refer x.instant) :=
    (s.endCycle_kept _ x.tick).trans (State.mapBase_kept _ _)
  unfold State.acceptCrossing
  dsimp only
  split
  · exact htick.trans ((h _).trans (State.causedTenth_kept _ _ _))
  · exact htick.trans ((State.causedTenth_kept _ _ _).trans (h _))

theorem State.openAt_kept (s : State) (instant : Nat) : s.Kept (s.openAt instant) :=
  (s.mapBase_kept _).trans ((State.mapBase_kept _ _).trans (State.openCycle_kept _))

theorem State.countGood_kept (s : State) (o : TickOrder) : s.Kept (s.countGood o) := by
  unfold State.countGood
  dsimp only
  split
  · exact (s.mapBase_kept _).trans (State.lock_kept _ o)
  · exact s.mapBase_kept _

theorem State.acquire_kept (s : State) (x : CrossingInput) : s.Kept (s.acquire x) := by
  unfold State.acquire
  split
  · exact s.openAt_kept _
  · split
    · exact s.mapBase_kept _
    · exact s.acceptCrossing_kept x _ fun t => t.countGood_kept _
    · exact s.acceptCrossing_kept x _ fun t => t.mapBase_kept _
    · exact s.openAt_kept _

theorem State.crossLocked_kept (s : State) (x : CrossingInput) : s.Kept (s.crossLocked x) := by
  unfold State.crossLocked
  split
  · exact s.openAt_kept _
  · split
    · exact .rfl
    all_goals exact s.acceptCrossing_kept x _ fun _ => .rfl

theorem State.expireBefore_kept (s : State) (x : CrossingInput) : s.Kept (s.expireBefore x) := by
  have hfirst (due : Prop) [Decidable due] : s.Kept (if due then s.firstWindow x.tick else s) := by
    split
    · exact s.firstWindow_kept _
    · exact .rfl
  unfold State.expireBefore
  split
  · exact .rfl
  · dsimp only
    split
    · exact (hfirst _).trans (State.secondWindow_kept _)
    · exact hfirst _

theorem State.cross_kept (s : State) (x : CrossingInput) : s.Kept (s.cross x) := by
  unfold State.cross
  split
  · exact s.crossLocked_kept x
  · exact s.acceptCrossing_kept x _ fun t => t.setTracker_kept _
  · exact (s.setTracker_kept _).trans (State.openAt_kept _ _)
  · exact s.acquire_kept x

theorem State.zeroCrossing_kept (s : State) (x : CrossingInput) : s.Kept (s.zeroCrossing x) :=
  (s.expireBefore_kept x).trans (State.cross_kept _ x)

theorem State.crystalTenth_kept (s : State) (i : TenthInput) : s.Kept (s.crystalTenth i) := by
  unfold State.crystalTenth
  dsimp only
  split
  · exact (s.mapBase_kept _).trans (State.tenth_kept _ i)
  · exact s.mapBase_kept _

theorem State.cascadeTenth_kept (s : State) (i : TenthInput) : s.Kept (s.cascadeTenth i) := by
  unfold State.cascadeTenth
  split
  · exact s.tenth_kept i
  · exact .rfl

/-! ## Writes and retirements (R36, R37, R42, R43, R45, R78, R84, R87, R124, R147) -/

theorem State.decommission_kept (s : State) : s.Kept s.decommission := by
  unfold State.decommission
  split
  · exact s.changeMode_kept _ _ nofun
  · exact .rfl

theorem State.writeGroup_kept (s : State) (g : Fin 16) (cfg : GroupConfig) : s.Kept (s.writeGroup g cfg) := by
  have hset (x : Group) : s.Kept (s.setGroup g x) := {}
  exact (hset _).trans <| (State.decommission_kept _).trans <| (State.darkCauses_kept _).trans <|
    (State.redCauses_kept _).trans (State.refresh_kept _)

theorem State.writeConflict_kept (s : State) (i : Fin 16) (entry : Vector (Option Nat) 16) :
    s.Kept (s.writeConflict i entry) := by
  have hset (v : Vector ConflictRow 16) : s.Kept { s with conflicts := v } := {}
  exact (hset _).trans (State.decommission_kept _)

theorem State.writeChannel_kept (s : State) (c : Fin 64) (cfg : ChannelConfig) : s.Kept (s.writeChannel c cfg) :=
  (s.putChannel_kept c _ (Channel.configure_kept _ _)).trans (State.darkCauses_kept _)

theorem State.writeProfile_kept (s : State) (f : Fin 8) (cfg : ProfileConfig) : s.Kept (s.writeProfile f cfg) := by
  have hset (v : Vector Profile 8) :
      s.Kept { s with profiles := v, channels := s.channels.map fun x => x.profileChanged f } :=
    { channels := fun c => by
        have h : (s.channels.map fun x => x.profileChanged f)[c] = s.channels[c].profileChanged f :=
          Vector.getElem_map _ c.isLt
        rw [h]
        exact Channel.profileChanged_kept _ _ }
  unfold State.writeProfile
  split
  · exact s.decommission_kept
  · exact (hset _).trans (State.decommission_kept _)

theorem State.setCable_kept (s : State) (k : Fin 16) (x : Cable) : s.Kept (s.setCable k x) := {}

theorem State.releaseCable_kept (s : State) (k : Fin 16) (cfg : CableConfig) : s.Kept (s.releaseCable k cfg) := by
  have hset := (s.removeEntry_kept k .abandoned).trans
    (State.setCable_kept _ k ((s.removeEntry k .abandoned).cables[k].release cfg))
  unfold State.releaseCable
  dsimp only
  split
  · exact hset.trans (State.darkCauses_kept _)
  · exact hset

theorem State.writeCable_kept (s : State) (k : Fin 16) (cfg : CableConfig) : s.Kept (s.writeCable k cfg) := by
  unfold State.writeCable
  split
  · exact (s.setCable_kept k _).trans (State.decommission_kept _)
  · exact (s.releaseCable_kept k cfg).trans (State.decommission_kept _)
  · exact (s.releaseCable_kept k cfg).trans (State.decommission_kept _)
  · exact (s.setCable_kept k _).trans (State.decommission_kept _)
  · exact .rfl

theorem Plan.moved_loaded (old new : Plan) : (Plan.moved old new).loaded = new.loaded := by
  unfold Plan.moved
  split <;> rfl

theorem Stage.moved_owner (old new : Stage) : (Stage.moved old new).owner = new.owner := by
  unfold Stage.moved
  split <;> rfl

/-- A plan is written that is as LOADED as it was (R36). -/
theorem State.setPlan_kept (s : State) (p : Fin 8) (x : Plan) (h : s.plans[p].loaded = true → x.loaded = true) :
    s.Kept (s.setPlan p x) where
  sequenced hs := by
    have hloaded := set_related (R := fun a b => a.loaded = true → b.loaded = true) (fun _ => id) s.plans p h
    exact
      { shaped := hs.shaped
        phase := hs.phase
        pending := hs.pending
        owner := fun d q hq => hloaded q (hs.owner d q hq)
        running := fun q hq => hloaded q (hs.running q hq)
        requested := fun q hq => hloaded q (hs.requested q hq) }

/-- A stage is written that keeps its owner or loses it (R37, R43). -/
theorem State.setStage_kept (s : State) (d : Fin 96) (x : Stage) (h : ∀ p, x.owner = some p → s.stages[d].owner = some
    p) :
    s.Kept (s.setStage d x) where
  sequenced hs := by
    have howner := set_related (R := fun a b => ∀ p, b.owner = some p → a.owner = some p) (fun _ _ => id) s.stages d h
    exact
      { shaped := hs.shaped
        phase := hs.phase
        pending := hs.pending
        owner := fun e p hp => hs.owner e p (howner e p hp)
        running := hs.running
        requested := hs.requested }

theorem State.writePlan_kept (s : State) (p : Fin 8) (cfg : PlanConfig) : s.Kept (s.writePlan p cfg) :=
  s.setPlan_kept p _ fun h => (Plan.moved_loaded _ _).trans h

theorem State.writeStage_kept (s : State) (d : Fin 96) (cfg : StageConfig) : s.Kept (s.writeStage d cfg) :=
  s.setStage_kept d _ fun _ h => by rwa [Stage.moved_owner] at h

theorem State.retireStage_kept (s : State) (d : Fin 96) : s.Kept (s.retireStage d) :=
  s.setStage_kept d _ fun _ h => by
    rw [Stage.moved_owner] at h
    exact absurd h nofun

theorem State.writeSchedule_kept (s : State) (e : Fin 24) (cfg : ScheduleConfig) : s.Kept (s.writeSchedule e cfg) := {}

theorem State.writeDetector_kept (s : State) (d : Fin 16) (cfg : DetectorConfig) : s.Kept (s.writeDetector d cfg) where
  detectors := set_related (fun _ => .rfl) s.detectors d (Detector.configure_kept _ cfg)

theorem State.writeJunction_kept (s : State) (cfg : JunctionConfig) : s.Kept (s.writeJunction cfg) :=
  (s.mapSup_kept _ rfl).trans (State.mapBase_kept _ _)

theorem Stage.disown_owner (d : Stage) (p : Fin 8) : (d.disown p).owner = if d.owner = some p then none else d.owner :=
  by
  unfold Stage.disown
  split
  · exact Stage.moved_owner _ _
  · rfl

theorem Stage.own_owner (d : Stage) (p : Fin 8) : (d.own p).owner = some p := Stage.moved_owner _ _

/-- A plan that does not run is retired: what it owned has no owner (R42). -/
theorem State.retirePlan_kept (s : State) (p : Fin 8) (hp : s.seq.running ≠ some p) : s.Kept (s.retirePlan p) := by
  refine s.workOutRequested_kept_after _ rfl rfl rfl rfl fun h => ?_
  have hother (x : Plan) (q : Fin 8) (hq : q ≠ p) (hl : s.plans[q].loaded = true) :
      ((s.plans.set p x)[q]).loaded = true := by
    rw [set_get, if_neg hq.symm]
    exact hl
  refine State.workOutRequested_sequenced _ h.shaped h.phase (fun d q hq => ?_) fun q hq => ?_
  · have hd : (s.stages.map fun x : Stage => x.disown p)[d].owner = some q := hq
    have hget : (s.stages.map fun x : Stage => x.disown p)[d] = s.stages[d].disown p := Vector.getElem_map _ d.isLt
    rw [hget, Stage.disown_owner] at hd
    split at hd
    · exact absurd hd nofun
    · next hne => exact hother _ q (fun he => hne (he ▸ hd)) (h.owner d q hd)
  · exact hother _ q (fun he => hp (he ▸ hq)) (h.running q hq)

/-- The chain found is put into plan p and its descriptors (R40). -/
def State.chained (s : State) (p : Fin 8) (n : Nat) (passed : List (Fin 96)) : State :=
  { s.setPlan p (Plan.moved s.plans[p] { s.plans[p] with loaded := true, length := n }) with
    stages := Vector.ofFn fun d => if passed.contains d then s.stages[d].own p else s.stages[d] }

theorem State.loadChain_eq (s : State) (p : Fin 8) (n : Nat) (passed : List (Fin 96)) : s.loadChain p n passed =
    if s.plans[p].loaded then s.chained p n passed else (s.chained p n passed).workOutRequested := rfl

theorem State.chained_plan (s : State) (p q : Fin 8) (n : Nat) (passed : List (Fin 96)) :
    (s.chained p n passed).plans[q] =
      if p = q then Plan.moved s.plans[p] { s.plans[p] with loaded := true, length := n } else s.plans[q] :=
  set_get s.plans p q _

theorem State.chained_stage (s : State) (p : Fin 8) (n : Nat) (passed : List (Fin 96)) (d : Fin 96) :
    (s.chained p n passed).stages[d] = if passed.contains d then s.stages[d].own p else s.stages[d] := ofFn_get _ d

theorem State.chained_loaded (s : State) (p q : Fin 8) (n : Nat) (passed : List (Fin 96))
    (h : p = q ∨ s.plans[q].loaded = true) : (s.chained p n passed).plans[q].loaded = true := by
  rw [State.chained_plan]
  split
  · exact Plan.moved_loaded _ _
  · next hq => exact h.resolve_left hq

theorem State.chained_owner {s : State} (h : s.Sequenced) (p : Fin 8) (n : Nat) (passed : List (Fin 96)) (d : Fin 96)
    (q : Fin 8) (hq : (s.chained p n passed).stages[d].owner = some q) :
    (s.chained p n passed).plans[q].loaded = true := by
  refine s.chained_loaded p q n passed ?_
  rw [State.chained_stage] at hq
  split at hq
  · rw [Stage.own_owner] at hq
    exact .inl (Option.some.inj hq)
  · exact .inr (h.owner d q hq)

/-- The chain that closed becomes the plan's: its descriptors are owned by a LOADED plan (R40, R41). -/
theorem State.loadChain_kept (s : State) (p : Fin 8) (n : Nat) (passed : List (Fin 96)) :
    s.Kept (s.loadChain p n passed) := by
  rw [State.loadChain_eq]
  split
  · exact
      { bridge := .rfl
        dim := id
        channels := fun _ => .rfl
        detectors := fun _ => .rfl
        sequenced := fun h =>
          { shaped := h.shaped
            phase := h.phase
            pending := h.pending
            owner := State.chained_owner h p n passed
            running := fun q hq => s.chained_loaded p q n passed (.inr (h.running q hq))
            requested := fun q hq => s.chained_loaded p q n passed (.inr (h.requested q hq)) } }
  · exact s.workOutRequested_kept_after _ rfl rfl rfl rfl fun h =>
      State.workOutRequested_sequenced _ h.shaped h.phase (State.chained_owner h p n passed) fun q hq =>
        s.chained_loaded p q n passed (.inr (h.running q hq))

/-! ## The ends of commands in flight, and the junction commands (R40, R48, R51, R148, R151, R164, R165) -/

theorem State.mapLink_kept (s : State) (f : Link → Link) : s.Kept (s.mapLink f) := {}

theorem State.landInvalid_kept (s : State) (c : Call) (f : Failure) : s.Kept (s.landInvalid c f) :=
  s.mapLink_kept fun l => { l with inFlight := none, slot := (s.invalid c f.record f.check f.extra).response }

theorem State.finishLoad_kept (s : State) (f : InFlight) (p : Fin 8) : s.Kept (s.finishLoad f p) := by
  unfold State.finishLoad
  split
  · exact s.landInvalid_kept _ _
  · exact (event_kept (s.loadChain_kept p _ _)).trans (State.mapLink_kept _ _)

theorem State.commission_kept (s : State) : s.Kept s.commission := by
  unfold State.commission
  split
  · exact s.changeMode_kept _ _ nofun
  · exact .rfl

theorem State.finishCommit_kept (s : State) (f : InFlight) : s.Kept (s.finishCommit f) := by
  unfold State.finishCommit
  split
  · exact s.landInvalid_kept _ _
  · exact (event_kept s.commission_kept).trans ((State.workOutEntry_kept _).trans (State.mapLink_kept _ _))

theorem State.selectOverride_kept (s : State) (p : Fin 8) : s.Kept (s.selectOverride p) :=
  (s.mapSched_kept _ rfl rfl rfl).trans (State.workOutRequested_kept _)

theorem State.selectFollow_kept (s : State) : s.Kept s.selectFollow :=
  (s.mapSched_kept _ rfl rfl rfl).trans (State.workOutRequested_kept _)

theorem State.takeStart_kept (s : State) : s.Kept s.takeStart :=
  (event_kept s.beginStart_kept).trans (event_kept (State.refresh_kept _))

theorem State.takeStop_kept (s : State) : s.Kept s.takeStop :=
  (s.changeMode_kept .standby .plan nofun).trans (State.refresh_kept _)

theorem State.takeDark_kept (s : State) : s.Kept s.takeDark :=
  (s.changeMode_kept .dark .plan nofun).trans (State.refresh_kept _)

theorem State.setTime_kept (s : State) (t : TimeOfDay) : s.Kept (s.setTime t) :=
  (event_kept (s.mapBase_kept _)).trans (State.workOutEntry_kept _)

theorem State.setDim_kept (s : State) (d : DimOverride) : s.Kept (s.setDim d) :=
  (s.mapSched_kept _ rfl rfl rfl).trans (State.workOutDimming_kept _)

theorem State.requestAll_kept (s : State) (rs : List TestRequest) : s.Kept (s.requestAll rs) :=
  foldl_kept State.request_kept rs s

theorem State.clearChannel_kept (s : State) (x : Fin 64) : s.Kept (s.clearChannel x) := by
  have hput : s.Kept (s.putChannel x { s.channels[x] with verdict := none, badStreak := 0, worst := none }) :=
    s.putChannel_kept x _ (Channel.kept_of_ended rfl rfl rfl rfl)
  unfold State.clearChannel
  dsimp only
  split
  · exact hput
  · exact hput.trans (State.verdictChanged_kept _)

theorem State.clearCable_kept (s : State) (k : Fin 16) : s.Kept (s.clearCable k) := by
  unfold State.clearCable
  dsimp only
  split
  · exact .rfl
  · exact (s.setCable_kept k _).trans (State.request_kept _ _)
  · exact (s.setCable_kept k _).trans ((State.darkCauses_kept _).trans (State.request_kept _ _))

theorem State.clearJunction_kept (s : State) : s.Kept s.clearJunction where
  bridge := Bridge.kept_clear
  sequenced h := h.congr rfl rfl rfl rfl rfl

theorem State.mainReset_kept (s : State) : s.Kept s.mainReset where
  bridge := ⟨fun _ => List.nodup_nil, fun _ => Bridge.tests_of_none rfl nofun nofun rfl rfl nofun⟩
  dim _ := rfl
  channels c _ := by
    rw [show s.mainReset.channels[c] = Channel.reset from Vector.getElem_replicate c.isLt]
    exact ⟨iff_of_true rfl rfl, rfl⟩
  detectors d _ _ := by
    rw [show s.mainReset.detectors[d] = Detector.reset from Vector.getElem_replicate d.isLt]
    exact ⟨rfl, rfl, rfl, rfl, rfl⟩
  sequenced _ :=
    { shaped := ⟨rfl, iff_of_false nofun nofun, nofun, nofun, fun _ => ⟨rfl, rfl⟩⟩
      phase := nofun
      pending := rfl
      owner := fun d p h => by
        rw [show s.mainReset.stages[d] = Stage.reset from Vector.getElem_replicate d.isLt] at h
        exact absurd h nofun
      running := nofun
      requested := nofun }

end Sys2Proof.Machine
end

section
/-! What every command keeps: the shared steps of a frame, each row of the dispatch, and the three invariants of the
records. -/

namespace Sys2Proof.Machine

/-! ## The shared steps of a frame (R182, R183) -/

/-- What a reply leaves keeps what holds of the state it was made in. -/
def Reply.Kept (r : Reply) (s : State) : Prop := s.Kept r.state

theorem State.setSlot_kept (s : State) (r : Response) : s.Kept (s.setSlot r) := s.mapLink_kept fun l => { l with slot :=
  r }

theorem State.mapAttn_kept (s : State) (f : Attention → Attention) : s.Kept (s.mapAttn f) := {}

/-- A reply that touches the attention unit only. -/
theorem State.attention_reply_kept (s : State) (f : Attention → Attention) (r : Response) :
    ({ state := s.mapAttn f, response := r } : Reply).Kept s := s.mapAttn_kept f

theorem State.refuse_kept (s : State) (c : Call) (named : Option RecordName) (st : Status) :
    (s.refuse c named st).Kept s := State.Kept.rfl

theorem State.invalid_kept (s : State) (c : Call) (r : RecordName) (k : Check) (extra : Nat) :
    (s.invalid c r k extra).Kept s := State.Kept.rfl

theorem State.inFlightReply_kept (s : State) (c : Call) (named : Option RecordName) (w : Work) :
    (s.inFlightReply c named w).Kept s :=
  s.mapLink_kept fun l => { l with inFlight := some { work := w, table := c.header.table, index := c.header.index } }

theorem event_returns_kept {s : State} {f : State → State} (c : Call) (st : Status) (r : RecordName)
    (h : s.Kept (f s)) : ((event f s).returns c st r).Kept s := event_kept h

theorem event_returnsJunction_kept {s : State} {f : State → State} (c : Call) (h : s.Kept (f s)) :
    ((event f s).returnsJunction c).Kept s := event_kept h

theorem State.returnsJunction_kept {s u : State} (c : Call) (h : s.Kept u) : (u.returnsJunction c).Kept s := h

theorem State.forRecord_kept {n : Nat} (s : State) (c : Call) (t : Table) (work : Fin n → Reply)
    (h : ∀ i, (work i).Kept s) : (s.forRecord c t n work).Kept s := by
  unfold State.forRecord
  split
  · split
    · exact s.refuse_kept c _ _
    · exact h _
  · exact s.refuse_kept c _ _

theorem State.gated_kept (s : State) (c : Call) (named : Option RecordName) (maintenance : Bool)
    (modes : Mode → Bool) (work : Reply) (h : work.Kept s) : (s.gated c named maintenance modes work).Kept s := by
  unfold State.gated
  repeat' split
  · exact s.refuse_kept c _ _
  · exact h
  · exact s.refuse_kept c _ _

theorem State.unlessStale_kept (s : State) (c : Call) (r : RecordName) (work : Reply) (h : work.Kept s) :
    (s.unlessStale c r work).Kept s := by
  unfold State.unlessStale
  repeat' split
  · exact h
  · exact h
  · exact State.Kept.rfl

theorem State.noPayload_kept (s : State) (c : Call) (named : Option RecordName) (payload : List Byte) (work : Reply)
    (h : work.Kept s) : (s.noPayload c named payload work).Kept s := by
  unfold State.noPayload
  split
  · exact h
  · exact s.refuse_kept c _ _

theorem State.whenPowered_kept (s : State) (f : State → State) (h : s.Kept (f s)) : s.Kept (s.whenPowered f) := by
  unfold State.whenPowered
  split
  · exact h
  · exact .rfl

/-- A step is asked to keep what holds only where it is due. -/
theorem State.stepWhen_kept (s : State) (due : State → Bool) (f : State → State) (h : due s = true → s.Kept (f s)) :
    s.Kept (s.stepWhen due f) := by
  refine s.whenPowered_kept _ ?_
  split
  · next hdue => exact event_kept (h hdue)
  · exact .rfl

theorem State.runFrame_kept (s : State) (c : Call) (named : Option RecordName) (work : State → Reply)
    (h : ∀ u, (work u).Kept u) : s.Kept (s.runFrame c named work) := by
  refine s.whenPowered_kept _ ?_
  have hshift : s.Kept (s.shiftOut c.header.clocked) :=
    s.mapLink_kept fun l => { l with sdo := l.slot.shifted c.header.clocked }
  refine hshift.trans (State.Kept.trans ?_ (State.setSlot_kept _ _))
  split
  · exact .rfl
  · exact h _

theorem State.write_kept (s : State) (h : Header) (t : Table) (n : Nat) (maintenance : Bool)
    (modes : Mode → Bool) (work : State → Fin n → Call → Reply) (hw : ∀ u i c, (work u i c).Kept u) :
    s.Kept (s.write h t n maintenance modes work) :=
  s.runFrame_kept _ _ _ fun _ => State.forRecord_kept _ _ _ _ fun i =>
    State.gated_kept _ _ _ _ _ _ <| State.unlessStale_kept _ _ _ _ <| hw _ i _

theorem State.onRecord_kept (s : State) (code : Byte) (h : Header) (payload : List Byte) (t : Table) (n : Nat)
    (maintenance : Bool) (work : State → Fin n → Call → Reply) (hw : ∀ u i c, (work u i c).Kept u) :
    s.Kept (s.onRecord code h payload t n maintenance work) :=
  s.runFrame_kept _ _ _ fun _ => State.forRecord_kept _ _ _ _ fun i =>
    State.gated_kept _ _ _ _ _ _ <| State.noPayload_kept _ _ _ _ _ <| hw _ i _

theorem State.onJunction_kept (s : State) (code : Byte) (h : Header) (maintenance : Bool)
    (modes : Mode → Bool) (work : State → Call → Reply) (hw : ∀ u c, (work u c).Kept u) :
    s.Kept (s.onJunction code h maintenance modes work) :=
  s.runFrame_kept _ _ _ fun _ => State.gated_kept _ _ _ _ _ _ <| hw _ _

/-! ## The replies that decide by more than one condition -/

theorem State.readReply_kept (s : State) (c : Call) (payload : List Byte) : (s.readReply c payload).Kept s := by
  unfold State.readReply
  split
  · exact s.refuse_kept c _ _
  · split
    · exact s.noPayload_kept c _ _ _ State.Kept.rfl
    · exact s.refuse_kept c _ _

theorem State.startReply_kept (s : State) (c : Call) (payload : List Byte) : (s.startReply c payload).Kept s := by
  unfold State.startReply
  split
  · exact s.refuse_kept c _ _
  · refine s.noPayload_kept c _ _ _ ?_
    split
    · exact State.returnsJunction_kept c s.takeStart_kept
    · exact s.refuse_kept c _ _

theorem State.setDimReply_kept (s : State) (c : Call) (payload : List Byte) (d : DimOverride) :
    (s.setDimReply c payload d).Kept s := by
  unfold State.setDimReply
  split
  · exact event_returnsJunction_kept c (s.setDim_kept d)
  · exact s.refuse_kept c _ _

theorem State.attendReply_kept (s : State) (c : Call) : (s.attendReply c).Kept s := by
  unfold State.attendReply
  split
  · exact State.Kept.rfl
  · exact s.attention_reply_kept _ _

theorem State.ackReply_kept (s : State) (c : Call) (payload : List Byte) : (s.ackReply c payload).Kept s := by
  unfold State.ackReply
  split
  · split
    · exact s.refuse_kept c _ _
    · split
      · exact s.refuse_kept c _ _
      · split
        · dsimp only
          split
          · exact s.attention_reply_kept _ _
          · exact s.refuse_kept c _ _
        · exact s.refuse_kept c _ _
  · exact s.refuse_kept c _ _

theorem State.releaseReply_kept (s : State) (c : Call) : (s.releaseReply c).Kept s := by
  unfold State.releaseReply
  split
  · exact s.refuse_kept c _ _
  · exact s.attention_reply_kept _ _

theorem State.maskReply_kept (s : State) (c : Call) (payload : List Byte) (form : Byte) (m : Bool) :
    (s.maskReply c payload form m).Kept s := by
  unfold State.maskReply
  split
  · split
    · exact s.refuse_kept c _ _
    · split
      · exact s.attention_reply_kept _ _
      · exact s.refuse_kept c _ _
  · exact s.refuse_kept c _ _

/-! ## The commands -/

/-- The command is executed, and what holds of the records stays. -/
def KeepsRecords (c : Instr) (s : State) : Prop := ∃ u, exec c s = .next u ∧ s.Kept u

/-- A junction command without payload whose work is one event. -/
theorem State.noPayload_event_kept (s : State) (c : Call) (payload : List Byte) (f : State → State)
    (h : s.Kept (f s)) : (s.noPayload c none payload ((event f s).returnsJunction c)).Kept s :=
  s.noPayload_kept c _ _ _ (event_kept h)

theorem writeGroup_keepsRecords (s : State) (h : Header) (payload : List Byte) :
    KeepsRecords (.writeGroup h payload) s := by
  refine ⟨_, rfl, s.write_kept h _ _ _ _ _ fun u g c => ?_⟩
  split
  · exact u.refuse_kept c _ _
  · exact event_returns_kept c _ _ (u.writeGroup_kept g _)

theorem writeConflict_keepsRecords (s : State) (h : Header) (payload : List Byte) :
    KeepsRecords (.writeConflict h payload) s := by
  refine ⟨_, rfl, s.write_kept h _ _ _ _ _ fun u i c => ?_⟩
  split
  · exact u.refuse_kept c _ _
  · exact event_returns_kept c _ _ (u.writeConflict_kept i _)

theorem writeChannel_keepsRecords (s : State) (h : Header) (payload : List Byte) :
    KeepsRecords (.writeChannel h payload) s := by
  refine ⟨_, rfl, s.write_kept h _ _ _ _ _ fun u x c => ?_⟩
  split
  · exact u.refuse_kept c _ _
  · split
    · exact u.invalid_kept c _ _ _
    · exact event_returns_kept c _ _ (u.writeChannel_kept x _)

theorem writeProfile_keepsRecords (s : State) (h : Header) (payload : List Byte) :
    KeepsRecords (.writeProfile h payload) s := by
  refine ⟨_, rfl, s.write_kept h _ _ _ _ _ fun u f c => ?_⟩
  split
  · exact u.refuse_kept c _ _
  · exact event_returns_kept c _ _ (u.writeProfile_kept f _)

theorem writeCable_keepsRecords (s : State) (h : Header) (payload : List Byte) :
    KeepsRecords (.writeCable h payload) s := by
  refine ⟨_, rfl, s.write_kept h _ _ _ _ _ fun u k c => ?_⟩
  split
  · exact u.refuse_kept c _ _
  · exact event_returns_kept c _ _ (u.writeCable_kept k _)

theorem writePlan_keepsRecords (s : State) (h : Header) (payload : List Byte) :
    KeepsRecords (.writePlan h payload) s := by
  refine ⟨_, rfl, s.write_kept h _ _ _ _ _ fun u p c => ?_⟩
  split
  · exact u.refuse_kept c _ _
  · split
    · exact u.refuse_kept c _ _
    · exact u.writePlan_kept p _

theorem writeStage_keepsRecords (s : State) (h : Header) (payload : List Byte) :
    KeepsRecords (.writeStage h payload) s := by
  refine ⟨_, rfl, s.write_kept h _ _ _ _ _ fun u d c => ?_⟩
  split
  · exact u.refuse_kept c _ _
  · split
    · exact u.refuse_kept c _ _
    · exact u.writeStage_kept d _

theorem writeSchedule_keepsRecords (s : State) (h : Header) (payload : List Byte) :
    KeepsRecords (.writeSchedule h payload) s := by
  refine ⟨_, rfl, s.write_kept h _ _ _ _ _ fun u e c => ?_⟩
  split
  · exact u.refuse_kept c _ _
  · exact u.writeSchedule_kept e _

theorem writeDetector_keepsRecords (s : State) (h : Header) (payload : List Byte) :
    KeepsRecords (.writeDetector h payload) s := by
  refine ⟨_, rfl, s.write_kept h _ _ _ _ _ fun u d c => ?_⟩
  split
  · exact u.refuse_kept c _ _
  · exact u.writeDetector_kept d _

theorem writeJunction_keepsRecords (s : State) (h : Header) (payload : List Byte) :
    KeepsRecords (.writeJunction h payload) s := by
  refine ⟨_, rfl, s.write_kept h _ _ _ _ _ fun u _ c => ?_⟩
  split
  · exact u.refuse_kept c _ _
  · exact event_returns_kept c _ _ (u.writeJunction_kept _)

/-- A plan in use is not retired (R42). -/
theorem State.running_ne_of_not_inUse {s : State} {p : Fin 8} (h : ¬ s.planInUse p = true) : s.seq.running ≠ some p :=
  fun hp => h (Bool.or_eq_true_iff.2 (.inl (beq_iff_eq.2 hp)))

theorem retirePlan_keepsRecords (s : State) (h : Header) (payload : List Byte) :
    KeepsRecords (.retirePlan h payload) s := by
  refine ⟨_, rfl, s.onRecord_kept _ h _ _ _ _ _ fun u p c => ?_⟩
  split
  · exact u.refuse_kept c _ _
  · next hfree =>
    repeat' split
    · exact u.refuse_kept c _ _
    · exact event_returns_kept c _ _ (u.retirePlan_kept p (State.running_ne_of_not_inUse hfree))
    · exact State.Kept.rfl

theorem retireStage_keepsRecords (s : State) (h : Header) (payload : List Byte) :
    KeepsRecords (.retireStage h payload) s := by
  refine ⟨_, rfl, s.onRecord_kept _ h _ _ _ _ _ fun u d c => ?_⟩
  split
  · exact u.refuse_kept c _ _
  · exact u.retireStage_kept d

theorem loadPlan_keepsRecords (s : State) (h : Header) (payload : List Byte) :
    KeepsRecords (.loadPlan h payload) s := by
  refine ⟨_, rfl, s.onRecord_kept _ h _ _ _ _ _ fun u p c => ?_⟩
  split
  · exact u.refuse_kept c _ _
  · exact u.inFlightReply_kept c _ _

theorem loadPlanComplete_keepsRecords (s : State) : KeepsRecords .loadPlanComplete s := by
  refine ⟨_, rfl, s.whenPowered_kept _ ?_⟩
  split
  · exact .rfl
  · split
    · exact .rfl
    · exact s.finishLoad_kept _ _

theorem commitComplete_keepsRecords (s : State) : KeepsRecords .commitComplete s := by
  refine ⟨_, rfl, s.whenPowered_kept _ ?_⟩
  split
  · exact .rfl
  · split
    · exact s.finishCommit_kept _
    · exact .rfl

theorem selectPlanOverride_keepsRecords (s : State) (h : Header) (payload : List Byte) :
    KeepsRecords (.selectPlanOverride h payload) s := by
  refine ⟨_, rfl, s.onJunction_kept _ h _ _ _ fun u c => ?_⟩
  repeat' split
  · exact u.refuse_kept c _ _
  · exact event_returnsJunction_kept c (u.selectOverride_kept _)
  · exact u.invalid_kept c _ _ _
  · exact u.refuse_kept c _ _

theorem selectPlanFollow_keepsRecords (s : State) (h : Header) (payload : List Byte) :
    KeepsRecords (.selectPlanFollow h payload) s := by
  refine ⟨_, rfl, s.onJunction_kept _ h _ _ _ fun u c => ?_⟩
  split
  · exact event_returnsJunction_kept c u.selectFollow_kept
  · exact u.refuse_kept c _ _

theorem setTime_keepsRecords (s : State) (h : Header) (payload : List Byte) :
    KeepsRecords (.setTime h payload) s := by
  refine ⟨_, rfl, s.onJunction_kept _ h _ _ _ fun u c => ?_⟩
  split
  · exact u.refuse_kept c _ _
  · exact u.setTime_kept _

theorem testCables_keepsRecords (s : State) (h : Header) (payload : List Byte) :
    KeepsRecords (.testCables h payload) s := by
  refine ⟨_, rfl, s.onJunction_kept _ h _ _ _ fun u c => ?_⟩
  split
  · exact u.refuse_kept c _ _
  · exact event_kept (f := fun v => v.requestAll _) (u.requestAll_kept _)

theorem poll_keepsRecords (s : State) (h : Header) (payload : List Byte) : KeepsRecords (.poll h payload) s := by
  refine ⟨_, rfl, s.whenPowered_kept _ ?_⟩
  split
  · exact s.mapLink_kept _
  · exact (s.mapLink_kept _).trans (State.setSlot_kept _ _)

theorem lockAcquired_keepsRecords (s : State) (x : CrossingInput) : KeepsRecords (.lockAcquired x) s := by
  refine ⟨_, rfl, s.whenPowered_kept _ ?_⟩
  split
  · exact s.zeroCrossing_kept x
  · exact .rfl

theorem retentionLoss_keepsRecords (s : State) : KeepsRecords .retentionLoss s := by
  refine ⟨_, rfl, ?_⟩
  split
  · exact .rfl
  · exact s.mapBase_kept _

theorem retentionTenth_keepsRecords (s : State) : KeepsRecords .retentionTenth s := by
  refine ⟨_, rfl, ?_⟩
  split
  · exact .rfl
  · exact s.mapBase_kept _

theorem tenthTick_keepsRecords (s : State) (source : TenthSource) (i : TenthInput) :
    KeepsRecords (.tenthTick source i) s := by
  refine ⟨_, rfl, s.whenPowered_kept _ ?_⟩
  cases source with
  | crystal => exact s.crystalTenth_kept i
  | cycles => exact s.cascadeTenth_kept i

/-- A phase and its count are no part of what is kept. -/
theorem Channel.setPhase_kept (c : Channel) (p : Phase) (n : Nat) : c.Kept (c.setPhase p n) :=
  fun h => ⟨h.streak, h.dim⟩

theorem Channel.enterSettle_kept (c : Channel) (f : ProfileConfig) : c.Kept (c.enterSettle f) := by
  unfold Channel.enterSettle
  split
  · exact c.setPhase_kept _ _
  · exact c.setPhase_kept _ _

theorem State.setChannel_kept (s : State) (c : Fin 64) (x : Channel) (h : (s.channels[c]).Kept x) :
    s.Kept (s.setChannel c x) where
  channels := set_related (fun _ => .rfl) s.channels c h

theorem State.confirmOpen_kept (s : State) (k : Fin 16) : s.Kept (s.confirmOpen k) :=
  (s.setCable_kept k _).trans (State.confirmFault_kept _ _ _)

theorem State.confirmBalance_kept (s : State) (k : Fin 16) : s.Kept (s.confirmBalance k) :=
  (s.setCable_kept k _).trans (State.confirmFault_kept _ _ _)

/-- Every command, row by row of the dispatch, keeps what holds of the records. -/
theorem exec_keepsRecords (c : Instr) (s : State) : KeepsRecords c s := by
  cases c with
  | read h payload => exact ⟨_, rfl, s.runFrame_kept _ _ _ fun u => u.readReply_kept _ payload⟩
  | writeGroup h payload => exact writeGroup_keepsRecords s h payload
  | writeConflict h payload => exact writeConflict_keepsRecords s h payload
  | writeChannel h payload => exact writeChannel_keepsRecords s h payload
  | writeProfile h payload => exact writeProfile_keepsRecords s h payload
  | writeCable h payload => exact writeCable_keepsRecords s h payload
  | writePlan h payload => exact writePlan_keepsRecords s h payload
  | writeStage h payload => exact writeStage_keepsRecords s h payload
  | writeSchedule h payload => exact writeSchedule_keepsRecords s h payload
  | writeDetector h payload => exact writeDetector_keepsRecords s h payload
  | writeJunction h payload => exact writeJunction_keepsRecords s h payload
  | retirePlan h payload => exact retirePlan_keepsRecords s h payload
  | retireStage h payload => exact retireStage_keepsRecords s h payload
  | retireSchedule h payload =>
    exact ⟨_, rfl, s.onRecord_kept _ h _ _ _ _ _ fun u e _ => u.writeSchedule_kept e _⟩
  | poll h payload => exact poll_keepsRecords s h payload
  | linkError received =>
    exact ⟨_, rfl, s.whenPowered_kept _ ((s.mapLink_kept _).trans (State.setSlot_kept _ _))⟩
  | unknown code h payload => exact ⟨_, rfl, s.runFrame_kept _ _ _ fun u => u.refuse_kept _ _ _⟩
  | commit h payload =>
    exact ⟨_, rfl, s.onJunction_kept _ h _ _ _ fun u c => u.noPayload_kept c _ _ _ (u.inFlightReply_kept c _ _)⟩
  | commitComplete => exact commitComplete_keepsRecords s
  | loadPlan h payload => exact loadPlan_keepsRecords s h payload
  | loadPlanComplete => exact loadPlanComplete_keepsRecords s
  | start h payload => exact ⟨_, rfl, s.onJunction_kept _ h _ _ _ fun u c => u.startReply_kept c payload⟩
  | stop h payload =>
    exact ⟨_, rfl, s.onJunction_kept _ h _ _ _ fun u c => u.noPayload_event_kept c payload _ u.takeStop_kept⟩
  | dark h payload =>
    exact ⟨_, rfl, s.onJunction_kept _ h _ _ _ fun u c => u.noPayload_event_kept c payload _ u.takeDark_kept⟩
  | restart h payload => exact ⟨_, rfl, s.onJunction_kept _ h _ _ _ fun u c => u.startReply_kept c payload⟩
  | forceFailsafe h payload =>
    exact ⟨_, rfl, s.onJunction_kept _ h _ _ _ fun u c => u.noPayload_event_kept c payload _ u.forceRaise_kept⟩
  | selectPlanOverride h payload => exact selectPlanOverride_keepsRecords s h payload
  | selectPlanFollow h payload => exact selectPlanFollow_keepsRecords s h payload
  | setTime h payload => exact setTime_keepsRecords s h payload
  | setDimFollow h payload => exact ⟨_, rfl, s.onJunction_kept _ h _ _ _ fun u c => u.setDimReply_kept c payload _⟩
  | setDimBright h payload => exact ⟨_, rfl, s.onJunction_kept _ h _ _ _ fun u c => u.setDimReply_kept c payload _⟩
  | setDimDim h payload => exact ⟨_, rfl, s.onJunction_kept _ h _ _ _ fun u c => u.setDimReply_kept c payload _⟩
  | testCables h payload => exact testCables_keepsRecords s h payload
  | relearn h payload =>
    exact ⟨_, rfl, s.onRecord_kept _ h _ _ _ _ _ fun u x _ => u.putChannel_kept x _ (Channel.relearn_kept _)⟩
  | clearFaultChannel h payload =>
    exact ⟨_, rfl, s.onRecord_kept _ h _ _ _ _ _ fun u x _ => event_returns_kept _ _ _ (u.clearChannel_kept x)⟩
  | clearFaultCable h payload =>
    exact ⟨_, rfl, s.onRecord_kept _ h _ _ _ _ _ fun u k _ => event_returns_kept _ _ _ (u.clearCable_kept k)⟩
  | clearFaultJunction h payload =>
    exact ⟨_, rfl, s.onRecord_kept _ h _ _ _ _ _ fun u _ _ => event_returns_kept _ _ _ u.clearJunction_kept⟩
  | probe h payload => exact ⟨_, rfl, s.onRecord_kept _ h _ _ _ _ _ fun _ _ _ => State.Kept.rfl⟩
  | attend h payload =>
    exact ⟨_, rfl, s.onJunction_kept _ h _ _ _ fun u c => u.noPayload_kept c _ _ _ (u.attendReply_kept c)⟩
  | ack h payload => exact ⟨_, rfl, s.runFrame_kept _ _ _ fun u => u.ackReply_kept _ payload⟩
  | release h payload =>
    exact ⟨_, rfl, s.onJunction_kept _ h _ _ _ fun u c => u.noPayload_kept c _ _ _ (u.releaseReply_kept c)⟩
  | maskSet h payload => exact ⟨_, rfl, s.onJunction_kept _ h _ _ _ fun u c => u.maskReply_kept c payload _ _⟩
  | maskClear h payload => exact ⟨_, rfl, s.onJunction_kept _ h _ _ _ fun u c => u.maskReply_kept c payload _ _⟩
  | mkeyChange active => exact ⟨_, rfl, s.mapLink_kept _⟩
  | mainReset => exact ⟨_, rfl, s.mainReset_kept⟩
  | retentionLoss => exact retentionLoss_keepsRecords s
  | mainPowerLoss => exact ⟨_, rfl, s.whenPowered_kept _ (s.mapBase_kept _)⟩
  | retentionTenth => exact retentionTenth_keepsRecords s
  | zeroCrossing x => exact ⟨_, rfl, s.whenPowered_kept _ (s.zeroCrossing_kept x)⟩
  | lockAcquired x => exact lockAcquired_keepsRecords s x
  | firstWindowExpiry input => exact ⟨_, rfl, s.whenPowered_kept _ (s.firstWindow_kept input)⟩
  | secondWindowExpiry => exact ⟨_, rfl, s.whenPowered_kept _ s.secondWindow_kept⟩
  | learnComplete c => exact ⟨_, rfl, s.stepWhen_kept _ _ fun _ => s.completeLearning_kept c⟩
  | streakConfirm c => exact ⟨_, rfl, s.stepWhen_kept _ _ fun _ => s.confirmStreak_kept c⟩
  | surgeEnd c => exact ⟨_, rfl, s.stepWhen_kept _ _ fun _ => s.setChannel_kept c _ (Channel.enterSettle_kept _ _)⟩
  | settleEnd c => exact ⟨_, rfl, s.stepWhen_kept _ _ fun _ => s.setChannel_kept c _ (Channel.setPhase_kept _ _ _)⟩
  | releaseEnd c => exact ⟨_, rfl, s.stepWhen_kept _ _ fun _ => s.setChannel_kept c _ (Channel.setPhase_kept _ _ _)⟩
  | dimSettleEnd => exact ⟨_, rfl, s.stepWhen_kept _ _ fun _ => s.settleTick_kept⟩
  | openReturnConfirm k => exact ⟨_, rfl, s.stepWhen_kept _ _ fun _ => s.confirmOpen_kept k⟩
  | balanceConfirm k => exact ⟨_, rfl, s.stepWhen_kept _ _ fun _ => s.confirmBalance_kept k⟩
  | provenConflict a b => exact ⟨_, rfl, s.stepWhen_kept _ _ fun _ => s.provenConflict_kept a b⟩
  | tenthTick source input => exact tenthTick_keepsRecords s source input
  | leavingEnd g => exact ⟨_, rfl, s.stepWhen_kept _ _ fun _ => s.stepOne_kept g⟩
  | prepStart g => exact ⟨_, rfl, s.stepWhen_kept _ _ fun _ => s.stepOne_kept g⟩
  | greenStart g => exact ⟨_, rfl, s.stepWhen_kept _ _ fun _ => s.stepOne_kept g⟩
  | minGreenEnd =>
    exact ⟨_, rfl, s.stepWhen_kept _ _ fun hdue => s.endMinGreen_kept (Bool.and_eq_true_iff.1 hdue).2⟩
  | maxOut => exact ⟨_, rfl, s.stepWhen_kept _ _ fun _ => s.leaveStage_kept⟩
  | gapOut => exact ⟨_, rfl, s.stepWhen_kept _ _ fun _ => s.leaveStage_kept⟩
  | detectorFaulty d => exact ⟨_, rfl, s.stepWhen_kept _ _ fun hdue => s.detectorFaulty_kept d hdue⟩
  | testStart bref => exact ⟨_, rfl, s.stepWhen_kept _ _ fun _ => s.arbitrate_kept bref⟩
  | chargeEnd =>
    exact ⟨_, rfl, s.stepWhen_kept _ _ fun hdue => s.chargeEnd_kept (eq_of_beq (Bool.and_eq_true_iff.1 hdue).1)⟩
  | testComplete bmeas => exact ⟨_, rfl, s.stepWhen_kept _ _ fun _ => s.completeTest_kept bmeas⟩
  | testTimeout k => exact ⟨_, rfl, s.stepWhen_kept _ _ fun _ => s.removeEntry_kept k _⟩
  | darkTestEnd => exact ⟨_, rfl, s.stepWhen_kept _ _ fun _ => s.beginAllRed_kept⟩
  | darkTestLimit => exact ⟨_, rfl, s.stepWhen_kept _ _ fun _ => s.limitDarkTest_kept⟩
  | allRedEnd => exact ⟨_, rfl, s.stepWhen_kept _ _ fun hdue => s.enterPlan_kept (State.allRedOver_phase hdue)⟩
  | samplePosition frame => exact ⟨_, rfl, s.whenPowered_kept _ {}⟩

/-- A step idles on an empty queue, and else executes the command at its front. -/
theorem step_kept {s t : State} (h : step s = .next t) : s.Kept t := by
  unfold step at h
  split at h
  · obtain rfl : s = t := Host.Outcome.next.inj h
    exact .rfl
  · next c rest _ =>
    obtain ⟨u, hu, hkept⟩ := exec_keepsRecords c (s.withPending rest)
    obtain rfl : u = t := Host.Outcome.next.inj (hu.symm.trans h)
    have htaken : s.Kept (s.withPending rest) := {}
    exact htaken.trans hkept

/-- Settles O58: a step keeps the test queue, DIM, the channels, the detectors, the bridge and the sequencer as the
three invariants have them, because every block's operation does. -/
theorem recordsKept : Obligations.RecordsKept := by
  unfold Obligations.RecordsKept
  intro s t hstep
  have h := step_kept hstep
  refine ⟨fun ⟨hqueue, hdim, hstreaks, hparts, hdetectors⟩ => ?_, fun ⟨hqueue, hbridge⟩ => ?_, fun hs => ?_⟩
  · have hchannels := s.channelsRight_iff.1 ⟨hstreaks, hparts⟩
    obtain ⟨hstreaks', hparts'⟩ := t.channelsRight_iff.2 fun c => h.channels c (hchannels c)
    exact ⟨h.bridge.single hqueue, h.dim hdim, hstreaks', hparts',
      t.detectorsRight_iff.2 fun d => h.detectors d (s.detectorsRight_iff.1 hdetectors d)⟩
  · exact ⟨t.queueRight_iff.2 (h.bridge.single (s.queueRight_iff.1 hqueue)), t.bridgeRight_iff.2 (h.bridge.tests
    (s.bridgeRight_iff.1 hbridge))⟩
  · exact t.sequenced_iff.2 (h.sequenced (s.sequenced_iff.1 hs))

end Sys2Proof.Machine
end

section
/-! WRITE of a PLAN, a STAGE, a SCHEDULE and a DETECTOR record, and RETIRE of a STAGE and a SCHEDULE record (R36 to R38,
R43, R45, R78). -/

namespace Sys2Proof.Machine

/-! ## A command without maintenance authority, taken in every mode -/

section Frame

variable {n : Nat} (s t : State) (h : Header) (tb : Table) (i : Fin n) (work : State → Fin n → Call → Reply) (st :
  Status)

/-- A WRITE whose work answers with the record. -/
theorem State.write_everyMode_answers (hr : s.ready) (hn : h.names tb i.val) (hf : s.revisionMatches h (nameOf tb
    i.val))
    (hw : work (s.shiftOut h.clocked) i { code := 2, header := h } =
      t.returns { code := 2, header := h } st (nameOf tb i.val)) :
    s.write h tb n false Mode.every work = t.returning h 2 st (nameOf tb i.val) := by
  rw [s.write_taken h tb i false Mode.every work hr hn nofun rfl hf, hw]
  rfl

/-- A WRITE that its work refuses. -/
theorem State.write_everyMode_refuses (hr : s.ready) (hn : h.names tb i.val) (hf : s.revisionMatches h (nameOf tb
    i.val))
    (hw : work (s.shiftOut h.clocked) i { code := 2, header := h } =
      (s.shiftOut h.clocked).refuse { code := 2, header := h } (some (nameOf tb i.val)) st) :
    s.write h tb n false Mode.every work = s.refusing h 2 st (s.recordRev (nameOf tb i.val)) := by
  rw [s.write_taken h tb i false Mode.every work hr hn nofun rfl hf, hw, ← s.recordRev_shiftOut h.clocked]
  rfl

/-- A command on a record whose work answers with the record. -/
theorem State.onRecord_free_answers (code : Byte) (hr : s.ready) (hn : h.names tb i.val)
    (hw : work (s.shiftOut h.clocked) i { code := code, header := h } =
      t.returns { code := code, header := h } st (nameOf tb i.val)) :
    s.onRecord code h [] tb n false work = t.returning h code st (nameOf tb i.val) := by
  rw [s.onRecord_taken code h tb i false work hr hn nofun, hw]
  rfl

/-- A command on a record that its work refuses. -/
theorem State.onRecord_free_refuses (code : Byte) (hr : s.ready) (hn : h.names tb i.val)
    (hw : work (s.shiftOut h.clocked) i { code := code, header := h } =
      (s.shiftOut h.clocked).refuse { code := code, header := h } (some (nameOf tb i.val)) st) :
    s.onRecord code h [] tb n false work = s.refusing h code st (s.recordRev (nameOf tb i.val)) := by
  rw [s.onRecord_taken code h tb i false work hr hn nofun, hw, ← s.recordRev_shiftOut h.clocked]
  rfl

end Frame

theorem State.recordRev_plan (s : State) (p : Fin 8) : s.recordRev (nameOf .plan p.val) = s.plans[p].rev := by
  simp only [State.recordRev, nameOf, indexOf_val]; rfl

theorem State.recordRev_stage (s : State) (d : Fin 96) : s.recordRev (nameOf .stage d.val) = s.stages[d].rev := by
  simp only [State.recordRev, nameOf, indexOf_val]; rfl

theorem State.recordRev_schedule (s : State) (e : Fin 24) :
    s.recordRev (nameOf .schedule e.val) = s.schedule[e].rev := by
  simp only [State.recordRev, nameOf, indexOf_val]; rfl

theorem State.recordRev_detector (s : State) (d : Fin 16) :
    s.recordRev (nameOf .detector d.val) = s.detectors[d].rev := by
  simp only [State.recordRev, nameOf, indexOf_val]; rfl

/-! ## What a payload out of range parses to -/

theorem finOf_le {n : Nat} (b : Byte) (i : Fin n) (h : finOf n b = some i) : b.toNat < n := by
  unfold finOf at h
  split at h
  case isTrue hlt => exact hlt
  case isFalse => cases h

theorem EntryState.ofByte_le (b : Byte) (x : EntryState) (h : EntryState.ofByte b = some x) : b.toNat ≤ 2 := by
  unfold EntryState.ofByte at h
  split at h
  case isTrue h0 => rw [h0]; decide
  case isFalse =>
    split at h
    case isTrue h1 => rw [h1]; decide
    case isFalse =>
      split at h
      case isTrue h2 => rw [h2]; decide
      case isFalse => cases h

theorem Dimming.ofByte_le (b : Byte) (x : Dimming) (h : Dimming.ofByte b = some x) : b.toNat ≤ 1 := by
  unfold Dimming.ofByte at h
  split at h
  case isTrue h0 => rw [h0]; decide
  case isFalse =>
    split at h
    case isTrue h1 => rw [h1]; decide
    case isFalse => cases h

theorem PlanConfig.parse_eq_none_of_length (p : List Byte) (h : p.length ≠ 2) : PlanConfig.parse p = none := by
  unfold PlanConfig.parse
  split
  · exact absurd rfl h
  · rfl

theorem PlanConfig.parse_eq_none (e c : Byte) (h : 95 < e.toNat ∨ 95 < c.toNat) : PlanConfig.parse [e, c] = none := by
  simp only [PlanConfig.parse]
  cases he : finOf 96 e with
  | none => rfl
  | some x =>
    have hentry := finOf_le e x he
    cases hc : finOf 96 c with
    | none => rfl
    | some y =>
      have hchange := finOf_le c y hc
      omega

theorem StageConfig.parse_eq_none_of_length (p : List Byte) (h : p.length ≠ 13) : StageConfig.parse p = none := by
  unfold StageConfig.parse
  split
  · exact absurd rfl h
  · rfl

theorem setOf_zero : setOf 0 0 = 0 := by decide

theorem StageConfig.parse_eq_none (g1 g0 c1 c0 e1 e0 demand next i1 i0 a1 a0 step : Byte)
    (h : (g1 = 0 ∧ g0 = 0) ∨ 1 < demand.toNat ∨ 95 < next.toNat) :
    StageConfig.parse [g1, g0, c1, c0, e1, e0, demand, next, i1, i0, a1, a0, step] = none := by
  simp only [StageConfig.parse]
  cases hd : ofYesNo demand with
  | none => rfl
  | some x =>
    have hdemand := ofYesNo_le demand x hd
    cases hn : finOf 96 next with
    | none => rfl
    | some y =>
      have hnext := finOf_le next y hn
      obtain ⟨rfl, rfl⟩ : g1 = 0 ∧ g0 = 0 := h.resolve_right (by omega)
      exact if_pos setOf_zero

theorem ScheduleConfig.parse_eq_none_of_length (p : List Byte) (h : p.length ≠ 6) : ScheduleConfig.parse p = none := by
  unfold ScheduleConfig.parse
  split
  · exact absurd rfl h
  · rfl

theorem ScheduleConfig.parse_eq_none (state days hour minute plan dimming : Byte)
    (h : 2 < state.toNat ∨ 127 < days.toNat ∨ 23 < hour.toNat ∨ 59 < minute.toNat ∨ 7 < plan.toNat ∨
      1 < dimming.toNat) : ScheduleConfig.parse [state, days, hour, minute, plan, dimming] = none := by
  simp only [ScheduleConfig.parse]
  cases hs : EntryState.ofByte state with
  | none => rfl
  | some x =>
    have hstate := EntryState.ofByte_le state x hs
    cases hp : finOf 8 plan with
    | none => rfl
    | some y =>
      have hplan := finOf_le plan y hp
      cases hd : Dimming.ofByte dimming with
      | none => rfl
      | some z =>
        have hdimming := Dimming.ofByte_le dimming z hd
        refine if_neg fun hr => ?_
        obtain ⟨hrange, hdays⟩ := Bool.and_eq_true_iff.1 hr
        obtain ⟨hhour, hminute⟩ := (ScheduleConfig.inRange_iff _).1 hrange
        have hdays' := of_decide_eq_true hdays
        simp only at hhour hminute
        omega

theorem DetectorConfig.parse_eq_none_of_length (p : List Byte) (h : p.length ≠ 3) : DetectorConfig.parse p = none := by
  unfold DetectorConfig.parse
  split
  · exact absurd rfl h
  · rfl

theorem DetectorConfig.parse_eq_none (enabled invert limit : Byte)
    (h : 1 < enabled.toNat ∨ 1 < invert.toNat ∨ 60 < limit.toNat) :
    DetectorConfig.parse [enabled, invert, limit] = none := by
  simp only [DetectorConfig.parse]
  cases he : ofYesNo enabled with
  | none => rfl
  | some x =>
    have henabled := ofYesNo_le enabled x he
    cases hi : ofYesNo invert with
    | none => rfl
    | some y =>
      have hinvert := ofYesNo_le invert y hi
      refine if_neg fun hr => ?_
      have hlimit := (DetectorConfig.inRange_iff _).1 hr
      simp only at hlimit
      omega

/-! ## PLAN (R36) -/

/-- The record a WRITE of PLAN leaves: the revision moves where either descriptor changed. -/
theorem Plan.moved_written (x : Plan) (cfg : PlanConfig) :
    Plan.moved x { x with entry := cfg.entry, changePoint := cfg.changePoint } =
      { x with
        entry := cfg.entry, changePoint := cfg.changePoint
        rev := if x.entry = cfg.entry ∧ x.changePoint = cfg.changePoint then x.rev else x.rev + 1 } := by
  have hsame : x = { x with entry := cfg.entry, changePoint := cfg.changePoint } ↔
      x.entry = cfg.entry ∧ x.changePoint = cfg.changePoint := by
    cases x
    simp
  unfold Plan.moved
  simp only [hsame]
  split <;> rfl

section Plan

variable (s : State) (h : Header) (p : Fin 8) (hr : s.ready) (hn : h.names .plan p.val)
  (hf : s.revisionMatches h (nameOf .plan p.val))

include hr hn hf

theorem exec_writePlan_taken (hp : s.plans[p].loaded = false) (cfg : PlanConfig) :
    exec (.writePlan h cfg.bytes) s =
      .next (((s.shiftOut h.clocked).writePlan p cfg).returning h 2 .ok (nameOf .plan p.val)) := by
  refine congrArg _ (s.write_everyMode_answers _ h .plan p _ .ok hr hn hf ?_)
  simp only [State.shiftOut_plans, hp, PlanConfig.parse_bytes]
  rfl

theorem exec_writePlan_inUse (hp : s.plans[p].loaded = true) (payload : List Byte) :
    exec (.writePlan h payload) s = .next (s.refusing h 2 .inUse s.plans[p].rev) := by
  rw [← s.recordRev_plan p]
  exact congrArg _ (s.write_everyMode_refuses h .plan p _ .inUse hr hn hf (if_pos hp))

theorem exec_writePlan_outOfRange (hp : s.plans[p].loaded = false) (payload : List Byte)
    (hnone : PlanConfig.parse payload = none) :
    exec (.writePlan h payload) s = .next (s.refusing h 2 .range s.plans[p].rev) := by
  rw [← s.recordRev_plan p]
  refine congrArg _ (s.write_everyMode_refuses h .plan p _ .range hr hn hf ?_)
  simp only [State.shiftOut_plans, hp, hnone]
  rfl

end Plan

/-- Settles O11: the WRITE of an EMPTY plan parses what its bytes carry, and the LOADED one is refused first. -/
theorem writePlanReplacesEmptyPlan : Obligations.WritePlanReplacesEmptyPlan := by
  unfold Obligations.WritePlanReplacesEmptyPlan
  intro s h p hr hn hf
  refine ⟨fun hp cfg => ?_, exec_writePlan_inUse s h p hr hn hf, fun hp => ⟨fun payload hlen => ?_, fun e c hbig => ?_⟩⟩
  · rw [exec_writePlan_taken s h p hr hn hf hp cfg, ← Plan.moved_written]
    rfl
  · exact exec_writePlan_outOfRange s h p hr hn hf hp payload (PlanConfig.parse_eq_none_of_length payload hlen)
  · exact exec_writePlan_outOfRange s h p hr hn hf hp _ (PlanConfig.parse_eq_none e c hbig)

/-! ## STAGE (R37, R38, R43) -/

theorem StageTiming.clamp_minGreen (t : StageTiming) : t.clamp.minGreen = max 30 (min 600 t.minGreen) := by
  simp only [StageTiming.clamp]
  repeat' split
  all_goals omega

theorem StageTiming.clamp_maxGreen (t : StageTiming) :
    t.clamp.maxGreen = max t.clamp.minGreen (min 1200 t.maxGreen) := by
  simp only [StageTiming.clamp]
  repeat' split
  all_goals omega

theorem StageTiming.clamp_step (t : StageTiming) : t.clamp.step = min 100 t.step := by
  simp only [StageTiming.clamp]
  split
  all_goals omega

/-- The record a WRITE of STAGE leaves: the revision moves where anything changed. -/
theorem Stage.moved_written (x : Stage) (shape : StageShape) (timing : StageTiming) :
    Stage.moved x { x with isDefined := true, shape := shape, timing := timing } =
      { isDefined := true, owner := x.owner, shape := shape, timing := timing
        rev := if x.isDefined = true ∧ x.shape = shape ∧ x.timing = timing then x.rev else x.rev + 1 } := by
  have hsame : x = { x with isDefined := true, shape := shape, timing := timing } ↔
      x.isDefined = true ∧ x.shape = shape ∧ x.timing = timing := by
    cases x
    simp
  unfold Stage.moved
  simp only [hsame]
  split <;> rfl

/-- The record a RETIRE of STAGE leaves (R43, R53). -/
def Stage.emptied (x : Stage) : Stage := Stage.moved x { Stage.reset with rev := x.rev }

theorem Stage.emptied_eq (x : Stage) : x.emptied =
    { Stage.reset with rev := if x = { Stage.reset with rev := x.rev } then x.rev else x.rev + 1 } := by
  unfold Stage.emptied Stage.moved
  split <;> rfl

section Stage

variable (s : State) (h : Header) (d : Fin 96) (hr : s.ready) (hn : h.names .stage d.val)

include hr hn

theorem exec_writeStage_taken (hf : s.revisionMatches h (nameOf .stage d.val)) (cfg : StageConfig)
    (hcfg : StageConfig.parse cfg.bytes = some cfg) (hown : s.stages[d].owner = none ∨ s.stages[d].shape = cfg.shape) :
    exec (.writeStage h cfg.bytes) s =
      .next (((s.shiftOut h.clocked).writeStage d cfg).returning h 2
        (if cfg.timing.clamp = cfg.timing then .ok else .clamped) (nameOf .stage d.val)) := by
  have hfree : ¬ (s.stages[d].owner.isSome = true ∧ s.stages[d].shape ≠ cfg.shape) := by
    rintro ⟨howned, hdiffers⟩
    rcases hown with hnone | hsame
    · rw [hnone] at howned
      cases howned
    · exact hdiffers hsame
  refine congrArg _ (s.write_everyMode_answers _ h .stage d _ _ hr hn hf ?_)
  simp only [hcfg]
  exact if_neg hfree

theorem exec_writeStage_owned (hf : s.revisionMatches h (nameOf .stage d.val)) (cfg : StageConfig)
    (hcfg : StageConfig.parse cfg.bytes = some cfg) (hown : s.stages[d].owner ≠ none)
    (hshape : s.stages[d].shape ≠ cfg.shape) :
    exec (.writeStage h cfg.bytes) s = .next (s.refusing h 2 .owned s.stages[d].rev) := by
  rw [← s.recordRev_stage d]
  refine congrArg _ (s.write_everyMode_refuses h .stage d _ .owned hr hn hf ?_)
  simp only [hcfg]
  exact if_pos ⟨Option.isSome_iff_ne_none.2 hown, hshape⟩

theorem exec_writeStage_outOfRange (hf : s.revisionMatches h (nameOf .stage d.val)) (payload : List Byte)
    (hnone : StageConfig.parse payload = none) :
    exec (.writeStage h payload) s = .next (s.refusing h 2 .range s.stages[d].rev) := by
  rw [← s.recordRev_stage d]
  refine congrArg _ (s.write_everyMode_refuses h .stage d _ .range hr hn hf ?_)
  simp only [hnone]

theorem exec_retireStage_taken (hown : s.stages[d].owner = none) :
    exec (.retireStage h []) s = .next (({ s.shiftOut h.clocked with stages := s.stages.set d s.stages[d].emptied }
      : State).returning h 3 .ok (nameOf .stage d.val)) := by
  refine congrArg _ (s.onRecord_free_answers _ h .stage d _ .ok 3 hr hn (if_neg ?_))
  rw [State.shiftOut_stages, hown]
  exact Bool.false_ne_true

theorem exec_retireStage_owned (hown : s.stages[d].owner ≠ none) :
    exec (.retireStage h []) s = .next (s.refusing h 3 .owned s.stages[d].rev) := by
  rw [← s.recordRev_stage d]
  exact congrArg _ (s.onRecord_free_refuses h .stage d _ .owned 3 hr hn (if_pos (Option.isSome_iff_ne_none.2 hown)))

end Stage

/-- Settles O12: the WRITE of a STAGE clamps its timing, and RETIRE gives the values of a main reset. -/
theorem writeAndRetireStage : Obligations.WriteAndRetireStage := by
  unfold Obligations.WriteAndRetireStage
  intro s h d hr hn
  refine ⟨fun cfg hf hgroups hmin hmax hstep => ?_, fun hown => ?_, exec_retireStage_owned s h d hr hn, fun hf => ?_⟩
  · have hcfg := StageConfig.parse_bytes cfg hgroups hmin hmax hstep
    refine ⟨fun hown => ?_, exec_writeStage_owned s h d hr hn hf cfg hcfg⟩
    refine ⟨cfg.timing.clamp, StageTiming.clamp_minGreen _, StageTiming.clamp_maxGreen _, StageTiming.clamp_step _, ?_⟩
    rw [exec_writeStage_taken s h d hr hn hf cfg hcfg hown, ← Stage.moved_written]
    rfl
  · refine ⟨s.stages[d].emptied, ?_, ?_, ?_, ?_, ?_, exec_retireStage_taken s h d hr hn hown⟩
    all_goals rw [Stage.emptied_eq]
    all_goals rfl
  · exact ⟨fun payload hlen =>
        exec_writeStage_outOfRange s h d hr hn hf payload (StageConfig.parse_eq_none_of_length payload hlen),
      fun g1 g0 c1 c0 e1 e0 demand next i1 i0 a1 a0 step hbad => exec_writeStage_outOfRange s h d hr hn hf _
        (StageConfig.parse_eq_none g1 g0 c1 c0 e1 e0 demand next i1 i0 a1 a0 step hbad)⟩

/-! ## SCHEDULE (R45) and DETECTOR (R78) -/

section Schedule

variable (s : State) (h : Header) (e : Fin 24) (hr : s.ready) (hn : h.names .schedule e.val)

include hr hn

theorem exec_writeSchedule_taken (hf : s.revisionMatches h (nameOf .schedule e.val)) (cfg : ScheduleConfig)
    (hcfg : cfg.inRange = true) : exec (.writeSchedule h cfg.bytes) s =
      .next (({ s.shiftOut h.clocked with schedule := s.schedule.set e (s.schedule[e].replace cfg) } : State).returning
        h 2
        .ok (nameOf .schedule e.val)) := by
  refine congrArg _ (s.write_everyMode_answers _ h .schedule e _ .ok hr hn hf ?_)
  simp only [ScheduleConfig.parse_bytes cfg hcfg]
  rfl

theorem exec_writeSchedule_outOfRange (hf : s.revisionMatches h (nameOf .schedule e.val)) (payload : List Byte)
    (hnone : ScheduleConfig.parse payload = none) :
    exec (.writeSchedule h payload) s = .next (s.refusing h 2 .range s.schedule[e].rev) := by
  rw [← s.recordRev_schedule e]
  refine congrArg _ (s.write_everyMode_refuses h .schedule e _ .range hr hn hf ?_)
  simp only [hnone]

theorem exec_retireSchedule_taken : exec (.retireSchedule h []) s =
    .next (({ s.shiftOut h.clocked with
      schedule := s.schedule.set e (s.schedule[e].replace ScheduleEntry.reset.cfg) } : State).returning h 3 .ok
        (nameOf .schedule e.val)) :=
  congrArg _ (s.onRecord_free_answers _ h .schedule e _ .ok 3 hr hn rfl)

end Schedule

section Detector

variable (s : State) (h : Header) (d : Fin 16) (hr : s.ready) (hn : h.names .detector d.val)
  (hf : s.revisionMatches h (nameOf .detector d.val))

include hr hn hf

theorem exec_writeDetector_taken (cfg : DetectorConfig) (hcfg : cfg.inRange = true) :
    exec (.writeDetector h cfg.bytes) s =
      .next (({ s.shiftOut h.clocked with detectors := s.detectors.set d (s.detectors[d].configure cfg) }
        : State).returning h 2 .ok (nameOf .detector d.val)) := by
  refine congrArg _ (s.write_everyMode_answers _ h .detector d _ .ok hr hn hf ?_)
  simp only [DetectorConfig.parse_bytes cfg hcfg]
  rfl

theorem exec_writeDetector_outOfRange (payload : List Byte) (hnone : DetectorConfig.parse payload = none) :
    exec (.writeDetector h payload) s = .next (s.refusing h 2 .range s.detectors[d].rev) := by
  rw [← s.recordRev_detector d]
  refine congrArg _ (s.write_everyMode_refuses h .detector d _ .range hr hn hf ?_)
  simp only [hnone]

end Detector

/-- A written enabled that differs leaves the cleared values (R78). -/
def Detector.clearedAs (x : Detector) (cfg : DetectorConfig) : Detector :=
  { x with cfg := cfg, faulty := false, previous := false, level := false, latch := false, activeRun := 0 }

/-- A faulty input that a change of enabled clears moves its revision by the written fields alone: they changed. -/
theorem Detector.configure_eq (x : Detector) (cfg : DetectorConfig) : x.configure cfg =
    { (if x.cfg.enabled = cfg.enabled then { x with cfg := cfg } else x.clearedAs cfg) with
      rev := if x.cfg = cfg then x.rev else x.rev + 1 } := by
  unfold Detector.configure Detector.moved
  by_cases hon : x.cfg.enabled = cfg.enabled
  · by_cases hcfg : x.cfg = cfg
    · simp [hcfg]
    · simp [hon, hcfg, nextRev]
  · have hcfg : x.cfg ≠ cfg := fun he => hon (congrArg DetectorConfig.enabled he)
    simp [hon, hcfg, nextRev, Detector.clearedAs]

/-- Settles O13: a SCHEDULE entry is replaced whole, and a DETECTOR whose enabled changes is cleared. -/
theorem writeScheduleAndDetector : Obligations.WriteScheduleAndDetector := by
  unfold Obligations.WriteScheduleAndDetector
  intro s h hr
  refine ⟨fun e hn => ⟨fun cfg hf => ⟨fun hhour hminute => ?_, fun hhour hminute hbig => ?_⟩, ?_⟩,
    fun d cfg hn hf => ⟨fun hlimit => ?_, fun hbig hlimit => ?_⟩, fun e hn hf => ⟨fun payload hlen => ?_, ?_⟩,
    fun d hn hf => ⟨fun payload hlen => ?_, ?_⟩⟩
  · exact exec_writeSchedule_taken s h e hr hn hf cfg ((ScheduleConfig.inRange_iff cfg).2 ⟨hhour, hminute⟩)
  · refine exec_writeSchedule_outOfRange s h e hr hn hf _ (ScheduleConfig.parse_eq_none _ _ _ _ _ _ ?_)
    rw [b8_toNat hhour, b8_toNat hminute]
    rcases hbig with hbig | hbig
    · exact .inr (.inr (.inl hbig))
    · exact .inr (.inr (.inr (.inl hbig)))
  · exact ⟨s.schedule[e].replace ScheduleEntry.reset.cfg, rfl, rfl, exec_retireSchedule_taken s h e hr hn⟩
  · refine ⟨s.detectors[d].configure cfg, ?_, ?_, fun hon => ?_, fun hon => ?_,
      exec_writeDetector_taken s h d hr hn hf cfg ((DetectorConfig.inRange_iff cfg).2 hlimit)⟩
    all_goals rw [Detector.configure_eq]
    · dsimp only
      split <;> rfl
    · simp only [hon, if_true]
    · simp only [hon, if_false]
      exact ⟨rfl, rfl, rfl, rfl, rfl⟩
  · refine exec_writeDetector_outOfRange s h d hr hn hf _ (DetectorConfig.parse_eq_none _ _ _ ?_)
    rw [b8_toNat hlimit]
    exact .inr (.inr hbig)
  · exact exec_writeSchedule_outOfRange s h e hr hn hf payload (ScheduleConfig.parse_eq_none_of_length payload hlen)
  · exact fun state days hour minute plan dimming hbad => exec_writeSchedule_outOfRange s h e hr hn hf _
      (ScheduleConfig.parse_eq_none state days hour minute plan dimming hbad)
  · exact exec_writeDetector_outOfRange s h d hr hn hf payload (DetectorConfig.parse_eq_none_of_length payload hlen)
  · exact fun enabled invert limit hbad => exec_writeDetector_outOfRange s h d hr hn hf _
      (DetectorConfig.parse_eq_none enabled invert limit hbad)

end Sys2Proof.Machine
end

section
/-! RETIRE of a PLAN, LOAD_PLAN and COMMIT: what is refused, what goes in flight, and how it ends (R39 to R42, R161 to
R164, R183). -/

namespace Sys2Proof.Machine

theorem event_congr {f g : State → State} {s : State} (h : f s = g s) : event f s = event g s :=
  congrArg (closeEvent s) h

theorem State.planInUse_iff (s : State) (p : Fin 8) :
    s.planInUse p = true ↔ s.seq.running = some p ∨ s.seq.pending = some p := by
  simp only [State.planInUse, Bool.or_eq_true, beq_iff_eq]

theorem State.lastLoaded_iff (s : State) (p : Fin 8) :
    s.lastLoaded p = true ↔ s.plans[p].loaded = true ∧ ∀ q : Fin 8, q ≠ p → s.plans[q].loaded = false := by
  simp only [State.lastLoaded, allPlans, Bool.and_eq_true, List.all_eq_true, List.mem_finRange, true_implies,
    Bool.or_eq_true, beq_iff_eq, Bool.not_eq_true', or_iff_not_imp_left, ne_eq]

/-! ## RETIRE of a PLAN (R42, R49) -/

/-- The plan that is retired was LOADED, so its revision moves. -/
theorem Plan.moved_retired (x : Plan) (hx : x.loaded = true) :
    Plan.moved x { x with loaded := false, length := 0 } = { x with loaded := false, length := 0, rev := x.rev + 1 } :=
      by
  refine if_neg fun h => ?_
  rw [h] at hx
  cases hx

/-- A descriptor that is released had an owner, so its revision moves. -/
theorem Stage.disown_eq (x : Stage) (p : Fin 8) :
    x.disown p = if x.owner = some p then { x with owner := none, rev := x.rev + 1 } else x := by
  unfold Stage.disown
  split
  · next hown =>
    refine if_neg fun h => ?_
    rw [h] at hown
    cases hown
  · rfl

/-- Retiring a LOADED plan, its revisions written out. -/
theorem State.retirePlan_eq (s : State) (p : Fin 8) (hp : s.plans[p].loaded = true) : s.retirePlan p =
    ({ s with
      plans := s.plans.set p { s.plans[p] with loaded := false, length := 0, rev := s.plans[p].rev + 1 }
      stages := s.stages.map fun d => d.disown p } : State).workOutRequested := by
  rw [← Plan.moved_retired _ hp]
  rfl

section Retire

variable (s : State) (h : Header) (p : Fin 8) (hr : s.ready) (hn : h.names .plan p.val)

include hr hn

theorem exec_retirePlan_refused
    (hp : s.planInUse p = true ∨ (s.sup.mode ≠ .unconfigured ∧ s.lastLoaded p = true)) :
    exec (.retirePlan h []) s = .next (s.refusing h 3 .inUse s.plans[p].rev) := by
  rw [← s.recordRev_plan p]
  refine congrArg _ (s.onRecord_free_refuses h .plan p _ .inUse 3 hr hn ?_)
  rcases hp with huse | hlast
  · exact if_pos huse
  · by_cases huse : s.planInUse p = true
    · exact if_pos huse
    · exact (if_neg huse).trans (if_pos hlast)

theorem exec_retirePlan_empty (huse : ¬ s.planInUse p = true) (hp : s.plans[p].loaded = false) :
    exec (.retirePlan h []) s = .next ((s.shiftOut h.clocked).returning h 3 .ok (nameOf .plan p.val)) := by
  have hlast : ¬ (s.sup.mode ≠ .unconfigured ∧ s.lastLoaded p = true) := fun hl =>
    Bool.false_ne_true (hp.symm.trans ((s.lastLoaded_iff p).1 hl.2).1)
  have hloaded : ¬ s.plans[p].loaded = true := Bool.eq_false_iff.1 hp
  exact congrArg _ (s.onRecord_free_answers _ h .plan p _ .ok 3 hr hn
    ((if_neg huse).trans ((if_neg hlast).trans (if_neg hloaded))))

theorem exec_retirePlan_loaded (huse : ¬ s.planInUse p = true)
    (hlast : ¬ (s.sup.mode ≠ .unconfigured ∧ s.lastLoaded p = true)) (hp : s.plans[p].loaded = true) :
    exec (.retirePlan h []) s =
      .next ((event (fun u => u.retirePlan p) (s.shiftOut h.clocked)).returning h 3 .ok (nameOf .plan p.val)) :=
  congrArg _ (s.onRecord_free_answers _ h .plan p _ .ok 3 hr hn
    ((if_neg huse).trans ((if_neg hlast).trans (if_pos hp))))

end Retire

/-- Settles O19: the conditions in their order, and the released descriptors one by one. -/
theorem retirePlanReleasesStages : Obligations.RetirePlanReleasesStages := by
  unfold Obligations.RetirePlanReleasesStages
  intro s h p hr hn
  refine ⟨fun huse => exec_retirePlan_refused s h p hr hn (.inl ((s.planInUse_iff p).2 huse)), fun hrun hpend => ?_⟩
  have huse : ¬ s.planInUse p = true := fun hu => ((s.planInUse_iff p).1 hu).elim hrun hpend
  refine ⟨exec_retirePlan_empty s h p hr hn huse, fun hp hmode hothers => ?_, fun hp hspare => ?_⟩
  · exact exec_retirePlan_refused s h p hr hn (.inr ⟨hmode, (s.lastLoaded_iff p).2 ⟨hp, hothers⟩⟩)
  · have hlast : ¬ (s.sup.mode ≠ .unconfigured ∧ s.lastLoaded p = true) := by
      rintro ⟨hmode, hl⟩
      rcases hspare with hu | ⟨q, hq, hloaded⟩
      · exact hmode hu
      · exact Bool.false_ne_true ((((s.lastLoaded_iff p).1 hl).2 q hq).symm.trans hloaded)
    refine ⟨s.stages.map fun d => d.disown p, fun d => ?_, ?_⟩
    · exact (Vector.getElem_map _ d.isLt).trans (Stage.disown_eq _ p)
    · refine (exec_retirePlan_loaded s h p hr hn huse hlast hp).trans ?_
      refine congrArg _ (congrArg (fun t : State => t.returning h 3 .ok (nameOf .plan p.val)) (event_congr ?_))
      exact (s.shiftOut h.clocked).retirePlan_eq p hp

/-! ## Taken into flight (R39, R161, R183) -/

section InFlight

variable (s : State) (h : Header) (hr : s.ready)

include hr

theorem exec_loadPlan_taken (p : Fin 8) (hn : h.names .plan p.val)
    (hp : ¬ (s.plans[p].loaded && s.planInUse p) = true) : exec (.loadPlan h []) s =
      .next { s with link :=
        { s.link.answered h (h.reply 17 .notReady s.plans[p].rev []) with
          inFlight := some { work := .loadPlan p, table := h.table, index := h.index } } } := by
  rw [← s.recordRev_plan p, ← s.recordRev_shiftOut h.clocked]
  refine congrArg _ ((s.onRecord_taken 17 h .plan p false _ hr hn nofun).trans ?_)
  rw [show ((s.shiftOut h.clocked).plans[p].loaded && (s.shiftOut h.clocked).planInUse p) = false from
    Bool.eq_false_iff.2 hp]
  rfl

theorem exec_loadPlan_inUse (p : Fin 8) (hn : h.names .plan p.val) (hp : (s.plans[p].loaded && s.planInUse p) = true) :
    exec (.loadPlan h []) s = .next (s.refusing h 17 .inUse s.plans[p].rev) := by
  rw [← s.recordRev_plan p]
  exact congrArg _ (s.onRecord_free_refuses h .plan p _ .inUse 17 hr hn (if_pos hp))

theorem exec_commit_taken (hk : s.link.mkey = true) (hm : s.sup.mode = .unconfigured) : exec (.commit h []) s =
    .next { s with link :=
      { s.link.answered h (h.reply 16 .notReady 0 []) with
        inFlight := some { work := .commit, table := h.table, index := h.index } } } :=
  congrArg _ (s.onJunction_taken 16 h true Mode.isUnconfigured _ hr (fun _ => hk) (beq_iff_eq.2 hm))

theorem exec_commit_wrongMode (hk : s.link.mkey = true) (hm : s.sup.mode ≠ .unconfigured) :
    exec (.commit h []) s = .next (s.refusing h 16 .mode 0) := by
  have hmode : Mode.isUnconfigured s.sup.mode = false := beq_eq_false_iff_ne.2 hm
  exact congrArg _ (s.runFrame_refused { code := 16, header := h } none none _ .mode hr
    ((s.shiftOut h.clocked).gated_wrongMode _ _ _ _ _ hk hmode))

end InFlight

/-- Settles O20: the answer NOT_READY and the command in flight, or the refusal. -/
theorem loadAndCommitGoInFlight : Obligations.LoadAndCommitGoInFlight := by
  unfold Obligations.LoadAndCommitGoInFlight
  intro s h hr
  refine ⟨fun p hn => ⟨fun hp => exec_loadPlan_taken s h hr p hn ?_, fun hp huse => exec_loadPlan_inUse s h hr p hn ?_⟩,
    fun hk => ⟨exec_commit_taken s h hr hk, exec_commit_wrongMode s h hr hk⟩⟩
  · rw [Bool.and_eq_true, State.planInUse_iff]
    rintro ⟨hloaded, huse⟩
    rcases hp with hempty | ⟨hrun, hpend⟩
    · exact Bool.false_ne_true (hempty.symm.trans hloaded)
    · exact huse.elim hrun hpend
  · rw [Bool.and_eq_true, State.planInUse_iff]
    exact ⟨hp, huse⟩

/-! ## The end of a LOAD_PLAN (R40, R41, R49, R183, R187) -/

/-- The record a LOADED plan leaves: the revision moves where its state or its length did. -/
theorem Plan.moved_chained (x : Plan) (n : Nat) : Plan.moved x { x with loaded := true, length := n } =
    { x with
      loaded := true, length := n
      rev := if x.loaded = true ∧ x.length = n then x.rev else x.rev + 1 } := by
  have hsame : x = { x with loaded := true, length := n } ↔ x.loaded = true ∧ x.length = n := by
    cases x
    simp
  unfold Plan.moved
  simp only [hsame]
  split <;> rfl

/-- A descriptor that already has the owner keeps its revision (R41). -/
theorem Stage.own_eq (x : Stage) (p : Fin 8) :
    x.own p = if x.owner ≠ some p then { x with owner := some p, rev := x.rev + 1 } else x := by
  have hsame : x = { x with owner := some p } ↔ x.owner = some p := by
    cases x
    simp
  unfold Stage.own Stage.moved
  simp only [hsame, ite_not]
  split
  · next hown => exact (hsame.2 hown).symm
  · rfl

theorem execLoadPlanComplete_inFlight (s : State) (hpower : s.base.mainPower = true) (f : InFlight) (p : Fin 8)
    (hf : s.link.inFlight = some f) (hw : f.work = .loadPlan p) : exec .loadPlanComplete s = .next (s.finishLoad f p)
      := by
  refine congrArg _ ((s.whenPowered_on _ hpower).trans ?_)
  simp only [hf, hw]

theorem execLoadPlanComplete_idle (s : State) (hpower : s.base.mainPower = true)
    (h : s.link.inFlight = none ∨ ∃ f, s.link.inFlight = some f ∧ f.work = .commit) :
    exec .loadPlanComplete s = .next s := by
  refine congrArg _ ((s.whenPowered_on _ hpower).trans ?_)
  rcases h with hnone | ⟨f, hf, hw⟩
  · simp only [hnone]
  · simp only [hf, hw]

theorem State.finishLoad_failed (s : State) (f : InFlight) (p : Fin 8) (d : Fin 96) (k : Check)
    (hc : s.chainCheck p = .failed d k) : s.finishLoad f p =
      { s with link := { s.link with
        inFlight := none
        slot :=
          { status := .invalid, command := 17, table := 7, index := b8 d.val, revision := s.stages[d].rev
            payload := [k.code, 0] } } } := by
  rw [State.finishLoad, hc, ← s.recordRev_stage d]
  rfl

theorem State.loadChain_plan (s : State) (p : Fin 8) (n : Nat) (passed : List (Fin 96)) :
    (s.loadChain p n passed).plans[p] = Plan.moved s.plans[p] { s.plans[p] with loaded := true, length := n } := by
  have hplans : (s.loadChain p n passed).plans = (s.chained p n passed).plans := by
    rw [State.loadChain_eq]
    split
    · rfl
    · exact State.workOutRequested_plans _
  rw [hplans, State.chained_plan, if_pos rfl]

theorem State.finishLoad_closed (s : State) (f : InFlight) (p : Fin 8) (n : Nat) (passed : List (Fin 96))
    (hc : s.chainCheck p = .closed n passed) : s.finishLoad f p =
      { event (fun u => u.loadChain p n passed) s with link := { s.link with
        inFlight := none
        slot :=
          { status := .ok, command := 17, table := f.table, index := f.index
            revision := (event (fun u => u.loadChain p n passed) s).plans[p].rev
            payload := (event (fun u => u.loadChain p n passed) s).plans[p].layout } } } := by
  rw [State.finishLoad, hc, ← State.recordRev_plan, ← State.layout_plan, ← s.loadChain_link p n passed]
  rfl

/-- Settles O21: the failing descriptor is named, and a chain that closes is owned at one event. -/
theorem loadPlanOutcome : Obligations.LoadPlanOutcome := by
  unfold Obligations.LoadPlanOutcome
  intro s hpower
  refine ⟨fun f p hf hw => ⟨fun d k hc => ?_, fun n passed hc => ?_⟩, execLoadPlanComplete_idle s hpower⟩
  all_goals rw [execLoadPlanComplete_inFlight s hpower f p hf hw]
  · exact congrArg _ (s.finishLoad_failed f p d k hc)
  · refine ⟨Plan.moved s.plans[p] { s.plans[p] with loaded := true, length := n }, (s.chained p n passed).stages,
      event (fun u => u.loadChain p n passed) s, Plan.moved_chained _ n, fun d => ?_, event_congr (s.loadChain_eq p n
        passed),
      ?_⟩
    · rw [State.chained_stage, Stage.own_eq]
      by_cases hd : d ∈ passed
      · simp [hd]
      · simp [hd]
    · have hplan : (event (fun u => u.loadChain p n passed) s).plans[p] =
          Plan.moved s.plans[p] { s.plans[p] with loaded := true, length := n } := s.loadChain_plan p n passed
      rw [s.finishLoad_closed f p n passed hc, hplan]

/-! ## The end of a COMMIT (R47, R148, R162, R164, R183, R187) -/

theorem execCommitComplete_inFlight (s : State) (hpower : s.base.mainPower = true) (f : InFlight)
    (hf : s.link.inFlight = some f) (hw : f.work = .commit) : exec .commitComplete s = .next (s.finishCommit f) := by
  refine congrArg _ ((s.whenPowered_on _ hpower).trans ?_)
  simp only [hf, hw]

theorem execCommitComplete_idle (s : State) (hpower : s.base.mainPower = true)
    (h : s.link.inFlight = none ∨ ∃ f p, s.link.inFlight = some f ∧ f.work = .loadPlan p) :
    exec .commitComplete s = .next s := by
  refine congrArg _ ((s.whenPowered_on _ hpower).trans ?_)
  rcases h with hnone | ⟨f, p, hf, hw⟩
  · simp only [hnone]
  · simp only [hf, hw]

theorem State.finishCommit_failed (s : State) (f : InFlight) (x : Failure) (hx : s.commitFailure = some x) :
    s.finishCommit f = s.landInvalid (f.call 16) x := by
  rw [State.finishCommit, hx]

theorem State.finishCommit_passed (s : State) (f : InFlight) (hx : s.commitFailure = none)
    (hm : s.sup.mode = .unconfigured) : s.finishCommit f =
      ((event (fun u => u.changeMode .standby .plan) s).workOutEntry).land ((f.call 16).answer .ok 0 []) := by
  have hcommission : event State.commission s = event (fun u => u.changeMode .standby .plan) s :=
    event_congr (if_pos hm)
  rw [State.finishCommit, hx, hcommission]

/-- Settles O22: the first failure is named, and a configuration that passes is commissioned. -/
theorem commitOutcome : Obligations.CommitOutcome := by
  unfold Obligations.CommitOutcome
  intro s hpower
  refine ⟨fun f hf hw hm => ⟨fun x hx => ?_, fun hx => ?_⟩, execCommitComplete_idle s hpower⟩
  all_goals rw [execCommitComplete_inFlight s hpower f hf hw]
  · rw [s.finishCommit_failed f x hx]
    rfl
  · rw [s.finishCommit_passed f hx hm]
    rfl

end Sys2Proof.Machine
end

section
/-! SELECT_PLAN and SET_DIM (R48 to R52, R121), and the ends of the phases (R52, R89 to R92). -/

namespace Sys2Proof.Machine

/-! ## SELECT_PLAN (R48 to R50, R156) -/

/-- A SELECT_PLAN of the form OVERRIDE, its plan byte apart (R48). -/
def State.overrideReply (s : State) (c : Call) (x : Byte) : Reply :=
  match finOf 8 x with
  | none => s.refuse c none .range
  | some p =>
    if s.plans[p].loaded then (event (fun v => v.selectOverride p) s).returnsJunction c
    else s.invalid c (nameOf .plan p.val) .planEmpty 0

theorem exec_selectPlanOverride (s : State) (h : Header) (x : Byte) : exec (.selectPlanOverride h [1, x]) s =
    .next (s.onJunction 23 h false Mode.every fun u c => u.overrideReply c x) := rfl

section SelectPlan

variable (s : State) (h : Header) (hr : s.ready)

include hr

theorem exec_selectPlanOverride_loaded (p : Fin 8) (hp : s.plans[p].loaded = true) :
    exec (.selectPlanOverride h [1, b8 p.val]) s =
      .next ((event (fun u => u.selectOverride p) (s.shiftOut h.clocked)).returningJunction h 23) := by
  rw [exec_selectPlanOverride, s.onJunction_taken 23 h false Mode.every _ hr nofun rfl]
  simp only [State.overrideReply, finOf_b8 (show 8 ≤ 256 by decide), State.shiftOut_plans, hp, if_true]
  rfl

theorem exec_selectPlanOverride_empty (p : Fin 8) (hp : s.plans[p].loaded = false) :
    exec (.selectPlanOverride h [1, b8 p.val]) s =
      .next ((s.shiftOut h.clocked).setSlot
        { status := .invalid, command := 23, table := 6, index := b8 p.val, revision := s.plans[p].rev
          payload := [18, 0] }) := by
  rw [exec_selectPlanOverride, s.onJunction_taken 23 h false Mode.every _ hr nofun rfl, ← s.recordRev_plan p,
    ← s.recordRev_shiftOut h.clocked]
  simp only [State.overrideReply, finOf_b8 (show 8 ≤ 256 by decide), State.shiftOut_plans, hp, Bool.false_eq_true,
    if_false]
  rfl

theorem exec_selectPlanFollow (x : Byte) : exec (.selectPlanFollow h [0, x]) s =
    .next ((event State.selectFollow (s.shiftOut h.clocked)).returningJunction h 23) :=
  congrArg _ (s.onJunction_taken 23 h false Mode.every _ hr nofun rfl)

end SelectPlan

/-- The plan in force is the candidate where that is LOADED, and else the lowest-numbered LOADED plan (R49). -/
theorem State.requestedPlan_candidate (s : State) (h : s.plans[s.sched.candidate].loaded = true) :
    s.requestedPlan = some s.sched.candidate := by
  rw [State.requestedPlan_eq, if_pos h]

theorem State.requestedPlan_lowest (s : State) (h : s.plans[s.sched.candidate].loaded = false) :
    s.requestedPlan = (List.finRange 8).find? fun p => s.plans[p].loaded := by
  rw [State.requestedPlan_eq, h, if_neg Bool.false_ne_true]
  rfl

/-- Settles O27: the two forms, and the requested and pending plan they work out. -/
theorem selectPlan : Obligations.SelectPlan := by
  unfold Obligations.SelectPlan
  refine ⟨fun s h hr => ⟨fun p => ⟨exec_selectPlanOverride_loaded s h hr p, exec_selectPlanOverride_empty s h hr p⟩,
    exec_selectPlanFollow s h hr⟩, fun s => ?_⟩
  refine ⟨s.sched.candidate, s.requestedPlan, pendingFor s.seq.running s.requestedPlan, fun hs => ?_, fun hs => ?_,
    s.requestedPlan_candidate, fun he => ⟨?_, fun p hp => ?_⟩, fun hn => ?_, fun hrun hreq hne => ?_, rfl⟩
  · rw [ScheduleUnit.candidate, hs]
  · rw [ScheduleUnit.candidate, hs]
  · rw [s.requestedPlan_lowest he, List.find?_eq_none]
    simp only [List.mem_finRange, true_implies, Bool.not_eq_true]
  · rw [s.requestedPlan_lowest he] at hp
    exact finRange_find?_eq_some hp
  · rw [pendingFor_eq, if_pos hn]
  · rw [pendingFor_eq, if_neg]
    rintro (h | h | h)
    · exact hrun h
    · exact hreq h
    · exact hne h

/-! ## SET_DIM (R51, R52, R121) -/

theorem exec_setDimReply_taken (s : State) (h : Header) (d : DimOverride) (hr : s.ready) :
    s.onJunction 25 h false Mode.every (fun u c => u.setDimReply c [d.byte] d) =
      (event (fun u => u.setDim d) (s.shiftOut h.clocked)).returningJunction h 25 := by
  rw [s.onJunction_taken 25 h false Mode.every _ hr nofun rfl, State.setDimReply, if_pos rfl]
  rfl

/-- A SET_DIM under which the dimming state stays moves the revision by the override alone. -/
theorem State.setDim_keeps (s : State) (d : DimOverride) (h : dimmingFor d s.sched.scheduledDimming = s.sched.dimState)
    :
    event (fun u => u.setDim d) s = { s with
      sched := { s.sched with dimOverride := d }
      junctionRev := if s.sched.dimOverride = d then s.junctionRev else s.junctionRev + 1 } := by
  have hwork : s.setDim d = s.mapSched fun u => { u with dimOverride := d } := if_pos h
  have hsettled : s.junctionSettled = (s.mapSched fun u => { u with dimOverride := d }).junctionSettled ↔
      s.sched.dimOverride = d := by
    simp only [State.junctionSettled, State.mapSched, JunctionSettled.mk.injEq, true_and, and_true]
  simp only [event, hwork, closeEvent, junctionMoved, hsettled]
  simp only [State.mapSched, groups_moved_self, cables_moved_self, nextRev]

/-- A SET_DIM that changes the dimming state changes the dimmable channels with it. -/
theorem State.setDim_changes (s : State) (d : DimOverride) (x : Dimming)
    (hx : x = dimmingFor d s.sched.scheduledDimming) (h : x ≠ s.sched.dimState) :
    event (fun u => u.setDim d) s = { s with
      sched := { s.sched with
        dimOverride := d, dimState := x, dimSettle := 50, dimPin := decide (x = .dim) }
      channels := s.channels.map Channel.dimChanged
      junctionRev := s.junctionRev + 1 } := by
  have hwork : s.setDim d = (s.mapSched fun u => { u with dimOverride := d }).changeDimming x := by
    rw [hx]
    exact if_neg (hx ▸ h)
  have hsettled : ¬s.junctionSettled = ((s.mapSched fun u => { u with dimOverride := d }).changeDimming
    x).junctionSettled :=
    fun he => h.symm (congrArg JunctionSettled.dimState he)
  have hpin : (x == Dimming.dim) = decide (x = .dim) := by rw [Bool.eq_iff_iff, beq_iff_eq, decide_eq_true_iff]
  simp only [event, hwork, closeEvent, junctionMoved, if_neg hsettled]
  simp only [State.changeDimming, State.mapSched, groups_moved_self, cables_moved_self, hpin, nextRev]

/-- Settles O29: each form is the same working-out under its own override. -/
theorem setDim : Obligations.SetDim := by
  unfold Obligations.SetDim
  intro s h i d x hr hform
  have hexec : exec i s = .next ((event (fun u => u.setDim d) (s.shiftOut h.clocked)).returningJunction h 25) := by
    rcases hform with ⟨rfl, rfl, -⟩ | ⟨rfl, rfl, -⟩ | ⟨rfl, rfl, -⟩
    · exact congrArg _ (exec_setDimReply_taken s h .follow hr)
    · exact congrArg _ (exec_setDimReply_taken s h .bright hr)
    · exact congrArg _ (exec_setDimReply_taken s h .dim hr)
  have hx : x = dimmingFor d s.sched.scheduledDimming := by
    rcases hform with ⟨-, rfl, rfl⟩ | ⟨-, rfl, rfl⟩ | ⟨-, rfl, rfl⟩
    all_goals rfl
  refine ⟨fun hkept => ?_, fun hchanged => ⟨s.channels.map Channel.dimChanged, fun c => Vector.getElem_map _ c.isLt,
    ?_⟩⟩
  · rw [hexec, (s.shiftOut h.clocked).setDim_keeps d (hx ▸ hkept)]
    rfl
  · rw [hexec, (s.shiftOut h.clocked).setDim_changes d x hx hchanged]
    rfl

/-! ## The steps of a tick as commands of their own (log entry 5) -/

theorem State.stepWhen_due (s : State) (due : State → Bool) (f : State → State) (hpower : s.base.mainPower = true)
    (h : due s = true) : s.stepWhen due f = event f s := by
  rw [State.stepWhen, s.whenPowered_on _ hpower, if_pos h]

theorem State.stepWhen_idle (s : State) (due : State → Bool) (f : State → State) (h : ¬ due s = true) :
    s.stepWhen due f = s := by
  simp only [State.stepWhen, State.whenPowered, if_neg h, ite_self]

/-! ## The phase machine (R89 to R92) -/

/-- A duration of 0 goes past SETTLE, with the count 0. -/
theorem Channel.enterSettle_eq (c : Channel) (f : ProfileConfig) : c.enterSettle f =
    c.setPhase (if durationOf f.settleCode = 0 then .steady else .settle) (durationOf f.settleCode) := by
  unfold Channel.enterSettle
  split
  · next h => rw [h]
  · rfl

theorem Channel.enterRelease_eq (c : Channel) (f : ProfileConfig) : c.enterRelease f =
    c.setPhase (if durationOf f.releaseCode = 0 then .off else .release) (durationOf f.releaseCode) := by
  unfold Channel.enterRelease
  split
  · next h => rw [h]
  · rfl

theorem Channel.lastCycle_iff (c : Channel) (p : Phase) : c.lastCycle p = true ↔ c.phase = p ∧ c.remaining = 1 := by
  simp only [Channel.lastCycle, Bool.and_eq_true, beq_iff_eq]

theorem Channel.advance_switched (c : Channel) (f : ProfileConfig) (on : Bool) (h : c.command ≠ on) :
    (c.advance f on).phase = (c.switch f on).phase ∧ (c.advance f on).remaining = (c.switch f on).remaining := by
  rw [Channel.advance, if_neg h]
  exact ⟨rfl, rfl⟩

theorem Channel.advance_counted (c : Channel) (f : ProfileConfig) (on : Bool) (h : c.command = on) :
    (c.advance f on).phase = (c.countCycle f).phase ∧ (c.advance f on).remaining = (c.countCycle f).remaining := by
  rw [Channel.advance, if_pos h]
  exact ⟨rfl, rfl⟩

theorem Channel.countCycle_untimed (c : Channel) (f : ProfileConfig) (h : c.phase = .off ∨ c.phase = .steady) :
    c.countCycle f = c := by
  rcases h with h | h <;> simp only [Channel.countCycle, h]

theorem Channel.countCycle_runs (c : Channel) (f : ProfileConfig) (hoff : c.phase ≠ .off) (hsteady : c.phase ≠ .steady)
    (h : 1 < c.remaining) : c.countCycle f = { c with remaining := c.remaining - 1 } := by
  have hmore : ¬ c.remaining ≤ 1 := by omega
  cases hp : c.phase with
  | off => exact absurd hp hoff
  | steady => exact absurd hp hsteady
  | surge => simp only [Channel.countCycle, hp, if_neg hmore]
  | settle => simp only [Channel.countCycle, hp, if_neg hmore]
  | release => simp only [Channel.countCycle, hp, if_neg hmore]

/-- The effect of the table of R91 on the last cycle of a phase. -/
theorem Channel.countCycle_ends (c : Channel) (f : ProfileConfig) (h : c.remaining ≤ 1) :
    (c.phase = .surge → c.countCycle f = c.enterSettle f) ∧
    (c.phase = .settle → c.countCycle f = c.setPhase .steady 0) ∧
    (c.phase = .release → c.countCycle f = c.setPhase .off 0) := by
  refine ⟨fun hp => ?_, fun hp => ?_, fun hp => ?_⟩
  all_goals simp only [Channel.countCycle, hp, if_pos h]
  all_goals rfl

section PhaseSteps

variable (s : State) (hpower : s.base.mainPower = true) (c : Fin 64)

include hpower

/-- A phase that ends by itself changes its channel only. -/
theorem State.stepPhase_due (due : State → Bool) (x : State → Channel) (hdue : due s = true) :
    s.stepWhen due (fun u => u.setChannel c (x u)) = { s with channels := s.channels.set c (x s) } :=
  (s.stepWhen_due _ _ hpower hdue).trans (event_of_work _ s rfl rfl rfl rfl)

theorem exec_surgeEnd (h : s.channels[c].phase = .surge) (hlast : s.channels[c].remaining = 1) :
    exec (.surgeEnd c) s = .next { s with channels := s.channels.set c (s.channels[c].enterSettle (s.profileOf c)) } :=
  congrArg _ (s.stepPhase_due hpower c _ _ ((Channel.lastCycle_iff _ _).2 ⟨h, hlast⟩))

theorem exec_settleEnd (h : s.channels[c].phase = .settle) (hlast : s.channels[c].remaining = 1) :
    exec (.settleEnd c) s = .next { s with channels := s.channels.set c (s.channels[c].setPhase .steady 0) } :=
  congrArg _ (s.stepPhase_due hpower c _ _ ((Channel.lastCycle_iff _ _).2 ⟨h, hlast⟩))

theorem exec_releaseEnd (h : s.channels[c].phase = .release) (hlast : s.channels[c].remaining = 1) :
    exec (.releaseEnd c) s = .next { s with channels := s.channels.set c (s.channels[c].setPhase .off 0) } :=
  congrArg _ (s.stepPhase_due hpower c _ _ ((Channel.lastCycle_iff _ _).2 ⟨h, hlast⟩))

theorem exec_dimSettleEnd (h : s.sched.dimSettle = 1) :
    exec .dimSettleEnd s = .next { s with sched := { s.sched with dimSettle := 0 } } := by
  have hwork : s.settleTick = { s with sched := { s.sched with dimSettle := 0 } } := by
    rw [State.settleTick, State.mapSched, h]
  have hdue : (s.sched.dimSettle == 1) = true := beq_iff_eq.2 h
  exact congrArg _ ((s.stepWhen_due _ _ hpower hdue).trans (event_of_work _ s hwork rfl rfl rfl))

end PhaseSteps

theorem State.stepPhase_idle (s : State) (c : Fin 64) (f : State → State) (p : Phase)
    (h : s.channels[c].phase ≠ p ∨ s.channels[c].remaining ≠ 1) :
    s.stepWhen (fun u => u.channels[c].lastCycle p) f = s :=
  s.stepWhen_idle _ _ fun hdue => by
    obtain ⟨hphase, hlast⟩ := (Channel.lastCycle_iff _ _).1 hdue
    exact h.elim (fun hn => hn hphase) fun hn => hn hlast

theorem exec_dimSettleEnd_idle (s : State) (h : s.sched.dimSettle ≠ 1) : exec .dimSettleEnd s = .next s :=
  congrArg _ (s.stepWhen_idle _ _ fun hdue => h (beq_iff_eq.1 hdue))

/-- Settles O46: the duration table, the ends of the phases as steps, and the phase machine of a cycle tick. -/
theorem phaseEnds : Obligations.PhaseEnds := by
  unfold Obligations.PhaseEnds
  refine ⟨⟨by decide, fun s hpower => ⟨fun c => ⟨fun h hlast => ?_, exec_settleEnd s hpower c,
      exec_releaseEnd s hpower c, fun h => ?_, fun h => ?_, fun h => ?_⟩, exec_dimSettleEnd s hpower,
      exec_dimSettleEnd_idle s⟩⟩,
    fun c f on => ⟨c.advance f on, _, rfl, rfl, c.advance_eq c f on rfl rfl rfl, fun hoff hon => ?_, fun hon hoff =>
      ?_, fun hsame => ?_⟩,
    fun _ => rfl⟩
  · rw [exec_surgeEnd s hpower c h hlast, Channel.enterSettle_eq]
    rfl
  · exact congrArg _ (s.stepPhase_idle c _ .surge h)
  · exact congrArg _ (s.stepPhase_idle c _ .settle h)
  · exact congrArg _ (s.stepPhase_idle c _ .release h)
  · subst hon
    obtain ⟨hphase, hremaining⟩ := c.advance_switched f true (by rw [hoff]; decide)
    rw [hphase, hremaining]
    refine ⟨fun hsurge => ?_, fun hsurge => ?_⟩
    · simp only [Channel.switch, Channel.enterSurge, if_neg hsurge, if_true]
      exact ⟨rfl, rfl⟩
    · simp only [Channel.switch, Channel.enterSurge, if_pos hsurge, if_true, Channel.enterSettle_eq]
      exact ⟨rfl, rfl⟩
  · subst hoff
    obtain ⟨hphase, hremaining⟩ := c.advance_switched f false (by rw [hon]; decide)
    rw [hphase, hremaining]
    simp only [Channel.switch, Bool.false_eq_true, if_false, Channel.enterRelease_eq]
    exact ⟨rfl, rfl⟩
  · obtain ⟨hphase, hremaining⟩ := c.advance_counted f on hsame
    rw [hphase, hremaining]
    refine ⟨fun h => ?_, fun hoff hsteady hmore => ?_, fun hlast => ?_⟩
    · rw [c.countCycle_untimed f h]
      exact ⟨rfl, rfl⟩
    · rw [c.countCycle_runs f hoff hsteady hmore]
      exact ⟨rfl, rfl⟩
    · obtain ⟨hsurge, hsettle, hrelease⟩ := c.countCycle_ends f hlast
      refine ⟨fun h => ?_, fun h => ?_, fun h => ?_⟩
      · rw [hsurge h, Channel.enterSettle_eq]
        exact ⟨rfl, rfl⟩
      · rw [hsettle h]
        exact ⟨rfl, rfl⟩
      · rw [hrelease h]
        exact ⟨rfl, rfl⟩

end Sys2Proof.Machine
end

section
/-! The ends of a green: demand, extension and maximum, the transition that leaves a stage, the change of the plan, and
the stuck detector (R50, R62 to R64, R69 to R75, R80). -/

namespace Sys2Proof.Machine

/-! ## The demand and the extension at a tenth (R69 to R71) -/

theorem State.extendActive_iff (s : State) (c : Context) : s.extendActive c = true ↔
    ∃ n : Fin 16, has c.holders n = true ∧ s.detectors[n].cfg.enabled = true ∧ s.detectors[n].faulty = false ∧
      s.detectors[n].level = true := by
  simp only [State.extendActive, allGroups, List.any_eq_true, List.mem_finRange, true_and, Bool.and_eq_true,
    Bool.not_eq_true', and_assoc]

theorem State.waitingDemand_iff (s : State) (cur : Fin 96) :
    s.waitingDemand cur = true ↔ ∃ d ∈ s.others cur, s.eligible d = true := List.any_eq_true

theorem State.workGreen_of_context (s : State) (c : Context) (hc : s.seq.context = some c) : s.workGreen =
    { s with seq := { s.seq with
      context := some (c.work (s.extendActive c) (s.waitingDemand c.descriptor)) } } := by
  simp only [State.workGreen, hc]
  rfl

/-! ## The judgements of a green (R69, R72) -/

theorem Context.maxedOut_of_some {c : Context} {m : Nat} (hm : c.maxTimer = some m) :
    c.maxedOut = true ↔ c.timing.maxGreen ≤ m := by
  simp only [Context.maxedOut, hm, decide_eq_true_iff]

theorem Context.gappedOut_iff (c : Context) : c.gappedOut = true ↔ c.timing.step = 0 ∨ c.extTimer = 0 := by
  simp only [Context.gappedOut, Bool.or_eq_true, beq_iff_eq]

theorem State.setSeqState_self (s : State) (x : SeqState) (h : s.seq.state = x) : s.setSeqState x = s := by
  rw [← h]
  rfl

/-- A new state of the sequencer is no settled field of a record. -/
theorem State.event_setSeqState (s : State) (f : State → State) (x : SeqState) (h : f s = s.setSeqState x) :
    event f s = { s with seq := { s.seq with state := x } } := event_of_work f s h rfl rfl rfl

section Green

variable (s : State) (c : Context) (hc : s.seq.context = some c)

include hc

theorem State.judgeExtending_of_context : s.judgeExtending =
    if c.maxTimer = none then s.setSeqState .resting
    else if c.maxedOut then s.leaveStage
    else if c.gappedOut then s.leaveStage
    else s := by
  simp only [State.judgeExtending, hc]

theorem State.judgeExtending_rests (hm : c.maxTimer = none) : s.judgeExtending = s.setSeqState .resting := by
  rw [s.judgeExtending_of_context c hc, if_pos hm]

theorem State.judgeExtending_runs {m : Nat} (hm : c.maxTimer = some m) (hmax : m < c.timing.maxGreen)
    (hstep : c.timing.step ≠ 0) (hext : c.extTimer ≠ 0) : s.judgeExtending = s := by
  have hdemand : c.maxTimer ≠ none := by rw [hm]; nofun
  have hmaxed : ¬ c.maxedOut = true := fun h => Nat.not_le.2 hmax ((Context.maxedOut_of_some hm).1 h)
  have hgapped : ¬ c.gappedOut = true := fun h => (c.gappedOut_iff.1 h).elim hstep hext
  rw [s.judgeExtending_of_context c hc, if_neg hdemand, if_neg hmaxed, if_neg hgapped]

/-- MAX_OUT comes before GAP_OUT; either leaves the stage (R72). -/
theorem State.judgeExtending_leaves {m : Nat} (hm : c.maxTimer = some m)
    (hout : c.timing.maxGreen ≤ m ∨ c.timing.step = 0 ∨ c.extTimer = 0) : s.judgeExtending = s.leaveStage := by
  have hdemand : c.maxTimer ≠ none := by rw [hm]; nofun
  rw [s.judgeExtending_of_context c hc, if_neg hdemand]
  by_cases hmaxed : c.maxedOut = true
  · rw [if_pos hmaxed]
  · have hgapped : c.gappedOut = true :=
      c.gappedOut_iff.2 (hout.resolve_left fun h => hmaxed ((Context.maxedOut_of_some hm).2 h))
    rw [if_neg hmaxed, if_pos hgapped]

theorem State.minGreenRun_iff : s.minGreenRun = true ↔ c.timing.minGreen ≤ c.greenTimer := by
  simp only [State.minGreenRun, hc, decide_eq_true_iff]

theorem State.demandPresent_iff : s.demandPresent = true ↔ c.maxTimer ≠ none := by
  simp only [State.demandPresent, hc, Option.isSome_iff_ne_none]

theorem State.endMinGreen_rests (hm : c.maxTimer = none) : s.endMinGreen = s.setSeqState .resting :=
  if_neg fun h => (s.demandPresent_iff c hc).1 h hm

theorem State.endMinGreen_extends (hm : c.maxTimer ≠ none) : s.endMinGreen = (s.setSeqState .extending).judgeExtending
    :=
  if_pos ((s.demandPresent_iff c hc).2 hm)

/-- A green that may be left: its minimum has run, or it is past it (R69, R72). -/
def State.leavable (s : State) (c : Context) : Prop :=
  (s.seq.state = .minGreen ∧ c.timing.minGreen ≤ c.greenTimer) ∨ s.seq.state = .extending ∨ s.seq.state = .resting

theorem State.judgeGreen_rests (hl : s.leavable c) (hm : c.maxTimer = none) : s.judgeGreen = s.setSeqState .resting :=
  by
  rcases hl with ⟨hstate, hrun⟩ | hstate | hstate
  · simp only [State.judgeGreen, hstate, (s.minGreenRun_iff c hc).2 hrun, if_true]
    exact s.endMinGreen_rests c hc hm
  · simp only [State.judgeGreen, hstate]
    exact s.judgeExtending_rests c hc hm
  · have hnone : ¬ s.demandPresent = true := fun h => (s.demandPresent_iff c hc).1 h hm
    simp only [State.judgeGreen, hstate, if_neg hnone]
    exact (s.setSeqState_self .resting hstate).symm

theorem State.judgeGreen_extends (hl : s.leavable c) (hm : c.maxTimer ≠ none) :
    s.judgeGreen = (s.setSeqState .extending).judgeExtending := by
  rcases hl with ⟨hstate, hrun⟩ | hstate | hstate
  · simp only [State.judgeGreen, hstate, (s.minGreenRun_iff c hc).2 hrun, if_true]
    exact s.endMinGreen_extends c hc hm
  · rw [s.setSeqState_self .extending hstate]
    simp only [State.judgeGreen, hstate]
  · simp only [State.judgeGreen, hstate, (s.demandPresent_iff c hc).2 hm, if_true]

/-! ## The ends of a green as steps (R69, R72; log entry 5) -/

theorem State.maxOutDue_iff :
    s.maxOutDue = true ↔ s.seq.state = .extending ∧ ∃ m, c.maxTimer = some m ∧ c.timing.maxGreen ≤ m := by
  cases hm : c.maxTimer with
  | none => simp [State.maxOutDue, hc, hm]
  | some m => simp [State.maxOutDue, hc, hm, Context.maxedOut_of_some hm]

theorem State.gapOutDue_iff : s.gapOutDue = true ↔
    s.seq.state = .extending ∧ ∃ m, c.maxTimer = some m ∧ m < c.timing.maxGreen ∧ (c.timing.step = 0 ∨ c.extTimer = 0)
      := by
  have hmaxed (m : Nat) (hm : c.maxTimer = some m) : c.maxedOut = false ↔ m < c.timing.maxGreen := by
    rw [← Bool.not_eq_true, Context.maxedOut_of_some hm, Nat.not_le]
  cases hm : c.maxTimer with
  | none => simp [State.gapOutDue, hc, hm]
  | some m => simp [State.gapOutDue, hc, hm, hmaxed m hm, Context.gappedOut_iff]

variable (hpower : s.base.mainPower = true)

include hpower

theorem exec_minGreenEnd_due (hstate : s.seq.state = .minGreen) (hrun : c.timing.minGreen ≤ c.greenTimer) :
    exec .minGreenEnd s = .next (event State.endMinGreen s) := by
  have hdue : (s.seq.state == .minGreen && s.minGreenRun) = true :=
    Bool.and_eq_true_iff.2 ⟨beq_iff_eq.2 hstate, (s.minGreenRun_iff c hc).2 hrun⟩
  exact congrArg _ (s.stepWhen_due _ _ hpower hdue)

theorem exec_maxOut_due {m : Nat} (hstate : s.seq.state = .extending) (hm : c.maxTimer = some m)
    (hmax : c.timing.maxGreen ≤ m) : exec .maxOut s = .next (event State.leaveStage s) :=
  congrArg _ (s.stepWhen_due _ _ hpower ((s.maxOutDue_iff c hc).2 ⟨hstate, m, hm, hmax⟩))

theorem exec_gapOut_due {m : Nat} (hstate : s.seq.state = .extending) (hm : c.maxTimer = some m)
    (hmax : m < c.timing.maxGreen) (hgap : c.timing.step = 0 ∨ c.extTimer = 0) :
    exec .gapOut s = .next (event State.leaveStage s) :=
  congrArg _ (s.stepWhen_due _ _ hpower ((s.gapOutDue_iff c hc).2 ⟨hstate, m, hm, hmax, hgap⟩))

end Green

theorem exec_minGreenEnd_idle (s : State) (h : ¬ (s.seq.state = .minGreen ∧ s.minGreenRun = true)) :
    exec .minGreenEnd s = .next s := by
  refine congrArg _ (s.stepWhen_idle _ _ fun hdue => h ?_)
  obtain ⟨hstate, hrun⟩ := Bool.and_eq_true_iff.1 hdue
  exact ⟨eq_of_beq hstate, hrun⟩

theorem exec_maxOut_idle (s : State) (h : ¬ s.maxOutDue = true) : exec .maxOut s = .next s :=
  congrArg _ (s.stepWhen_idle _ _ h)

theorem exec_gapOut_idle (s : State) (h : ¬ s.gapOutDue = true) : exec .gapOut s = .next s :=
  congrArg _ (s.stepWhen_idle _ _ h)

/-- With no context none of the three is due. -/
theorem exec_greenEnds_none (s : State) (h : s.seq.context = none) :
    exec .minGreenEnd s = .next s ∧ exec .maxOut s = .next s ∧ exec .gapOut s = .next s := by
  refine ⟨exec_minGreenEnd_idle s fun ⟨_, hrun⟩ => ?_, exec_maxOut_idle s ?_, exec_gapOut_idle s ?_⟩
  · simp only [State.minGreenRun, h, Bool.false_eq_true] at hrun
  · simp only [State.maxOutDue, h, Bool.and_false, Bool.false_eq_true, not_false_eq_true]
  · simp only [State.gapOutDue, h, Bool.and_false, Bool.false_eq_true, not_false_eq_true]

/-! ## Leaving a stage (R71, R73, R74) -/

theorem State.leaveStage_stays (s : State) (h : s.seq.context = none ∨ s.seq.running = none) : s.leaveStage = s := by
  unfold State.leaveStage
  split
  · next p c hp hc =>
    rcases h with h | h
    · exact absurd (h.symm.trans hc) nofun
    · exact absurd (h.symm.trans hp) nofun
  · rfl

section Choice

variable (s : State) (c : Context) (p : Fin 8) (d : Fin 96) (hc : s.seq.context = some c) (hp : s.seq.running = some p)
  (hd : (s.others c.descriptor).find? s.eligible = some d)

include hc hp hd

theorem State.leaveStage_starts (hq : s.seq.pending = none) :
    s.leaveStage = s.startTransition (some c.descriptor) d := by
  simp only [State.leaveStage, hc, hp, hd, hq]

theorem State.leaveStage_of_pending (q : Fin 8) (hq : s.seq.pending = some q) : s.leaveStage =
    if s.changeDue p c.descriptor then s.changePlan c.descriptor q
    else s.startTransition (some c.descriptor) d := by
  simp only [State.leaveStage, hc, hp, hd, hq]

end Choice

theorem State.leaveStage_unchosen (s : State) (c : Context) (hc : s.seq.context = some c)
    (h : ∀ d ∈ s.others c.descriptor, s.eligible d = false) : s.leaveStage = s := by
  have hnone : (s.others c.descriptor).find? s.eligible = none :=
    List.find?_eq_none.2 fun d hd => Bool.eq_false_iff.1 (h d hd)
  cases hp : s.seq.running with
  | none => exact s.leaveStage_stays (.inr hp)
  | some p => simp only [State.leaveStage, hc, hp, hnone]

/-- The descriptors of a closed chain after one of them, by their next links (R71). -/
theorem State.walk_eq (s : State) (stop : Fin 96) (stages : List (Fin 96)) (x : Fin 96) (fuel : Nat)
    (hstop : stop ∉ stages) (hfuel : stages.length ≤ fuel)
    (hlink : ∀ (k : Nat) (d e : Fin 96), (x :: stages)[k]? = some d → (x :: stages)[k + 1]? = some e →
      s.stages[d].shape.next = e)
    (hlast : ∀ d, (x :: stages).getLast? = some d → s.stages[d].shape.next = stop) :
    s.walk stop fuel s.stages[x].shape.next = stages := by
  induction stages generalizing x fuel with
  | nil =>
    rw [hlast x rfl]
    cases fuel with
    | zero => rfl
    | succ fuel => simp only [State.walk, if_true]
  | cons y stages ih =>
    obtain ⟨fuel, rfl⟩ : ∃ n, fuel = n + 1 := ⟨fuel - 1, by simp only [List.length_cons] at hfuel; omega⟩
    obtain ⟨hy, hstages⟩ := List.ne_and_not_mem_of_not_mem_cons hstop
    rw [hlink 0 x y rfl rfl, State.walk, if_neg hy.symm]
    refine congrArg _ (ih y fuel hstages (Nat.le_of_succ_le_succ hfuel) (fun k d e hd he => ?_) fun d hd => ?_)
    · exact hlink (k + 1) d e hd he
    · exact hlast d (List.getLast?_cons_cons.trans hd)

/-- A walk passes over x exactly where x and every stage before it are passed over. -/
theorem mem_takeWhile_iff {α : Type} (p : α → Bool) (l : List α) (x : α) : x ∈ l.takeWhile p ↔
    ∃ before after, l = before ++ x :: after ∧ p x = true ∧ ∀ y ∈ before, p y = true := by
  constructor
  · intro hx
    obtain ⟨before, rest, heq⟩ := List.append_of_mem hx
    have hall (y : α) (hy : y ∈ l.takeWhile p) : p y = true := List.mem_takeWhile_imp hy
    refine ⟨before, rest ++ l.dropWhile p, ?_, hall x hx, fun y hy => hall y ?_⟩
    · calc l = l.takeWhile p ++ l.dropWhile p := List.takeWhile_append_dropWhile.symm
        _ = before ++ x :: (rest ++ l.dropWhile p) := by rw [heq, List.append_assoc, List.cons_append]
    · rw [heq]
      exact List.mem_append_left _ hy
  · rintro ⟨before, after, rfl, hx, hbefore⟩
    rw [List.takeWhile_append_of_pos hbefore, List.takeWhile_cons_of_pos hx]
    exact List.mem_append_right _ List.mem_cons_self

theorem State.changeDue_iff (s : State) (p : Fin 8) (cur : Fin 96) :
    s.changeDue p cur = true ↔ s.plans[p].changePoint = cur ∨
      ∃ before after, s.others cur = before ++ s.plans[p].changePoint :: after ∧
        s.barred s.plans[p].changePoint = true ∧ ∀ x ∈ before, s.barred x = true := by
  rw [← mem_takeWhile_iff, State.changeDue, Bool.or_eq_true, beq_iff_eq, List.contains_iff_mem]

/-! ## The change of the plan (R50, R74, R75) -/

/-- The state in which the pending plan q has come to run, before its first stage is entered. -/
def State.planChanged (s : State) (q : Fin 8) : State :=
  { s with
    seq := { s.seq with running := some q, pending := pendingFor (some q) s.sched.requested }
    attn := s.attn.post .plan (nameOf .plan q.val) }

theorem pendingFor_running (q : Fin 8) (requested : Option (Fin 8)) : pendingFor (some q) requested =
    if requested = none ∨ requested = some q then none else requested := by
  rw [pendingFor_eq]
  simp only [reduceCtorEq, false_or]

theorem State.changePlan_eq (s : State) (cur : Fin 96) (q : Fin 8) : s.changePlan cur q =
    match (s.planChanged q).entryChoice q with
    | some d => ((s.planChanged q).startTransition (some cur) d).indicate
    | none => ((s.planChanged q).setSeqState .resting).indicate := rfl

theorem State.changePlan_some (s : State) (cur d : Fin 96) (q : Fin 8) (h : (s.planChanged q).entryChoice q = some d) :
    s.changePlan cur q = ((s.planChanged q).startTransition (some cur) d).indicate := by
  simp only [State.changePlan_eq, h]

theorem State.changePlan_none (s : State) (cur : Fin 96) (q : Fin 8) (h : (s.planChanged q).entryChoice q = none) :
    s.changePlan cur q = ((s.planChanged q).setSeqState .resting).indicate := by
  simp only [State.changePlan_eq, h]

/-! ## The transition (R63, R64) -/

theorem State.mem_losersOf (s : State) (b : Fin 96) (g : Fin 16) :
    (s.losersOf b).contains g = true ↔ s.groups[g].aspect = .green ∧ s.names b g = false := by
  simp only [List.contains_iff_mem, State.losersOf, allGroups, List.mem_filter, List.mem_finRange, true_and,
    Bool.and_eq_true, beq_iff_eq, Bool.not_eq_true']

theorem State.losing_group (s : State) (b : Fin 96) (g : Fin 16) : (s.losing b).groups[g] =
    if s.groups[g].aspect = .green ∧ s.names b g = false then
      { s.groups[g] with aspect := .leaving, stateTimer := 0, sinceGreen := 0 }
    else s.groups[g] := by
  refine (ofFn_get _ g).trans ?_
  by_cases hl : s.groups[g].aspect = .green ∧ s.names b g = false
  · rw [if_pos ((s.mem_losersOf b g).2 hl), if_pos hl]
    simp only [Group.enter, hl.1, reduceCtorEq, if_false, if_true]
  · rw [if_neg fun h => hl ((s.mem_losersOf b g).1 h), if_neg hl]

theorem State.losersOf_eq (s : State) (b : Fin 96) : s.losersOf b =
    (List.finRange 16).filter fun g => decide (s.groups[g].aspect = .green ∧ s.names b g = false) := by
  refine List.filter_congr fun g _ => Bool.eq_iff_iff.2 ?_
  simp only [Bool.and_eq_true, beq_iff_eq, Bool.not_eq_true', decide_eq_true_iff]

theorem State.gainersOf_eq (s : State) (b : Fin 96) : s.gainersOf b = (List.finRange 16).filter fun g =>
    decide (s.names b g = true ∧ s.groups[g].aspect ≠ .green ∧ s.groups[g].aspect ≠ .dark) := by
  refine List.filter_congr fun g _ => Bool.eq_iff_iff.2 ?_
  simp only [Bool.and_eq_true, bne_iff_ne, decide_eq_true_iff, and_assoc]

theorem State.losing_gainerOf (s : State) (b : Fin 96) (g : Fin 16) : (s.losing b).gainerOf g =
    { group := g, prepStart := (s.losing b).waitOf g - s.groups[g].cfg.prepTime, greenStart := (s.losing b).waitOf g }
      := by
  have hcfg : (s.losing b).groups[g].cfg = s.groups[g].cfg := by
    rw [s.losing_group b g]
    split <;> rfl
  rw [State.gainerOf, hcfg]

theorem State.interstageFor_eq (s : State) (a : Option (Fin 96)) (b : Fin 96) : s.interstageFor a b =
    { leaving := a, entering := b, timer := 0
      losers := (List.finRange 16).filter fun g => decide (s.groups[g].aspect = .green ∧ s.names b g = false)
      gainers := ((List.finRange 16).filter fun g =>
          decide (s.names b g = true ∧ s.groups[g].aspect ≠ .green ∧ s.groups[g].aspect ≠ .dark)).map fun g =>
        { group := g, prepStart := (s.losing b).waitOf g - s.groups[g].cfg.prepTime
          greenStart := (s.losing b).waitOf g } } := by
  rw [State.interstageFor, ← s.losersOf_eq b, ← s.gainersOf_eq b]
  exact congrArg (fun l => ({ leaving := a, entering := b, timer := 0, losers := s.losersOf b, gainers := l } :
    Interstage))
    (List.map_congr_left fun g _ => s.losing_gainerOf b g)

/-- Step 2 at the tenth the transition starts. -/
theorem State.begun_step (s : State) (a : Option (Fin 96)) (b : Fin 96) : (s.begun a b).interstageStep =
    ({ s.begun a b with
      groups := Vector.ofFn fun g => (s.interstageFor a b).stepGroup g (s.losing b).groups[g] } : State).endInterstage
        :=
  rfl

theorem State.startTransition_group (s : State) (a : Option (Fin 96)) (b : Fin 96) (g : Fin 16) :
    (s.startTransition a b).groups[g] = (s.interstageFor a b).stepGroup g (s.losing b).groups[g] := by
  rw [State.startTransition_eq, State.freshGreen_groups, State.begun_step, State.endInterstage_groups]
  exact ofFn_get _ g

/-- A group that B does not name, or that is GREEN or DARK, gains nothing (R63). -/
theorem State.find_gainer_none (s : State) (a : Option (Fin 96)) (b : Fin 96) (g : Fin 16)
    (h : s.names b g = false ∨ s.groups[g].aspect = .green ∨ s.groups[g].aspect = .dark) :
    ((s.interstageFor a b).gainers.find? fun x => x.group == g) = none := by
  rw [s.interstageFor_eq a b, List.find?_eq_none]
  intro x hx hg
  obtain ⟨i, hi, rfl⟩ := List.mem_map.1 hx
  obtain rfl : i = g := eq_of_beq hg
  obtain ⟨hnames, hgreen, hdark⟩ := of_decide_eq_true (List.mem_filter.1 hi).2
  rcases h with h | h | h
  · exact Bool.false_ne_true (h.symm.trans hnames)
  · exact hgreen h
  · exact hdark h

/-- A group that gains nothing and is not due to turn red stays as the start of the transition left it. -/
theorem State.startTransition_group_stays (s : State) (a : Option (Fin 96)) (b : Fin 96) (g : Fin 16)
    (hgain : s.names b g = false ∨ s.groups[g].aspect = .green ∨ s.groups[g].aspect = .dark)
    (hlose : s.groups[g].aspect = .green → s.names b g = false → 0 < s.groups[g].cfg.leavingTime) :
    (s.startTransition a b).groups[g] = (s.losing b).groups[g] := by
  have hleaving : ¬ ((s.interstageFor a b).losers.contains g && (s.losing b).groups[g].leavingDone) = true := by
    intro h
    obtain ⟨hl, hdone⟩ := Bool.and_eq_true_iff.1 h
    have hloser := (s.mem_losersOf b g).1 hl
    rw [s.losing_group b g, if_pos hloser] at hdone
    have htime := of_decide_eq_true (Bool.and_eq_true_iff.1 hdone).2
    exact absurd (hlose hloser.1 hloser.2) (Nat.not_lt.2 htime)
  rw [s.startTransition_group a b g, Interstage.stepGroup, if_neg hleaving, s.find_gainer_none a b g hgain]

/-! ### What a transition leaves unchanged -/

theorem State.endInterstage_frame (s : State) : s.endInterstage =
    { s with seq := s.endInterstage.seq, detectors := s.endInterstage.detectors } := by
  rcases s.endInterstage_cases with h | ⟨r, -, h⟩
  · rw [h]
  · rw [h]
    rfl

theorem State.freshGreen_frame (s : State) : s.freshGreen = { s with seq := s.freshGreen.seq } := by
  unfold State.freshGreen State.workGreen
  repeat' split
  all_goals rfl

theorem State.interstageStep_frame (s : State) : s.interstageStep =
    { s with
      groups := s.interstageStep.groups, seq := s.interstageStep.seq, detectors := s.interstageStep.detectors } := by
  rcases s.interstageStep_cases with h | ⟨-, v, h⟩
  · rw [h]
  · rw [h, State.endInterstage_groups]
    exact State.endInterstage_frame { s with groups := v }

theorem State.begun_frame (s : State) (a : Option (Fin 96)) (b : Fin 96) (groups : Vector Group 16) (seq : Sequencer)
    (detectors : Vector Detector 16) :
    ({ s.begun a b with groups := groups, seq := seq, detectors := detectors } : State) =
      { s with groups := groups, seq := seq, detectors := detectors } := by
  simp only [State.begun, State.losing]

theorem State.startTransition_frame (s : State) (a : Option (Fin 96)) (b : Fin 96) : s.startTransition a b =
    { s with
      groups := (s.startTransition a b).groups, seq := (s.startTransition a b).seq
      detectors := (s.startTransition a b).detectors } := by
  rw [State.startTransition_eq, State.freshGreen_frame, State.interstageStep_frame, State.begun_frame]

theorem State.endInterstage_current (s : State) : s.endInterstage.seq.current = s.seq.current := by
  rcases s.endInterstage_cases with h | ⟨r, -, h⟩
  · rw [h]
  · rw [h]
    rfl

theorem State.freshGreen_current (s : State) : s.freshGreen.seq.current = s.seq.current := by
  unfold State.freshGreen State.workGreen
  repeat' split
  all_goals rfl

theorem State.startTransition_current (s : State) (a : Option (Fin 96)) (b : Fin 96) :
    (s.startTransition a b).seq.current = some b := by
  rw [State.startTransition_eq, State.freshGreen_current, State.begun_step, State.endInterstage_current]
  rfl

theorem State.startTransition_plans_run (s : State) (a : Option (Fin 96)) (b : Fin 96) :
    (s.startTransition a b).seq.running = s.seq.running ∧ (s.startTransition a b).seq.pending = s.seq.pending := by
  have hsteps := (s.begun a b).interstageStep_steps.trans (State.freshGreen_steps _)
  exact ⟨hsteps.running, hsteps.pending⟩

/-- While the interstage lasts its record is the one it began with. -/
theorem State.begun_interstage (s : State) (a : Option (Fin 96)) (b : Fin 96)
    (h : (s.begun a b).interstageStep.seq.state = .interstage) :
    (s.begun a b).interstageStep.seq.interstage = some (s.interstageFor a b) := by
  rw [State.begun_step] at h ⊢
  rcases State.endInterstage_cases { s.begun a b with
      groups := Vector.ofFn fun g => (s.interstageFor a b).stepGroup g (s.losing b).groups[g] } with hsame | ⟨r, -,
        hgreen⟩
  · rw [hsame]
    rfl
  · rw [hgreen] at h
    exact absurd h nofun

/-! ## A stuck detector (R80) -/

theorem exec_detectorFaulty_due (s : State) (d : Fin 16) (hpower : s.base.mainPower = true)
    (h : s.detectors[d].stuck = true) : exec (.detectorFaulty d) s = .next { s with
      detectors := s.detectors.set d
        { s.detectors[d] with faulty := true, latch := true, rev := s.detectors[d].rev + 1 }
      attn := s.attn.post .notice (nameOf .detector d.val) } := by
  rw [← Detector.makeFaulty_eq _ h]
  exact congrArg _ ((s.stepWhen_due (fun u => u.detectors[d].stuck) (fun u => u.detectorFaulty d) hpower h).trans
    (event_of_work _ s rfl rfl rfl rfl))

theorem exec_detectorFaulty_idle (s : State) (d : Fin 16) (h : ¬ s.detectors[d].stuck = true) :
    exec (.detectorFaulty d) s = .next s :=
  congrArg _ (s.stepWhen_idle (fun u => u.detectors[d].stuck) _ h)

/-! ## The statement -/

/-- The work of a tenth of a green on its context (R69, R70). -/
def State.contextAfter (s : State) (c : Context) : Context :=
  c.work (s.extendActive c) (s.waitingDemand c.descriptor)

theorem State.contextAfter_eq (s : State) (c : Context)
    [Decidable (∃ n : Fin 16, has c.holders n = true ∧ s.detectors[n].cfg.enabled = true ∧
      s.detectors[n].faulty = false ∧ s.detectors[n].level = true)]
    [Decidable (∃ d ∈ s.others c.descriptor, s.eligible d = true)] : s.contextAfter c =
      { c with
        extTimer := if ∃ n : Fin 16, has c.holders n = true ∧ s.detectors[n].cfg.enabled = true ∧
            s.detectors[n].faulty = false ∧ s.detectors[n].level = true then c.timing.step else c.extTimer - 1
        maxTimer := if ∃ d ∈ s.others c.descriptor, s.eligible d = true then some (c.maxTimer.getD 0) else none } := by
  simp only [State.contextAfter, Context.work, ← s.extendActive_iff c, ← s.waitingDemand_iff c.descriptor]

/-- The green whose context has been worked, before it is judged. -/
def State.greenWorked (s : State) (c : Context) : State :=
  { s with seq := { s.seq with context := some (s.contextAfter c) } }

theorem State.leavable_inGreen {s : State} {c : Context} (h : s.leavable c) : s.seq.state.inGreen = true := by
  rcases h with ⟨h, -⟩ | h | h
  all_goals rw [h]; rfl

theorem State.greenStep_outside (s : State) (hmin : s.seq.state ≠ .minGreen) (hext : s.seq.state ≠ .extending)
    (hrest : s.seq.state ≠ .resting) : s.greenStep = s := by
  refine if_neg ?_
  cases hstate : s.seq.state with
  | minGreen => exact absurd hstate hmin
  | extending => exact absurd hstate hext
  | resting => exact absurd hstate hrest
  | stopped | allRed | interstage | suspended => exact Bool.false_ne_true

/-- A green is judged after its context is worked (R62, R69, R72). -/
theorem State.greenStep_judges (s : State) (c : Context) (hc : s.seq.context = some c)
    (hgreen : s.seq.state.inGreen = true) : s.greenStep = (s.greenWorked c).judgeGreen := by
  rw [State.greenStep, if_pos hgreen, s.workGreen_of_context c hc]
  rfl

theorem State.greenStep_short (s : State) (c : Context) (hc : s.seq.context = some c) (hstate : s.seq.state = .minGreen)
    (hshort : c.greenTimer < c.timing.minGreen) : s.greenStep = s.greenWorked c := by
  have hrun : ¬ (s.greenWorked c).minGreenRun = true := fun h =>
    Nat.not_le.2 hshort ((State.minGreenRun_iff _ (s.contextAfter c) rfl).1 h)
  have hsame : (s.greenWorked c).seq.state = .minGreen := hstate
  rw [s.greenStep_judges c hc (by rw [hstate]; rfl)]
  simp only [State.judgeGreen, hsame, if_neg hrun]

section GreenStep

variable (s : State) (c : Context) (hc : s.seq.context = some c) (hl : s.leavable c)

include hc hl

theorem State.greenStep_rests (hm : (s.contextAfter c).maxTimer = none) :
    s.greenStep = (s.greenWorked c).setSeqState .resting :=
  (s.greenStep_judges c hc (State.leavable_inGreen hl)).trans
    ((s.greenWorked c).judgeGreen_rests (s.contextAfter c) rfl hl hm)

theorem State.greenStep_extends {m : Nat} (hm : (s.contextAfter c).maxTimer = some m) :
    s.greenStep = ((s.greenWorked c).setSeqState .extending).judgeExtending :=
  (s.greenStep_judges c hc (State.leavable_inGreen hl)).trans
    ((s.greenWorked c).judgeGreen_extends (s.contextAfter c) rfl hl (by rw [hm]; nofun))

theorem State.greenStep_runs {m : Nat} (hm : (s.contextAfter c).maxTimer = some m) (hmax : m < c.timing.maxGreen)
    (hstep : c.timing.step ≠ 0) (hext : (s.contextAfter c).extTimer ≠ 0) :
    s.greenStep = (s.greenWorked c).setSeqState .extending :=
  (s.greenStep_extends c hc hl hm).trans
    (((s.greenWorked c).setSeqState .extending).judgeExtending_runs (s.contextAfter c) rfl hm hmax hstep hext)

theorem State.greenStep_leaves {m : Nat} (hm : (s.contextAfter c).maxTimer = some m)
    (hout : c.timing.maxGreen ≤ m ∨ c.timing.step = 0 ∨ (s.contextAfter c).extTimer = 0) :
    s.greenStep = ((s.greenWorked c).setSeqState .extending).leaveStage :=
  (s.greenStep_extends c hc hl hm).trans
    (((s.greenWorked c).setSeqState .extending).judgeExtending_leaves (s.contextAfter c) rfl hm hout)

end GreenStep

/-- Settles O51: the judgements and steps of a green, and the transition and plan change that leave it. -/
theorem endsOfAGreen : Obligations.EndsOfAGreen := by
  unfold Obligations.EndsOfAGreen
  refine ⟨fun s c hpower hc => ⟨fun hstate hrun => ⟨fun hm => ?rests, fun m hm hmax hstep hext => ?runs,
        fun m hm hout => ?leaves⟩, fun hshort => ?short, fun m hstate hm => ⟨fun hmax => ?maxOut, fun hmax =>
        ⟨?noMaxOut, exec_gapOut_due s c hc hpower hstate hm hmax, fun hstep hext => ?noGapOut⟩⟩, fun hidle => ?idle⟩,
    exec_greenEnds_none, State.leaveStage_stays,
    fun s c p d hc hp hd => ⟨s.leaveStage_starts c p d hc hp hd, fun q hq => ⟨fun hdue => ?goesOn, fun hdue =>
      ?changes⟩⟩,
    fun s a b => ⟨s.startTransition a b, rfl, s.startTransition_current a b, (s.startTransition_plans_run a b).1,
      (s.startTransition_plans_run a b).2, fun g => ⟨fun hgreen hnames htime => ?loses, fun hgreen hnames => ?runsOn,
        fun hdark => ?dark, fun hgreen hnames => ?unnamed⟩, s.startTransition_frame a b⟩,
    fun s d hpower => ⟨fun hfaulty hlimit hrun => ?stuck, fun h => ?sound⟩,
    fun s a b => ⟨s.losing b, (s.begun a b).interstageStep, s.interstageFor a b, s.losing_group b, rfl,
      s.interstageFor_eq a b, rfl, s.begun_interstage a b, rfl⟩,
    fun s cur stages hnodup hlength hlink hlast =>
      s.walk_eq cur stages cur 11 (List.nodup_cons.1 hnodup).1 hlength hlink hlast,
    State.changeDue_iff,
    fun s cur q => ⟨s.planChanged q, ?planChanged, fun d => s.changePlan_some cur d q, s.changePlan_none cur q⟩,
    State.leaveStage_unchosen,
    fun s c hc => ⟨s.contextAfter c, s.greenWorked c, (s.greenWorked c).setSeqState .extending, s.contextAfter_eq c,
      rfl,
      s.workGreen_of_context c hc, rfl, s.greenStep_outside, s.greenStep_short c hc, fun hl =>
        ⟨s.greenStep_rests c hc hl, fun _ hm => ⟨s.greenStep_runs c hc hl hm, s.greenStep_leaves c hc hl hm⟩⟩⟩⟩
  case rests =>
    rw [exec_minGreenEnd_due s c hc hpower hstate hrun,
      s.event_setSeqState _ .resting (s.endMinGreen_rests c hc hm)]
  case runs =>
    have hwork : s.endMinGreen = s.setSeqState .extending := by
      rw [s.endMinGreen_extends c hc (by rw [hm]; nofun)]
      exact State.judgeExtending_runs _ c hc hm hmax hstep hext
    rw [exec_minGreenEnd_due s c hc hpower hstate hrun, s.event_setSeqState _ .extending hwork]
  case leaves =>
    have hwork : s.endMinGreen = (s.setSeqState .extending).leaveStage := by
      rw [s.endMinGreen_extends c hc (by rw [hm]; nofun)]
      exact State.judgeExtending_leaves _ c hc hm hout
    exact (exec_minGreenEnd_due s c hc hpower hstate hrun).trans (congrArg _ (event_congr hwork))
  case short =>
    refine exec_minGreenEnd_idle s fun ⟨hstate, hrun⟩ => ?_
    have hreached := (s.minGreenRun_iff c hc).1 hrun
    exact hshort.elim (fun hn => hn hstate) fun hlt => Nat.not_le.2 hlt hreached
  case maxOut =>
    refine ⟨exec_maxOut_due s c hc hpower hstate hm hmax, exec_gapOut_idle s fun hdue => ?_⟩
    obtain ⟨-, n, hn, hlt, -⟩ := (s.gapOutDue_iff c hc).1 hdue
    obtain rfl : m = n := Option.some.inj (hm.symm.trans hn)
    omega
  case noMaxOut =>
    refine exec_maxOut_idle s fun hdue => ?_
    obtain ⟨-, n, hn, hle⟩ := (s.maxOutDue_iff c hc).1 hdue
    obtain rfl : m = n := Option.some.inj (hm.symm.trans hn)
    omega
  case noGapOut =>
    refine exec_gapOut_idle s fun hdue => ?_
    obtain ⟨-, -, -, -, hgap⟩ := (s.gapOutDue_iff c hc).1 hdue
    exact hgap.elim hstep hext
  case idle =>
    refine ⟨exec_maxOut_idle s fun hdue => ?_, exec_gapOut_idle s fun hdue => ?_⟩
    · obtain ⟨hstate, m, hm, -⟩ := (s.maxOutDue_iff c hc).1 hdue
      exact hidle.elim (fun hn => hn hstate) fun hnone => absurd (hnone.symm.trans hm) nofun
    · obtain ⟨hstate, m, hm, -⟩ := (s.gapOutDue_iff c hc).1 hdue
      exact hidle.elim (fun hn => hn hstate) fun hnone => absurd (hnone.symm.trans hm) nofun
  case goesOn => rw [s.leaveStage_of_pending c p d hc hp hd q hq, hdue, if_neg Bool.false_ne_true]
  case changes => rw [s.leaveStage_of_pending c p d hc hp hd q hq, if_pos hdue]
  case loses =>
    rw [s.startTransition_group_stays a b g (.inl hnames) fun _ _ => htime, s.losing_group b g, if_pos ⟨hgreen, hnames⟩]
    exact ⟨rfl, rfl, rfl⟩
  case runsOn =>
    have hstays : ¬ (s.groups[g].aspect = .green ∧ s.names b g = false) := fun h =>
      Bool.false_ne_true (h.2.symm.trans hnames)
    rw [s.startTransition_group_stays a b g (.inr (.inl hgreen)) fun h hn => absurd ⟨h, hn⟩ hstays, s.losing_group b g,
      if_neg hstays]
  case dark =>
    have hstays : ¬ (s.groups[g].aspect = .green ∧ s.names b g = false) := fun h => absurd (hdark.symm.trans h.1) nofun
    rw [s.startTransition_group_stays a b g (.inr (.inr hdark)) fun h hn => absurd ⟨h, hn⟩ hstays, s.losing_group b g,
      if_neg hstays]
  case unnamed =>
    have hstays : ¬ (s.groups[g].aspect = .green ∧ s.names b g = false) := fun h => hgreen h.1
    rw [s.startTransition_group_stays a b g (.inl hnames) fun h => absurd h hgreen, s.losing_group b g, if_neg hstays]
  case stuck => exact exec_detectorFaulty_due s d hpower ((Detector.stuck_iff _).2 ⟨hfaulty, hlimit, hrun⟩)
  case sound =>
    refine exec_detectorFaulty_idle s d fun hstuck => ?_
    obtain ⟨hfaulty, hlimit, hrun⟩ := (Detector.stuck_iff _).1 hstuck
    rcases h with h | h | h
    · exact Bool.false_ne_true (hfaulty.symm.trans h)
    · omega
    · omega
  case planChanged => rw [State.planChanged, pendingFor_running]

end Sys2Proof.Machine
end
